-- ==== Sys2Proof/Word.lean ====
section
/-! DEFINITION. The machine's words: registers and bus data are 32 bits, memory is addressed by bytes (R6, R7). -/

namespace Sys2Proof

/-- A register or bus word (R7). -/
abbrev Word := BitVec 32

/-- A byte of memory or of an object's value (R6). -/
abbrev Byte := BitVec 8

end Sys2Proof
end

