-- ==== Sys2Proof/Syntax.lean ====
section
/-! DEFINITION. The commands of the block: one constructor per row of spec/opcode_table.json, with the row's operands, and
the types the operands have. A command is what comes to the module from outside: an access of a register or a memory, a
request of the dictionary, a frame or a pulse on a line, an event on a pin, or the elapse of a time that a rule names. -/

namespace Sys2Proof


/-- Table 1.1: the bus initiators. -/
inductive Initiator where
  | sup | app0 | app1 | app2 | app3 | dma | debug | ctl | mac0 | mac1 | mac2 | mac3 | scan | cry | evr | mtr | upd
  deriving DecidableEq, Repr

/-- Table 1.1: an initiator's number. -/
def Initiator.number : Initiator → Nat
  | .sup => 0 | .app0 => 1 | .app1 => 2 | .app2 => 3 | .app3 => 4 | .dma => 5 | .debug => 6 | .ctl => 7
  | .mac0 => 8 | .mac1 => 9 | .mac2 => 10 | .mac3 => 11 | .scan => 12 | .cry => 13 | .evr => 14 | .mtr => 15 | .upd => 16

/-- Table 1.9: the clock domains. -/
inductive Domain where
  | fab | time | netA | netB | rad (n : Fin 4) | mod (n : Fin 10) | canf | aon
  deriving DecidableEq, Repr

/-- A key command (Tables 14.5 and 14.12): the fields of KEY_CMD, KEY_CMD_ARG, KEY_CMD_LABEL and
KEY_CMD_DATA. -/
structure KeyCmd where
  slot : Nat := 0
  parent : Nat := 0
  kind : Nat := 0
  twin : Nat := 0
  g : Nat := 0
  attr : Nat := 0
  label : List (BitVec 8) := []
  context : List (BitVec 8) := []
  data : List (BitVec 8) := []
  deriving DecidableEq, Repr

/-- A dictionary request as it arrives (Table 3.5): its header's fields and the bytes after the header; whether the server is occupied with other
sessions, so that the message waits in its session's receive queue (R100); and whether a persistent write of it succeeds (Table 3.7, STORAGE). The
opcode is the command's. -/
structure Msg where
  version : Nat := 1
  tid : Nat := 0
  idx : Nat := 0
  sub : Nat := 0
  flags : Nat := 0
  param : Nat := 0
  length : Nat := 0
  status : Nat := 0
  credit : Nat := 0
  body : List (BitVec 8) := []
  busy : Bool := false
  written : Bool := true
  deriving DecidableEq, Repr

/-- A DTLS handshake as a client offers it (R105, R106): the UDP port it goes to; whether it is DTLS 1.3; the codes of the cipher suites, groups
and signature algorithms it offers; whether it rests on a pre-shared key or a resumption, on early data or on a connection identifier; the key
slot of the anchor its certificate chain ends at, whether every signature of the chain verifies, and each certificate's validity, first and last
second of UTC since 1970. -/
structure ClientHello where
  port : Nat := 48071
  dtls13 : Bool := true
  suites : List Nat := [0x1301]
  groups : List Nat := [0x17]
  sigs : List Nat := [0x403]
  psk : Bool := false
  early : Bool := false
  cid : Bool := false
  slot : Nat := 0
  chain : Bool := true
  validity : List (Nat × Nat) := []
  deriving DecidableEq, Repr

/-- A radio frame as it is received: its PSDU without the FCS, from FRAME_CTRL to KEY_GEN, or the whole header where SEC is 0 (R163); its
payload as it stands on the air; its MIC; whether the FCS verifies; the start of its preamble in ns from the mark of the slot in progress, or of an
ACK that is awaited from the end of the frame it acknowledges; its channel, of the discovery plan or of the hop set; RSSI, carrier frequency offset,
the stamp; whether the cohort slot was invalidated while the CCM* operation of the frame, or of its acknowledgement, ran (R172), and whether the
drill unit drops it (R471). -/
structure RadioFrame where
  bytes : List (BitVec 8)
  body : List (BitVec 8) := []
  mic : List (BitVec 8) := []
  fcsOk : Bool := true
  start : Int := 2000000
  discovery : Bool := false
  channel : Nat := 0
  rssi : BitVec 8 := 0
  cfo : BitVec 8 := 0
  stamp : Nat := 0
  orphaned : Bool := false
  ackOrphaned : Bool := false
  dropped : Bool := false
  deriving DecidableEq, Repr

/-- An ENROL_REQUEST or HANDOVER_PROBE as it is heard (Tables 6.3, 6.5 and 6.7): SEGMENT_ID, the cohort its DST names, the lantern's
EUI-64, FLAGS, HW_CLASS, its counter, its MIC, and the short address of the relay that forwarded it. -/
structure EnrolRequest where
  segment : Nat
  cohort : Nat
  eui : List (BitVec 8)
  flags : Nat := 0
  hwClass : Nat := 0
  counter : Nat := 0
  mic : List (BitVec 8) := []
  relay : Nat := 0
  deriving DecidableEq, Repr

/-- A CAN frame (Table 10.3): its identifier, its format and its data bytes; whether it is extended, remote, FD, sent with a bit-rate
switch, and by an error-passive sender. -/
structure CanFrame where
  id : Nat
  xtd : Bool := false
  rtr : Bool := false
  fdf : Bool := true
  brs : Bool := true
  esi : Bool := false
  data : List (BitVec 8) := []
  deriving DecidableEq, Repr

/-- The commands: the rows of spec/opcode_table.json, in its order. -/
inductive Instr where
  /-- REGISTER_WRITE, R8. A write to a register that has no row of its own takes effect on its fields as their access codes define. -/
  | registerWrite (ini : Initiator) (addr width : Nat) (data : Option Word)
  /-- ABSENT_ACCESS, R13. An access to an address outside every region reads 0, sets SYS_BUS_ERR.ABSENT and aborts the initiating core. -/
  | absentAccess (ini : Initiator) (addr width : Nat) (data : Option Word)
  /-- REFUSED_MEMORY_ACCESS, R502. A memory access not permitted to its initiator is refused, sets SYS_BUS_ERR.PERM and aborts a core or gives an error response. -/
  | refusedMemoryAccess (ini : Initiator) (addr width : Nat) (data : Option (List (BitVec 8)))
  /-- SYS_PERM_WRITE, R20. A supervisor write of the permission registers stores each slot code capped at its highest grantable level. -/
  | sysPermWrite (ini : Initiator) (which : Fin 3) (v : Word)
  /-- CORE3_RUN, R24. The supervisor sets SYS_CORE3_CTRL.RUN after applying the permission table, releasing core 3 from reset. -/
  | core3Run
  /-- CORE3_RESTART, R24. A write of SYS_CORE3_CTRL.RESTART resets core 3 alone, discards its L2 ways, clears SYS_PERM_VIOL and starts it again. -/
  | core3Restart (ini : Initiator)
  /-- CORE3_HOLD, R44. 1 ms after the mode-change interrupt, or 4 ms after power-fail, the supervisor holds core 3 in reset. -/
  | core3Hold
  /-- CLOCK_LOST, R463. A SYS_CLKMON bit clears when an unrelated clock stops, and the module reacts for that domain. -/
  | clockLost (d : Domain) (rx tx : Bool)
  /-- CLOCK_RESTORED, R26. A SYS_CLKMON bit sets when its clock runs again within tolerance. -/
  | clockRestored (d : Domain)
  /-- QUEUE_PUSH, R31. A push completes at a write-side edge at which the write-side count is below the depth. -/
  | queuePush (q : Fin 34) (entry seen : Nat)
  /-- QUEUE_POP, R31. A pop completes at a read-side edge at which the read-side count is above 0. -/
  | queuePop (q : Fin 34) (seen : Nat)
  /-- QPTR_PARITY_MISMATCH, R34. A Gray pointer parity mismatch sets the queue's SYS_QFAULT bit and raises QPTR_PARITY. -/
  | qptrParityMismatch (q : Fin 34)
  /-- MODE_TICK, R54. At each 1 ms mode tick the supervisor evaluates the triggers of Table 2.2 in precedence order. -/
  | modeTick (t : Nat)
  /-- TRANSITION_COMPLETE, R47. TRANSITION_TIME expires; at dawn the contactors in CONT_MASK are de-energised and the phase advances. -/
  | transitionComplete (t : Nat)
  /-- ISLANDING_TIMEOUT, R52. Backhaul sessions and ring time have been absent for more than 30 s. -/
  | islandingTimeout (t : Nat)
  /-- COUNT_REPORT_TIMEOUT, R52. No count report has been received for 60 s in NIGHT_FOLLOWING. -/
  | countReportTimeout (t : Nat)
  /-- BAT_LOW_TIMEOUT, R52. BAT_LOW has been 1 for 10 s in BATTERY_WATCH. -/
  | batLowTimeout
  /-- PHOTOCELL_DARK, R46. PHOTO has stayed below DARK_LEVEL for 30 s and DARK is declared. -/
  | photocellDark (mv ms : Nat)
  /-- PHOTOCELL_LIGHT, R46. PHOTO has stayed above DARK_LEVEL + HYST for 120 s and light is declared. -/
  | photocellLight (mv ms : Nat)
  /-- HEARTBEAT_WRITE, R49. A write of AON_HEARTBEAT counts when it holds 0x5A or 0xA5 differing from the previous counting write. -/
  | heartbeatWrite (ini : Initiator) (v : Word)
  /-- HEARTBEAT_MISSING, R49. No counting heartbeat for 6,554 AON cycles clears SUP_OWN and switches the contactors to fallback. -/
  | heartbeatMissing
  /-- CONTACTOR_TAKE, R50. A supervisor write setting SUP_OWN takes ownership only if CMD equals OUT at that AON edge. -/
  | contactorTake (ini : Initiator) (cmd : Fin 16)
  /-- CONTACTOR_RELEASE, R48. A supervisor write of SUP_OWN = 0 while owning the outputs selects the released source. -/
  | contactorRelease (ini : Initiator) (cmd : Fin 16)
  /-- CONTACTOR_COMMAND, R48. A write of AON_CONT_CTRL.CMD sets the outputs while the source is supervisor. -/
  | contactorCommand (ini : Initiator) (cmd : Fin 16)
  /-- CONTACTOR_FORCE_ON, R463. SUP_CONT_FORCE.ON energises all four outputs through the override gated by the mains comparator. -/
  | contactorForceOn (ini : Initiator)
  /-- CONTACTOR_FORCE_OFF, R463. The supervisor clears SUP_CONT_FORCE.ON after taking the contactors once AON has run for 1 s. -/
  | contactorForceOff
  /-- MAINS_COMPARATOR_SET, R60. VIN rises through 17.0 V and the unclocked mains comparator output sets. -/
  | mainsComparatorSet (vin : Nat)
  /-- MAINS_SET, R60. The comparator output has stayed set for 100 ms and AON_STATUS.MAINS sets. -/
  | mainsSet
  /-- POWER_FAIL, R62. VIN falls below 16.0 V; MAINS clears, contactors de-energise and the power-fail interrupt starts the flush. -/
  | powerFail (vin : Nat)
  /-- FLUSH_COMPLETE, R63. The flush ends; the module stays in mode if MAINS has returned or enters BATTERY_WATCH or DEEP_SLEEP. -/
  | flushComplete
  /-- COLD_START, R60. A power-on or other reset release runs the start sequence of Table 2.3. -/
  | coldStart (chk0 chk1 : Bool) (bad : List (Nat × Nat)) (part : Option Nat) (mtrBad : Nat)
  /-- FIRST_MODE_DECISION, R40. The supervisor makes its first mode decision by the start rows of Table 2.2 and takes the contactors. -/
  | firstModeDecision
  /-- SUPPLY_CUT, R482. VIN falls below 9.0 V with no VBAT, and the module stops where it stands. -/
  | supplyCut (vin : Nat)
  /-- AON_SOURCE_CHANGE, R482. AON changes its running supply between VIN, VBAT and VCOIN without losing a cycle. -/
  | aonSourceChange (vin vbat : Nat)
  /-- MODULE_RESET, R467. A reset decided by a fault reaction takes effect, keeping the registers R467 names. -/
  | moduleReset (cause : Fin 8)
  /-- BATTERY_WATCH_SAVE, R65. Every 60 s in BATTERY_WATCH the supervisor saves the metering state to MRAM. -/
  | batteryWatchSave
  /-- BATTERY_WATCH_LIMIT, R65. The stay in BATTERY_WATCH reaches BATTERY_WATCH_LIMIT minutes. -/
  | batteryWatchLimit
  /-- BAT_LOW_SET, R66. VBAT falls below LOW_LEVEL and BAT_LOW sets. -/
  | batLowSet (vbat : Nat)
  /-- BAT_LOW_CLEAR, R66. VBAT rises 0.30 V above LOW_LEVEL and BAT_LOW clears. -/
  | batLowClear (vbat : Nat)
  /-- SLEEP, R67. A write of AON_PWR_CTRL.SLEEP removes every supply but AON's, unless MAINS is 1. -/
  | sleepCmd (ini : Initiator)
  /-- APP_OFF, R376. A write of AON_PWR_CTRL.APP_OFF removes power from the application cluster, radios, ring, bus and sinks. -/
  | appOff (ini : Initiator)
  /-- DEEP_SLEEP_WAKE, R68. A tamper or alarm with its wake enabled and BAT_LOW 0 starts the supervisor in BATTERY_WATCH. -/
  | deepSleepWake (tamper alarm : Bool)
  /-- TAMPER_LATCH, R69. An input asserted for 4 AON cycles sets its latch and captures its time, or advances COUNT. -/
  | tamperLatch (k : Fin 3) (cycles : Nat) (stays : Bool)
  /-- TAMPER_CLEAR, R72. An authorised write of TAMPER_CLEAR clears the named latches unless an input is asserted. -/
  | tamperClear (value : List (BitVec 8))
  /-- MODE_REQUEST, R55. An owner request of COMMISSION to DAY, DAY to DRILL or DRILL to DAY is evaluated at the next tick. -/
  | modeRequest (sess : Nat) (value : List (BitVec 8))
  /-- ROOT_GENERATION, R57. In PROVISION the supervisor generates, programs, verifies and commits the root secret. -/
  | rootGeneration (ok0 ok1 : Bool)
  /-- PAIR_HEARTBEAT_SEND, R330. The active module sends the pairing heartbeat every 100 ms on both buses. -/
  | pairHeartbeatSend (t : Nat)
  /-- PAIR_HEARTBEAT_RECEIVE, R330. A received heartbeat counts only if its MIC verifies and its (EPOCH, COUNT) advances. -/
  | pairHeartbeatReceive (t : Nat) (data : List (BitVec 8))
  /-- TAKEOVER, R75. A standby hearing no heartbeat for 1 s leaves listen-only, takes the contactors and enters the phase mode. -/
  | takeover (t : Nat)
  /-- MIRROR_REFRESH, R74. Every 10 s in STANDBY the module mirrors the partner's stored objects over the ring. -/
  | mirrorRefresh (t : Nat) (values : List (Nat × List (BitVec 8)))
  /-- OPEN, R108. An OPEN request fixes the session's buffer size B and returns the EUI-64. -/
  | openSession (sess : Nat) (msg : Msg)
  /-- CLOSE, R108. A CLOSE request ends the session. -/
  | closeSession (sess : Nat) (msg : Msg)
  /-- READ, R96. A READ request is checked in order and returns the object's value. -/
  | readObject (sess : Nat) (msg : Msg)
  /-- WRITE, R96. A WRITE request is checked in order and applied to the object. -/
  | writeObject (sess : Nat) (msg : Msg)
  /-- DESCRIBE, R112. A DESCRIBE request returns the object's descriptor. -/
  | describeObject (sess : Nat) (msg : Msg)
  /-- SEG_READ_START, R102. SEG_READ_START snapshots the value and returns its length. -/
  | segReadStart (sess : Nat) (msg : Msg)
  /-- SEG_READ_DATA, R102. SEG_READ_DATA returns bytes of the snapshot from the given offset. -/
  | segReadData (sess : Nat) (msg : Msg)
  /-- SEG_WRITE_START, R103. SEG_WRITE_START runs the checks and holds the object for the transfer. -/
  | segWriteStart (sess : Nat) (msg : Msg)
  /-- SEG_WRITE_DATA, R103. SEG_WRITE_DATA appends a segment at the bytes received; the LAST segment applies the value. -/
  | segWriteData (sess : Nat) (msg : Msg)
  /-- SEG_ABORT, R104. SEG_ABORT ends a segmented transfer, leaving the object unchanged. -/
  | segAbort (sess : Nat) (msg : Msg)
  /-- DECLARE, R113. DECLARE on the mailbox creates or redefines an integrator object. -/
  | declareObject (sess : Nat) (msg : Msg)
  /-- AUTH_LOCKOUT_END, R92. A lockout ends 60 s after it began and the failure count restarts. -/
  | authLockoutEnd (t : Nat)
  /-- SNAPSHOT_RELEASE, R102. A segmented-read snapshot is released after 10 s without a request. -/
  | snapshotRelease (sess tid t : Nat)
  /-- SEG_WRITE_HOLD_END, R104. A segmented write's hold ends 10 s after its last request, leaving the object unchanged. -/
  | segWriteHoldEnd (sess tid t : Nat)
  /-- SESSION_IDLE_TIMEOUT, R108. A ring session ends after SESSION_IDLE_TIMEOUT seconds without a record. -/
  | sessionIdleTimeout (sess t : Nat)
  /-- DTLS_HANDSHAKE, R105. A DTLS 1.3 handshake is accepted by certificate or refused beyond 16 sessions. -/
  | dtlsHandshake (t : Nat) (hello : ClientHello)
  /-- CLOSE_NOTIFY, R108. A DTLS close_notify alert ends the session. -/
  | closeNotify (sess : Nat)
  /-- SECURED_ENVELOPE, R109. A reassembled cabinet-bus envelope is accepted if its tag verifies and its COUNTER advances. -/
  | securedEnvelope (busy : Bool)
  /-- MAILBOX_POLL, R110. The server reads the mailbox control page at least every 100 µs and takes new requests. -/
  | mailboxPoll
  /-- RSP_TAIL_ADVANCE, R110. Core 3 advancing RSP_TAIL frees held responses and lets the server resume. -/
  | rspTailAdvance (tail : Word)
  /-- CONFIG_BACKUP, R85. Within 60 s of a write a stored object is copied to the NAND configuration backup. -/
  | configBackup (t : Nat)
  /-- TIME_NOW_LATCH, R118. A read of TIME_NOW_NS captures the local clock, fraction and stamp into the initiator's latch. -/
  | timeNowLatch (ini : Initiator)
  /-- SET, R119. TIME_CMD.SET loads TIME_SET_* into the local clock and advances EPOCH. -/
  | setClock (ini : Initiator)
  /-- STEP, R119. TIME_CMD.STEP adds TIME_STEP_* to the local clock, advances EPOCH and acts on armed triggers. -/
  | stepClock (ini : Initiator)
  /-- SERVO_OFFSET, R121. A written offset updates the servo's integral and frequency adjustment. -/
  | servoOffset (ini : Initiator) (v : Word)
  /-- HOLDOVER, R123. No offset for HOLD_TIMEOUT seconds puts the servo in HOLDOVER. -/
  | holdover (t : Nat)
  /-- CAPTURE_EDGE, R131. An edge on a CAPT input produces a capture record pushed to queue 22. -/
  | captureEdge (n : Fin 8) (rising : Bool) (q : Nat)
  /-- CAPTURE_RECORD_REMOVE, R131. A read of TIME_CAPT_REC3 removes the oldest capture record. -/
  | captureRecordRemove
  /-- INTERNAL_CAPTURE, R133. A CAN basic-cycle start or RTC second edge is captured into its register and advances SEQ. -/
  | internalCapture (k : Fin 3) (t : Nat)
  /-- TSQ_LATCH, R129. A read of TIME_TSQ_ID latches the oldest transmit timestamp entry. -/
  | tsqLatch (ini : Initiator)
  /-- TSQ_REMOVE, R129. A read of TIME_TSQ_NS removes the latched entry. -/
  | tsqRemove (ini : Initiator)
  /-- ARM, R135. A write of ARM arms a trigger unit at the edge it reaches TIME, firing at once with LATE if the instant has passed. -/
  | armTrigger (ini : Initiator) (n : Fin 16)
  /-- DISARM, R136. A write of DISARM disarms a trigger unit and its pin goes inactive. -/
  | disarmTrigger (ini : Initiator) (n : Fin 16)
  /-- TRIGGER_FIRE, R135. A trigger unit fires when the local clock reaches its instant. -/
  | triggerFire (n : Fin 16) (t : Nat) (samples : List (Option Int))
  /-- PULSE_END, R136. WIDTH ns after a firing the trigger pin goes inactive. -/
  | pulseEnd (n : Fin 16) (t : Nat)
  /-- PEER_DELAY_REQUEST, R126. At each peer-delay interval each ring port measures its peer delay and judges PTP capability. -/
  | peerDelayRequest (b : Bool) (delay : Option Nat)
  /-- PTP_SYNC, R127. A Sync on the chosen slave port yields an offset for the servo. -/
  | ptpSync (p : Fin 3) (steps gm : Nat) (better : Bool) (utc : Option (BitVec 16)) (x : Int)
  /-- SYNC_PORT_CHANGE, R127. After 3 Sync intervals without a Sync on the chosen port the module changes port. -/
  | syncPortChange
  /-- RTC_SECOND, R139. The RTC completes a compensated second and advances the calendar. -/
  | rtcSecond (cycles : Nat) (t : Nat)
  /-- RTC_TEMPERATURE_READ, R140. Every 8 s, or 64 s on VCOIN, the sensor is read and the crystal error E updated. -/
  | rtcTemperatureRead (secs : Nat) (temp : BitVec 16)
  /-- RTC_FREEZE, R141. A first RTC time-register read freezes all eight into shadows. -/
  | rtcFreeze (w : Fin 8)
  /-- RTC_FREEZE_RELEASE, R141. A read of AON_RTC_YEAR returns the frozen year and releases the freeze. -/
  | rtcFreezeRelease
  /-- FREEZE_EXPIRED, R141. A freeze held for 1 s releases itself and sets FREEZE_EXPIRED. -/
  | freezeExpired
  /-- HALT, R142. Setting AON_RTC_CTRL.HALT stops the calendar and starts TALLY. -/
  | rtcHalt (ini : Initiator)
  /-- RTC_RELEASE, R142. Clearing HALT resumes the calendar from the written values, or is refused for an invalid date. -/
  | rtcRelease (ini : Initiator)
  /-- RTC_TIME_WRITE, R142. A write of an RTC time register while halted is stored and resets the divider; otherwise refused. -/
  | rtcTimeWrite (ini : Initiator) (w : Fin 6) (v : Word)
  /-- RTC_ERROR_CHECK, R144. Hourly while LOCKED the supervisor compares RTC and local clock and resets the RTC if needed. -/
  | rtcErrorCheck
  /-- RTC_SET, R145. A write of RTC_SET sets the RTC by the halt procedure, refused while LOCKED. -/
  | rtcSet (value : List (BitVec 8))
  /-- SLOT_MARK, R154. A slot mark within ±250 µs starts a slot and advances the ASN. -/
  | slotMark (n : Fin 4) (err : Int)
  /-- FLYWHEEL_SLOT, R154. With no mark in range by 10,000 µs the MAC starts a slot by its crystal. -/
  | flywheelSlot (n : Fin 4)
  /-- SCHEDULE_COMMIT, R157. A write of MACn_SCHED_CTRL.COMMIT stages the schedule for the next slotframe boundary. -/
  | scheduleCommit (ini : Initiator) (n : Fin 4)
  /-- CELL_TRANSMIT, R161. In a transmit or shared cell the MAC sends the oldest owned entry that fits, after CCA in shared cells. -/
  | cellTransmit (n : Fin 4) (energy : Int) (late orphaned : Bool)
  /-- FRAME_RECEIVE, R168. A received frame passes the checks of Table 5.12 and is delivered, or is discarded and counted. -/
  | frameReceive (n : Fin 4) (f : RadioFrame)
  /-- ACK_RECEIVE, R170. An ACK from the addressed neighbour with valid MIC and matching LSN completes the transmit entry. -/
  | ackReceive (n : Fin 4) (f : RadioFrame)
  /-- ACK_TIMEOUT, R170. No ACK in its window: the frame is retransmitted or returned NO_ACK after TX_RETRIES. -/
  | ackTimeout (n : Fin 4)
  /-- EXPECTED_FRAME_MISSED, R174. An expected frame not received advances MISSED and widens the receive window. -/
  | expectedFrameMissed (n : Fin 4) (k : Fin 1024)
  /-- MAC_FLUSH, R181. A write of MACn_CTRL.FLUSH returns every owned transmit entry with FLUSHED. -/
  | macFlush (ini : Initiator) (n : Fin 4)
  /-- SCAN_RECEIVE, R184. SCAN receives a DISCOVERY frame into its own ring, counting other types. -/
  | scanReceive (f : RadioFrame) (full : Bool)
  /-- REGISTRATION, R189. A write of REGISTRATION registers, retires or empties a report card. -/
  | registrationWrite (l : Fin 4096) (value : List (BitVec 8))
  /-- ENROL_REQUEST, R198. An ENROL_REQUEST is decided by Table 6.9 and an ACCEPT or REJECT is queued. -/
  | enrolRequest (r : EnrolRequest)
  /-- DISCOVERY_CELL, R196. A discovery cell carries the oldest pending ENROL_ACCEPT or ENROL_REJECT, or a DISC_BEACON. -/
  | discoveryCell (c : Fin 4)
  /-- JOIN_TIMEOUT, R188. JOIN_TIMEOUT slotframes without a frame return an ENROLLING lantern to its previous state. -/
  | joinTimeout (l : Fin 4096)
  /-- LOST_AFTER, R188. LOST_AFTER hours in DEMOTED make the lantern LOST and release its entry. -/
  | lostAfter (l : Fin 4096)
  /-- JOIN, R211. A JOIN command from a lantern records its class, version and features. -/
  | lanternJoin (l : Fin 4096) (body : List (BitVec 8))
  /-- KEY_READY, R205. A KEY_READY from a lantern confirms its key update. -/
  | keyReady (l : Fin 4096) (gen : BitVec 8)
  /-- LEAVE, R188. A LEAVE from a lantern moves its card to REGISTERED. -/
  | lanternLeave (l : Fin 4096) (reason : BitVec 8)
  /-- ENROL_FORWARD, R211. A relay's ENROL_FORWARD delivers a request heard by the relay. -/
  | enrolForward (relay : Nat) (rssi : BitVec 8) (r : EnrolRequest)
  /-- HEALTH_REPORT, R212. A lantern's health report updates its report card. -/
  | healthReport (l : Fin 4096) (body : List (BitVec 8))
  /-- ENERGY_REPORT, R212. A lantern's energy report updates its card and feeds control and reconciliation. -/
  | energyReport (l : Fin 4096) (body : List (BitVec 8))
  /-- DICTIONARY_MESSAGE, R213. A DATA 0x10 dictionary message from a lantern is handled. -/
  | dictionaryMessage (l : Fin 4096) (body : List (BitVec 8))
  /-- HANDOVER_PROBE, R209. A HANDOVER_PROBE updates PROBE_RSSI or PROBES_HEARD, or is discarded. -/
  | handoverProbe (r : EnrolRequest) (rssi : BitVec 8)
  /-- HANDOVER_POLL, R210. Once per PROBE_INTERVAL the home module reads its peers' PROBES_HEARD and may send HANDOVER. -/
  | handoverPoll (peer : List (BitVec 8)) (peerSegment : Nat) (peerDay : Bool) (heard : List (BitVec 8))
  /-- KEY_RENEWAL, R205. Every KEY_RENEWAL days in DAY the module writes new cohort keys and sends KEY_UPDATE. -/
  | keyRenewal (c : Fin 4)
  /-- KEY_ACTIVATION, R205. At ACTIVATE_ASN MACn_KEY.SLOT switches to the renewed slot. -/
  | keyActivation (c : Fin 4)
  /-- KEY_OVERLAP_END, R168. KEY_OVERLAP seconds after a change the previous generation is no longer accepted. -/
  | keyOverlapEnd (n : Fin 4)
  /-- REBALANCE, R203. A write of REBALANCE moves members out of overfull cohorts by COMMAND MOVE. -/
  | rebalance (value : List (BitVec 8))
  /-- COUNT_REPORT, R216. A count report is checked, its events placed on the local clock and counted. -/
  | countReport (l : Fin 4096) (body : List (BitVec 8)) (stamp epoch asn : Nat)
  /-- WINDOW_FINALISE, R224. At end + LATE_ALLOWANCE a zone window is finalised and logged. -/
  | windowFinalise
  /-- GRAPH_COMMIT, R228. A write of GRAPH_COMMIT builds the predictor model or is refused with a reason. -/
  | graphCommit (value : List (BitVec 8))
  /-- EDGE_MESSAGE_SEND, R233. After each EDGE_PERIOD interval the module sends EDGE_IN to each live peer. -/
  | edgeMessageSend (links : List (Nat × Nat × Nat))
  /-- EDGE_IN, R234. An accepted EDGE_IN applies boundary flow and replaces predicted inflow. -/
  | edgeIn (value : List (BitVec 8))
  /-- PORT_STALE, R235. A port without an accepted message for EDGE_STALE periods becomes STALE. -/
  | portStale (p : Fin 64)
  /-- SAMPLE_DONE, R249. A sample completes and, with OUTPUT_EN, switches OUT_HALF. -/
  | sampleDone (t : Nat)
  /-- MISSED, R259. A sample not complete at its deadline is abandoned and counted. -/
  | sampleMissed (t : Nat)
  /-- COEFF_SWAP, R255. A swap request through COEFF_SWAP or CTL_CTRL.SWAP is accepted or refused. -/
  | coeffSwap (ini : Option Initiator) (value : List (BitVec 8))
  /-- LIGHT_MAP_BUILD, R264. Firmware builds and queues light-map frames 5 ms before the cell. -/
  | lightMapBuild (asn : Nat)
  /-- FLYWHEEL_FRAME, R276. With no firing in range MTR makes a frame by its own count. -/
  | flywheelFrame (t : Nat) (samples : List (Option Int))
  /-- CURRENT_ONLY_FRAME, R294. In BATTERY_WATCH MTR paces current-only frames every 500 µs. -/
  | currentOnlyFrame (samples : List (Option Int))
  /-- MODULATOR_OVERRUN, R277. A modulator queue overrun yields invalid samples that are concealed. -/
  | modulatorOverrun (n : Fin 10)
  /-- CYCLE_BOUNDARY, R280. A valid zero crossing ends a line cycle and its quantities are computed. -/
  | cycleBoundary (t : Nat) (est : Option (Int × Int))
  /-- SYNTHETIC_BOUNDARY, R280. With no valid crossing within 1.2 periods MTR makes a synthetic boundary. -/
  | syntheticBoundary (t : Nat)
  /-- LATCH_VIEW, R287. A read of MTR_LATCH_SEQ copies the latest latch record into the reader's view. -/
  | latchView (ini : Initiator)
  /-- ENERGY_RESET, R273. ENERGY_RESET in COMMISSION zeroes every energy register at the next boundary. -/
  | energyReset (value : List (BitVec 8))
  /-- RECONCILIATION, R297. At end + RECON_DELAY an interval's residual and verdict are computed. -/
  | reconciliation (start : Nat)
  /-- CAN_RECEIVE, R307. A received CAN frame is stamped, filtered and stored in a FIFO. -/
  | canReceive (b : Fin 2) (f : CanFrame) (err count t : Nat)
  /-- FIFO_RELEASE, R309. A write of CANn_FIFOk_RELEASE frees the oldest elements. -/
  | fifoRelease (ini : Initiator) (b k : Fin 2) (v : Word)
  /-- TX_REQUEST, R310. A write of CANn_TX_REQ makes buffers pending. -/
  | txRequest (ini : Initiator) (b : Fin 2) (hi : Bool) (v : Word)
  /-- TX_CANCEL, R313. A write of CANn_TX_CANCEL cancels a pending buffer or lets its frame finish. -/
  | txCancel (ini : Initiator) (b : Fin 2) (hi : Bool) (v : Word) (begun : Option (Fin 64))
  /-- FRAME_TRANSMITTED, R310. A transmission ends, returning the buffer or retrying after arbitration loss or error. -/
  | frameTransmitted (b : Fin 2) (m : Fin 64) (result : Fin 3) (count t : Nat)
  /-- COLUMN_START, R315. At a column start the controller begins an EXCLUSIVE frame or opens an arbitration window. -/
  | columnStart (b : Fin 2) (c : Fin 32) (count t : Nat)
  /-- TIMETABLE_COMMIT, R316. A write of CANn_SCHED_CTRL.COMMIT stages the Timetable for basic cycle 0. -/
  | timetableCommit (ini : Initiator) (b : Fin 2)
  /-- BELL, R320. As current master the module sends its Bell on the CYCLE_LEN grid. -/
  | bellSend (b : Fin 2) (late : Bool) (count t : Nat)
  /-- BELL_RECEIVE, R321. A received Bell synchronises a follower and may end mastership. -/
  | bellReceive (b : Fin 2) (priority : Fin 8) (payload : List (BitVec 8)) (count t : Nat)
  /-- BELL_REPLACE, R319. A master or backup missing an expected Bell sends its own BELL_WAIT µs later. -/
  | bellReplace (b : Fin 2) (count t : Nat)
  /-- BELL_LOSS, R321. A follower without a Bell within the limit ceases to be synchronised. -/
  | bellLoss (b : Fin 2) (t : Nat)
  /-- SILENT_BASIC_CYCLE_START, R322. Without Bells the core makes a silent basic-cycle start every CYCLE_LEN. -/
  | silentBasicCycleStart (b : Fin 2) (count t : Nat)
  /-- BIT_RATE_CHANGE, R304. New bit rates apply at the next bus idle and cancel pending buffers. -/
  | bitRateChange (b : Fin 2)
  /-- LISTEN_ONLY, R323. A change of LISTEN_ONLY takes effect at the next bus idle. -/
  | listenOnly (b : Fin 2)
  /-- FRAGMENT_TIMEOUT, R324. A gap of more than 100 ms discards a partial envelope. -/
  | fragmentTimeout (b : Fin 2) (node : Nat) (t : Nat)
  /-- ROLL_CALL, R327. Each whole second the module sends ROLL_CALL on both buses. -/
  | rollCall (t : Nat)
  /-- PRESENT, R327. A PRESENT within 200 ms with matching ROUND, KEY_GEN and MIC is accepted. -/
  | rollPresent (b : Fin 2) (node : Nat) (body : List (BitVec 8)) (t : Nat)
  /-- ANSWER_WINDOW_END, R327. At the end of the 200 ms window presence and absence are decided. -/
  | answerWindowEnd (t : Nat)
  /-- ANNOUNCE, R328. An ANNOUNCE is checked and answered with ASSIGN. -/
  | announce (b : Fin 2) (body : List (BitVec 8))
  /-- OPTIC_INSERT, R334. On insertion firmware reads the optic's identification and sets COMPLIANT. -/
  | opticInsert (p : Fin 2) (id : List (BitVec 8))
  /-- OPTIC_REMOVE, R334. A removal asserts TX_DISABLE at once. -/
  | opticRemove (p : Fin 2) (rx tx : Bool)
  /-- OPTIC_DIAG_READ, R334. Every 1 s the digital diagnostics are read. -/
  | opticDiagRead (p : Fin 2) (diag : List (BitVec 8))
  /-- SFP_OVERCURRENT, R495. A cage drawing over 0.60 A for 1 ms has its supply switched off. -/
  | sfpOvercurrent (p : Fin 2) (rx tx : Bool)
  /-- LINK_UP, R335. block_lock held 10 ms with hi_ber clear brings the link up. -/
  | linkUp (p : Fin 2)
  /-- LINK_DOWN, R335. Loss of block_lock, hi_ber or LOS takes the link down. -/
  | linkDown (p : Fin 2) (los rx tx : Bool)
  /-- MAINT_LINK_CHANGE, R347. The maintenance port link changes after auto-negotiation. -/
  | maintLinkChange (speed : Fin 3)
  /-- RING_FRAME_RECEIVE, R339. A frame on a ring port is forwarded, delivered to the host or discarded. -/
  | ringFrameReceive (p : Fin 3) (f : List (BitVec 8)) (fcsOk : Bool) (q residence : Nat)
  /-- DUPLICATE_FORGET, R340. A duplicate-discard entry is forgotten 400 ms after it was made. -/
  | duplicateForget (t : Nat)
  /-- SUPERVISION_FRAME, R338. Every LifeCheckInterval the module sends an HSR supervision frame. -/
  | supervisionFrame
  /-- RING_OPEN, R341. No own supervision frame returned for 3 intervals sets RING_OPEN. -/
  | ringOpen (t : Nat)
  /-- ADDRESS_AGE_OUT, R342. An address-table entry ages out after 300 s. -/
  | addressAgeOut (t : Nat)
  /-- LLDP_SEND, R348. Every LLDP_INTERVAL the module sends LLDP on each port whose link is up. -/
  | lldpSend (p : Fin 3)
  /-- LLDP_NEIGHBOUR_EXPIRE, R348. A neighbour is dropped when its TTL expires. -/
  | lldpNeighbourExpire (p : Fin 3) (t : Nat)
  /-- DESCRIPTOR_FETCH, R352. The engine fetches a descriptor and checks it and its pairs before any beat moves. -/
  | descriptorFetch (c : Fin 16)
  /-- DESCRIPTOR_RETURN, R351. A descriptor completes and is returned by one write-back. -/
  | descriptorReturn (c : Fin 16)
  /-- BEAT_ERROR, R354. A beat meets an error response; the descriptor returns BUS_ERROR and the channel halts. -/
  | beatError (c : Fin 16) (offset count : Nat)
  /-- RESUME, R355. A write of DMA_CHc_CTRL.RESUME restarts a halted channel. -/
  | dmaResume (ini : Initiator) (c : Fin 16)
  /-- CHANNEL_DISABLE, R356. Clearing DMA_CHc_CFG.EN stops the channel at once. -/
  | channelDisable (ini : Initiator) (c : Fin 16)
  /-- CHANNEL_ENABLE, R359. Setting EN on a receive channel may raise CONFIG_WARN. -/
  | channelEnable (ini : Initiator) (c : Fin 16)
  /-- DMA_RX_FRAME, R358. A host frame is written into consecutive receive descriptors. -/
  | dmaRxFrame (c : Fin 16)
  /-- RX_WAIT_TIMEOUT, R359. A frame waiting for descriptors 1 ms is dropped and counted. -/
  | rxWaitTimeout (c : Fin 16) (t : Nat)
  /-- DMA_TX_FRAME, R357. A host transmit frame leaves its port or is discarded NOT_SENT. -/
  | dmaTxFrame (p : Fin 3) (q : Nat)
  /-- LOOP_TICK, R367. Every 20 µs the sink block applies settings and runs the headroom loop. -/
  | loopTick (t : Nat) (vled : Bool) (meas : List (Nat × Nat))
  /-- SINK_OVERCURRENT, R369. A channel above the overcurrent level is cut within 2 µs. -/
  | sinkOvercurrent (c : Fin 24)
  /-- OC_CLEAR, R369. Clearing OC reconnects the channel at the next tick if EN is 1. -/
  | ocClear (ini : Initiator) (c : Fin 24)
  /-- BANK_TEMP_READ, R370. Every 1 ms each bank temperature is read and f_b updated. -/
  | bankTempRead (b : Fin 3) (temp : BitVec 16)
  /-- STRING_FAULT_SET, R371. An OPEN or SHORT condition held 10 ms sets its flag. -/
  | stringFaultSet (c : Fin 24) (short : Bool) (t : Nat)
  /-- STRING_FAULT_CLEAR, R371. A string flag clears after 10 ms without its condition. -/
  | stringFaultClear (c : Fin 24) (short : Bool) (t : Nat)
  /-- HDRM_LIMIT, R372. FB held at a clamp for 100 ms sets HDRM_LIMIT. -/
  | hdrmLimit (t : Nat)
  /-- HAL_COMMIT, R375. A write of HAL_x_CTRL.COMMIT requests application of the staging copy. -/
  | halCommit (ini : Initiator) (x : Fin 2)
  /-- HAL_FRAME_START, R375. A halyard frame begins after its gap, applying a pending commit. -/
  | halFrameStart (x : Fin 2) (t : Nat)
  /-- FRAME_DONE, R375. A halyard frame's last cell ends and the gap begins. -/
  | frameDone (x : Fin 2) (t : Nat)
  /-- HAL_DISABLE, R376. Clearing HAL_x_CTRL.EN ends the frame at the end of the pennant in progress. -/
  | halDisable (ini : Initiator) (x : Fin 2)
  /-- ROTATION_START, R387. At each ROTATION_PERIOD a calibration rotation begins. -/
  | rotationStart (t : Nat)
  /-- CAL_SETTLE, R386. After 250 ms of settling CAL starts an accumulation. -/
  | calSettle (t : Nat)
  /-- CAL_ACC_START, R386. A write of CAL_ACC_CTRL_k.START begins an accumulation. -/
  | calAccStart (ini : Initiator) (k : Fin 2) (v : Word)
  /-- ACC_READY, R386. An accumulator finishes and CAL acts on its results. -/
  | accReady (k : Fin 2) (ratio delay mean : Int) (rms : Nat)
  /-- REF_CHECK, R384. Every 60 s CAL compares reference A with B and may raise CAL_REF. -/
  | refCheck (diff : Int)
  /-- CHANNEL_CLEAR, R391. A seal-authorised CHANNEL_CLEAR returns a FAULTY input to service. -/
  | channelClear (sess : Nat) (value : List (BitVec 8))
  /-- RTC_CURVE_INTERVAL, R397. After 1,024 RTC seconds CAL measures the crystal and moves curve points. -/
  | rtcCurveInterval
  /-- SINK_REF_CALIBRATION, R398. Every 60 s CAL calibrates each bank's sense chain. -/
  | sinkRefCalibration (e0 e1 e2 : BitVec 16)
  /-- SINK_TRIM, R398. Every 1 s CAL adjusts each qualifying channel's GAIN trim. -/
  | sinkTrim (t : Nat)
  /-- RAD_PPM_ESTIMATE, R399. Over 1,000 slots CAL estimates each transceiver's crystal offset. -/
  | radPpmEstimate (n : Fin 4) (cycles : Nat)
  /-- EFFICIENCY_WINDOW, R400. At each TRAFFIC_WINDOW end sensor efficiencies are updated. -/
  | efficiencyWindow (t : Nat)
  /-- GENERATE, R408. GENERATE writes DRBG output or a new key pair to a slot. -/
  | keyGenerate (ini : Initiator) (c : KeyCmd)
  /-- DERIVE, R406. DERIVE writes a slot by SP 800-108 under its parent. -/
  | keyDerive (ini : Initiator) (c : KeyCmd)
  /-- IMPORT_PUBLIC, R408. IMPORT_PUBLIC writes a validated public key to a slot. -/
  | importPublic (ini : Initiator) (c : KeyCmd)
  /-- IMPORT_WRAPPED, R414. IMPORT_WRAPPED writes a slot from a wrapped entry. -/
  | importWrapped (ini : Initiator) (c : KeyCmd)
  /-- AGREE, R413. AGREE writes slot 5 from slot 3 and the partner's public key. -/
  | keyAgree (ini : Initiator) (c : KeyCmd)
  /-- INVALIDATE, R410. INVALIDATE makes a slot INVALID and orphans its descendants. -/
  | keyInvalidate (ini : Initiator) (c : KeyCmd)
  /-- ERASE, R408. ERASE makes an INVALID or TAG_FAIL slot EMPTY. -/
  | keyErase (ini : Initiator) (c : KeyCmd)
  /-- KEY_SCRUB, R404. The scrub checks each slot's tag at least every 600 s. -/
  | keyScrub (fails : Bool)
  /-- PARTNER_AGREE_PUB, R413. A write of the partner's public key runs AGREE into slot 5. -/
  | partnerAgreePub (value : List (BitVec 8))
  /-- KEY_SHARE, R414. The active module writes the partner's KEY_IMPORT after a cohort slot write and hourly. -/
  | keyShare (linked : Bool)
  /-- KEY_IMPORT, R414. A standby accepts KEY_IMPORT and writes the carried cohort slots. -/
  | keyImport (value : List (BitVec 8))
  /-- AES_CCM, R415. A queue job seals or opens with AES-CCM. -/
  | aesCcm (q : Fin 4) (bad : List (Fin 256)) (hold : Bool)
  /-- AES_GCM, R415. A queue job seals or opens with AES-GCM. -/
  | aesGcm (q : Fin 4) (bad : List (Fin 256)) (hold : Bool)
  /-- AES_CMAC, R415. A queue job computes an AES-CMAC. -/
  | aesCmac (q : Fin 4) (bad : List (Fin 256)) (hold : Bool)
  /-- SHA_256, R415. A queue job computes a SHA-256 digest. -/
  | sha256 (q : Fin 4) (bad : List (Fin 256)) (hold : Bool)
  /-- SHA_384, R415. A queue job computes a SHA-384 digest. -/
  | sha384 (q : Fin 4) (bad : List (Fin 256)) (hold : Bool)
  /-- ECDSA, R415. A queue job signs or verifies with ECDSA. -/
  | ecdsa (q : Fin 4) (bad : List (Fin 256)) (hold : Bool)
  /-- ECDH, R415. A queue job computes an ECDH shared x-coordinate. -/
  | ecdh (q : Fin 4) (bad : List (Fin 256)) (hold : Bool)
  /-- RANDOM, R415. A queue job returns DRBG output. -/
  | randomJob (q : Fin 4) (bad : List (Fin 256)) (hold : Bool)
  /-- WRAP_LINK, R415. A queue job forms the wrapped link and cohort key block. -/
  | wrapLink (q : Fin 4) (bad : List (Fin 256)) (hold : Bool)
  /-- WRAP_CB, R415. A queue job forms the wrapped cabinet-bus link key. -/
  | wrapCb (q : Fin 4) (bad : List (Fin 256)) (hold : Bool)
  /-- WRAP_SLOT, R415. A queue job forms one wrapped entry of KEY_IMPORT. -/
  | wrapSlot (q : Fin 4) (bad : List (Fin 256)) (hold : Bool)
  /-- STORE_CODE, R415. A queue job wraps an installation code under slot 1. -/
  | storeCode (q : Fin 4) (bad : List (Fin 256)) (hold : Bool)
  /-- TRNG_HEALTH_FAIL, R417. A failed TRNG health test clears TRNG_OK and raises TRNG. -/
  | trngHealthFail (apt : Bool)
  /-- DRBG_RESEED, R417. The DRBG reseeds every 65,536 requests or 60 s. -/
  | drbgReseed
  /-- DRBG_RESUME, R417. After 1,024 passing samples and a reseed the DRBG resumes. -/
  | drbgResume
  /-- MANIFEST, R425. An accepted manifest discards staging and erases the inactive bank. -/
  | manifestWrite (value : List (BitVec 8))
  /-- STAGE_BLOCK, R426. A block of a part is appended and the part's digest checked at completion. -/
  | stageBlock (value : List (BitVec 8))
  /-- ACTIVATE, R429. An accepted ACTIVATE snapshots the dictionary, stops metering and resets into the new bank. -/
  | activateUpdate (value : List (BitVec 8))
  /-- ABORT, R434. ABORT discards staging, or during probation forces a fallback. -/
  | abortUpdate (value : List (BitVec 8)) (owner : Bool)
  /-- SEAL_OPEN, R428. A seal-authorised SEAL_OPEN opens or closes the metrology seal. -/
  | sealOpen (value : List (BitVec 8))
  /-- SEAL_CLOSE, R428. The metrology seal closes at the end of its time. -/
  | sealClose (t : Nat)
  /-- CONFIRM, R433. A write of UPD_CONFIRM equal to SEQUENCE confirms the new set. -/
  | confirmSet (ini : Initiator) (v : Word)
  /-- INTEGRATOR_HEALTH, R433. Core 3 writes INTEGRATOR_HEALTH to satisfy the confirmation condition. -/
  | integratorHealth (sess : Nat) (value : List (BitVec 8))
  /-- PROBATION_SAVE, R432. Every 10 s the probation elapsed count is saved in the journal. -/
  | probationSave (t : Nat)
  /-- PROBATION_EXPIRY, R434. UPD_PROB_ELAPSED reaches the limit without a confirmation. -/
  | probationExpiry (t : Nat)
  /-- PROGRESS, R439. A lantern's image PROGRESS updates its transfer state. -/
  | imageProgress (l : Fin 4096) (body : List (BitVec 8))
  /-- LANTERN_ACTIVATE, R439. A write of LANTERN_ACTIVATE lets VERIFIED lanterns of a class be activated. -/
  | lanternActivate (value : List (BitVec 8))
  /-- IMAGE_ACTIVATION_TIMEOUT, R439. No JOIN with the new version within the limit marks the card FAILED. -/
  | imageActivationTimeout (l : Fin 4096)
  /-- EVR_SUBMIT, R456. A write of EVR_SUB_6 submits a record, which takes its SEQ. -/
  | evrSubmit (ini : Initiator) (v : Word)
  /-- EVR_FLUSH, R447. A flush writes every buffered record to the log in SEQ order. -/
  | evrFlush
  /-- FLUSH_REQUEST, R447. A write of EVR_CTRL.FLUSH triggers a flush. -/
  | flushRequest
  /-- LOG_CLEAR, R452. An authorised LOG_CLEAR empties the log with a CLEARED record. -/
  | logClear (value : List (BitVec 8))
  /-- INTEGRATOR_EVENT, R453. A mailbox write of INTEGRATOR_EVENT records an integrator event. -/
  | integratorEvent (sess : Nat) (value : List (BitVec 8))
  /-- RECORDS, R451. A read of RECORDS flushes if needed and returns stored records. -/
  | readRecords (sess : Nat) (msg : Msg)
  /-- HOIST_CLEAR, R466. A write of HOIST_CLEAR clears named flags unless one is active. -/
  | hoistClear (value : List (BitVec 8))
  /-- WATCHDOG_KICK, R469. A kick of a watchdog restarts its count. -/
  | watchdogKick (ini : Initiator) (c : Fin 4) (v : Word) (cycles : Nat)
  /-- WATCHDOG_EXPIRY, R469. A watchdog expires, raising its flag and resetting the module. -/
  | watchdogExpiry (w : Fin 4)
  /-- CORE_STALL, R460. A core retiring nothing for 10 ms raises CORE_CHECK or CORE3_FAULT. -/
  | coreStall (c : Fin 4)
  /-- LOCKSTEP_MISMATCH, R459. A supervisor lockstep mismatch raises LOCKSTEP and resets the module. -/
  | lockstepMismatch
  /-- RETIREMENT_MISMATCH, R460. A retirement checker mismatch stops the core and raises its flag. -/
  | retirementMismatch (c : Fin 4)
  /-- ECC_ERROR, R462. A one-bit error is corrected; a two-bit error raises ECC_UNCORR. -/
  | eccError (ini : Initiator) (addr : Nat) (l2 : Option (Fin 16)) (two : Bool) (desc : Option (Fin 16 × Nat × Nat))
  /-- SCRUB_PASS, R459. The RAM scrubs visit TCM, L2, MRAM and DRAM at their intervals. -/
  | scrubPass (m : Fin 3) (progress : Fin 101)
  /-- REGISTER_PARITY_ERROR, R459. A register parity error raises CONFIG and resets the module. -/
  | registerParityError
  /-- FABRIC_ECC_ERROR, R459. A fabric transfer error raises FABRIC and gives an error response. -/
  | fabricEccError (ini : Initiator)
  /-- RAIL_FAULT, R459. An internal rail out of window raises RAIL and resets the module. -/
  | railFault
  /-- TIME_CHECK_MISMATCH, R459. The two local-clock counters disagree; TIME_CHECK is raised. -/
  | timeCheckMismatch
  /-- CLOCK_RATE_ERROR, R459. FAB differs from AON by more than 100 ppm; CLOCK_RATE is raised. -/
  | clockRateError (ppm : Int)
  /-- TRIG_READBACK_MISMATCH, R459. A TRIG pad differing from its driven state for 10 ns raises TRIG_READBACK. -/
  | trigReadbackMismatch (pads : BitVec 8)
  /-- CONT_READBACK, R470. A contactor sensed state differing from OUT for 10 ms raises CONT_READBACK. -/
  | contReadback (ma0 ma1 ma2 ma3 : Nat)
  /-- CTL_RESIDUE_MISMATCH, R461. A CTL residue mismatch abandons the sample and raises CTL_CHECK. -/
  | ctlResidueMismatch
  /-- OVERTEMP, R465. A supervisor or cluster die sensor above 125 °C raises OVERTEMP. -/
  | overtemp (sup app : BitVec 16)
  /-- PROOF_STEP, R473. A proof-test step passes or its limit expires, and the next step runs or the test ends. -/
  | proofStep (passed : Bool)
  /-- QUEUE_STALL, R471. DRL_QSTALL.GO stalls a queue side for the set cycles. -/
  | queueStall (ini : Initiator) (v : Word)
  /-- QUEUE_STALL_END, R471. A queue stall ends after its cycles. -/
  | queueStallEnd
  /-- INJECT_ONE_BIT_ECC, R504. DRL_INJECT KIND 1 corrupts one bit of a memory word or its L2 copy. -/
  | injectOneBitEcc (ini : Initiator) (target : BitVec 8)
  /-- INJECT_TWO_BIT_ECC, R504. DRL_INJECT KIND 2 corrupts two bits of a memory word or its L2 copy. -/
  | injectTwoBitEcc (ini : Initiator) (target : BitVec 8)
  /-- INJECT_LOCKSTEP, R472. DRL_INJECT KIND 3 forces a lockstep mismatch. -/
  | injectLockstep (ini : Initiator) (target : BitVec 8)
  /-- INJECT_CLOCK_MONITOR, R472. DRL_INJECT KIND 4 forces a SYS_CLKMON bit to 0. -/
  | injectClockMonitor (ini : Initiator) (target : BitVec 8)
  /-- INJECT_GRAY_PARITY, R472. DRL_INJECT KIND 5 corrupts a queue pointer parity. -/
  | injectGrayParity (ini : Initiator) (target : BitVec 8)
  /-- INJECT_ERROR_RESPONSE, R504. DRL_INJECT KIND 6 makes an access at the address return an error response. -/
  | injectErrorResponse (ini : Initiator) (target : BitVec 8)
  /-- INJECT_RETIREMENT_CHECKER, R472. DRL_INJECT KIND 7 forces a retirement checker mismatch on a core. -/
  | injectRetirementChecker (ini : Initiator) (target : BitVec 8)
  /-- INJECT_CTL_RESIDUE, R472. DRL_INJECT KIND 8 forces a CTL residue mismatch. -/
  | injectCtlResidue (ini : Initiator) (target : BitVec 8)
  /-- INJECT_WATCHDOG_EXPIRY, R472. DRL_INJECT KIND 9 forces a watchdog or stall monitor expiry. -/
  | injectWatchdogExpiry (ini : Initiator) (target : BitVec 8)
  /-- INJECT_SINK_OVERCURRENT, R472. DRL_INJECT KIND 10 trips a sink overcurrent comparator. -/
  | injectSinkOvercurrent (ini : Initiator) (target : BitVec 8)
  /-- INJECT_TRNG_STUCK, R472. DRL_INJECT KIND 11 makes the TRNG stuck. -/
  | injectTrngStuck (ini : Initiator) (target : BitVec 8)
  /-- INJECT_LOCAL_CLOCK_COUNTER, R472. DRL_INJECT KIND 12 corrupts a local-clock counter. -/
  | injectLocalClockCounter (ini : Initiator) (target : BitVec 8)
  /-- FALLBACK_CHECK, R471. DRL_AON_TEST.FALLBACK_CHECK runs the heartbeat timer with the output stage inhibited. -/
  | fallbackCheck (ini : Initiator)
  /-- FALLBACK_CHECK_DONE, R471. The fallback check completes with WOULD_OUT and WOULD_TIME. -/
  | fallbackCheckDone (cycles : BitVec 16)
  /-- DRILL_CLEAR, R471. DRL_CTRL.CLEAR ends every drill setting. -/
  | drillClear (ini : Initiator) (v : Word)
  /-- DEBUG_UNLOCK, R476. An authorised DEBUG_UNLOCK unlocks the debug port for one reset period. -/
  | debugUnlock (value : List (BitVec 8))
  /-- BUS_OFF_RECOVERY, R303. A CAN controller in bus-off completes the ISO 11898-1 recovery and returns to error-active. -/
  | busOffRecovery (b : Fin 2)
  /-- ALL_SUPPLIES_ABSENT, R78. VCOIN falls below its retention level while VIN and VBAT are absent, and the AON registers take their reset values. -/
  | allSuppliesAbsent
  /-- DEBUG_PORT_REQUEST, R476. A request on the DBG pins is answered with identification only while locked, or reaches initiators while unlocked. -/
  | debugPortRequest (req : Option (Initiator × Nat × Nat × Option Word))
  /-- SYNC_TRANSMIT, R127. While the module is grandmaster or boundary-clock master it sends a Sync at each SYNC_LOG_INTERVAL. -/
  | syncTransmit (p : Fin 3) (t : Nat)
  deriving DecidableEq, Repr

end Sys2Proof
end

