-- ==== Sys2Proof/Decode.lean ====
section
/-! DEFINITION. spec/opcode_table.json gives no row any bits: the block's commands are accesses, requests and events, and no
word spells one. -/

namespace Sys2Proof

/-- The command a word of the table's bits spells: none, for every word. -/
def decodeTableWord (_nbits _w : Nat) : Option Instr := none

end Sys2Proof
end

