-- ==== Sys2Proof/Config.lean ====
section
/-! DEFINITION. What the spec leaves open, or gives by a published standard without the arithmetic: constants with no body.
Nothing in Lean can evaluate them or prove a value of them, so a statement that holds, holds whatever they are
(log entries 2 and 7). -/

namespace Sys2Proof.Config

/-- A free value: the n-th value the spec leaves open in a run, applied to the step counter `State.freeIx` (log entry 2). -/
opaque freeNat : Nat → Nat

/-- AES-CCM and CCM* sealing: tag length, key, nonce, associated data, message; the ciphertext and tag (R164, R195, R415). -/
opaque ccmSeal : Nat → List Byte → List Byte → List Byte → List Byte → List Byte

/-- AES-CCM and CCM* opening: key, nonce, associated data, ciphertext; the plaintext (R415). -/
opaque ccmOpen : List Byte → List Byte → List Byte → List Byte → List Byte

/-- AES-GCM sealing: key, nonce, associated data, message; the ciphertext and the whole tag. -/
opaque gcmSeal : List Byte → List Byte → List Byte → List Byte → List Byte

/-- AES-GCM opening, as `ccmOpen`. -/
opaque gcmOpen : List Byte → List Byte → List Byte → List Byte → List Byte

/-- AES-CMAC: key, message. -/
opaque cmac : List Byte → List Byte → List Byte

/-- SHA-256. -/
opaque sha256 : List Byte → List Byte

/-- SHA-384. -/
opaque sha384 : List Byte → List Byte

/-- ECDSA signing under FIPS 186-5, SHA-256 on P-256 and SHA-384 on P-384: private key, random bits, message; r and s. -/
opaque ecdsaSign : List Byte → List Byte → List Byte → List Byte

/-- ECDSA verification, SHA-256 on P-256 and SHA-384 on P-384: public key, compressed or not, message, r and s (R91, R415, R421). -/
opaque ecdsaVerify : List Byte → List Byte → List Byte → Bool

/-- The alert that refuses a DTLS handshake for a reason: R105 and R106 name none (RFC 9147). -/
opaque dtlsAlert : Nat → Nat

/-- ECDH: private key, public key; the x-coordinate of the shared point. -/
opaque ecdh : List Byte → List Byte → List Byte

/-- The public key of a private key, 97 bytes uncompressed. -/
opaque publicKey : List Byte → List Byte

/-- AES key wrap (RFC 3394): wrapping key, block. -/
opaque keyWrap : List Byte → List Byte → List Byte

/-- AES key unwrap: wrapping key, wrapped block. -/
opaque keyUnwrap : List Byte → List Byte → List Byte

/-- CTR_DRBG output: the n-th byte string it gives (R417). -/
opaque drbg : Nat → Nat → List Byte

/-- The key material of slot 4, imported at manufacture (Table 14.2). -/
opaque imagePublic : List Byte

/-- The undefined content of the event log at and above LOG_COUNT (R450): offset and step counter. -/
opaque staleLog : Nat → Nat → Nat

/-- The duration in microseconds of an MR-OFDM PPDU of IEEE 802.15.4-2020: mode code, MCS, PSDU bytes (R149, R161). -/
opaque ofdmAir : Nat → Nat → Nat → Nat

/-- Where resident firmware places its frame rings and buffers in the packet and DMA buffer region (R181). -/
opaque ringArea : Nat → Nat

/-- RESP_WAIT: the slots after a request within which its response is sent (R196). -/
opaque respWait : Nat

/-- Does a coefficient that 24 bits cannot hold exactly round up? R250 gives a coefficient its own exponent and no rounding
(log entry 2). -/
opaque roundUp : Int → Nat → Bool

/-- R241: does the sun cross the altitude on a date? Latitude, longitude, altitude, day number. -/
opaque sunCrosses : Int → Int → Int → Nat → Bool

/-- R241: where it does not, does it stay below? -/
opaque sunBelow : Int → Int → Int → Nat → Bool

/-- R241: the true solar instant, in seconds of the civil date: latitude, longitude, altitude, day number, rising. -/
opaque sunTrue : Int → Int → Int → Nat → Bool → Nat

/-- R241: how far the module's solar instant lies from the true one: latitude, longitude, altitude, day number, rising. -/
opaque sunError : Int → Int → Int → Nat → Bool → Int

/-- The solar dawn, in seconds of the civil date, where the sun stays below the altitude: R241 gives a dusk there and no dawn. -/
opaque darkDawn : Int → Int → Int → Nat → Nat

/-- One less than the sample code of full scale, FS (R274, R278): the spec gives samples 24 bits and no scale. -/
opaque fsCode : Nat

/-- The bit rate in Hz of a self-clocked input's bitstream, which is its modulator's own (R270, R274). -/
opaque bitRate : Nat → Nat

/-- A voltage one quarter period earlier, interpolated from the frames (R282): instants and values, instant. -/
opaque delayed : List (Nat × Int) → Nat → Int

/-- The angle of one voltage's fundamental relative to another's, in 0.01 degree (R282). -/
opaque angle : List (Nat × Int) → List (Nat × Int) → Int

/-- A harmonic's magnitude from a DFT over the cycle, in 0.01 % of the fundamental (R282): frames, harmonic; 0 for THD. -/
opaque harmonic : List (Nat × Int) → Nat → Nat

/-- The slope of a lantern's daily means, in 0.01 ppm per year (R399): days, sums and counts. -/
opaque trend : List (Nat × Int × Nat) → Int

/-- An HSR supervision frame of IEC 62439-3 (R338): MAC address, HSR_SUP_ADDR, sequence number. -/
opaque hsrSupervision : Nat → Nat → Nat → List Byte

/-- The OUI and subtype of Jarxia's organisationally specific LLDP TLV (R348). -/
opaque lldpOui : List Byte

/-- Where resident firmware places CTL's coefficient (0), output (1) and input (2) areas in the control engine's region (R249, R253). -/
opaque ctlArea : Nat → Nat

/-- A PTP Sync message of IEEE 1588-2019 (R127): the module's EUI-64, the domain, the sequence number, the instant. -/
opaque ptpSyncFrame : List Byte → Nat → Nat → Nat → List Byte

/-- The TYPE code that DESCRIBE gives for an I8 object, which Table 3.2 does not list (R112). -/
opaque i8Code : Nat

/-- Is a public key of a KIND a valid point of its curve (R408, R413)? -/
opaque pointValid : Nat → List Byte → Bool

/-- Does the integrity check of AES key unwrap pass: wrapping key, wrapped block? -/
opaque unwrapOk : List Byte → List Byte → Bool

end Sys2Proof.Config
end

