-- ==== Sys2Proof/Machine/Operands.lean ====
section
/-! DEFINITION. Fields of words, little-endian values, two's complement, saturation and rounding: the operand forms of the
registers, objects and messages (R6, R81), and the CRC-32 of R442. -/

namespace Sys2Proof.Machine

/-- Bit i of a word. -/
def bit (w : Word) (i : Nat) : Bool := w.getLsbD i

/-- Field [hi:lo] of a word, as a number. -/
def fld (w : Word) (hi lo : Nat) : Nat := (w.toNat >>> lo) % 2 ^ (hi + 1 - lo)

/-- The word with ones in [hi:lo]. -/
def fldMask (hi lo : Nat) : Word := BitVec.ofNat 32 ((2 ^ (hi + 1 - lo) - 1) * 2 ^ lo)

/-- The word with field [hi:lo] replaced by the low bits of a number. -/
def setFld (w : Word) (hi lo v : Nat) : Word :=
  (w &&& ~~~ fldMask hi lo) ||| (BitVec.ofNat 32 (v % 2 ^ (hi + 1 - lo) * 2 ^ lo))

/-- The word with bit i alone. -/
def bitMask (i : Nat) : Word := BitVec.ofNat 32 (2 ^ i)

/-- The word with bit i set or cleared. -/
def putBit (w : Word) (i : Nat) (b : Bool) : Word := if b then w ||| bitMask i else w &&& ~~~ bitMask i

/-- A truth value as 0 or 1. -/
def b2n (b : Bool) : Nat := if b then 1 else 0

/-- n bytes of a number, least significant first (R6). -/
def toLE : Nat → Nat → List Byte
  | 0, _ => []
  | n + 1, v => BitVec.ofNat 8 v :: toLE n (v / 256)

/-- The number that bytes spell, least significant first (R6). -/
def fromLE : List Byte → Nat
  | [] => 0
  | b :: t => b.toNat + 256 * fromLE t

/-- n bytes of a list from an offset, fewer where the list ends. -/
def slice (l : List Byte) (off n : Nat) : List Byte := (l.drop off).take n

/-- The little-endian number in n bytes of a list from an offset. -/
def leAt (l : List Byte) (off n : Nat) : Nat := fromLE (slice l off n)

/-- The value of a two's complement number of w bits. -/
def sx (w v : Nat) : Int := if v % 2 ^ w < 2 ^ (w - 1) then ((v % 2 ^ w : Nat) : Int) else ((v % 2 ^ w : Nat) : Int) - (2 ^ w : Nat)

/-- The two's complement of an integer in w bits. -/
def enc (w : Nat) (i : Int) : Nat := (i % (2 ^ w : Nat)).toNat

/-- An integer held between two limits. -/
def clampI (lo hi i : Int) : Int := if i < lo then lo else if hi < i then hi else i

/-- A number held between two limits: a value outside stores the nearer limit. -/
def clampN (lo hi n : Nat) : Nat := if n < lo then lo else if hi < n then hi else n

/-- A sum that saturates. -/
def satAdd (cap a b : Nat) : Nat := min cap (a + b)

/-- a / b to the nearest whole number, ties away from zero (R121); b positive. -/
def divRound (a b : Int) : Int := if 0 ≤ a then (2 * a + b) / (2 * b) else -((2 * (-a) + b) / (2 * b))

/-- Is the number a power of two between two limits? -/
def isPow2In (lo hi n : Nat) : Bool := Nat.ble lo n && Nat.ble n hi && Nat.beq (n &&& (n - 1)) 0

/-- One bit of the CRC-32 of IEEE 802.3, reflected. -/
def crcBit (c : Nat) : Nat := if c % 2 = 1 then (c / 2) ^^^ 0xEDB88320 else c / 2

/-- One byte of the CRC-32. -/
def crcByte (c : Nat) (b : Byte) : Nat :=
  crcBit (crcBit (crcBit (crcBit (crcBit (crcBit (crcBit (crcBit (c ^^^ b.toNat))))))))

/-- CRC-32, polynomial of IEEE 802.3 (R442, R85). -/
def crc32 (l : List Byte) : Nat := (l.foldl crcByte 0xFFFFFFFF) ^^^ 0xFFFFFFFF

/-- The entry at a place of a list replaced. -/
def setAt {α : Type} : List α → Nat → α → List α
  | [], _, _ => []
  | _ :: t, 0, v => v :: t
  | a :: t, n + 1, v => a :: setAt t n v

/-- The entry at a place of a list changed. -/
def modifyAt {α : Type} : List α → Nat → (α → α) → List α
  | [], _, _ => []
  | a :: t, 0, f => f a :: t
  | a :: t, n + 1, f => a :: modifyAt t n f

/-- Every entry of a list changed by a function of its place. -/
def mapFrom {α β : Type} (f : Nat → α → β) : Nat → List α → List β
  | _, [] => []
  | i, a :: t => f i a :: mapFrom f (i + 1) t

/-- The numbers of either list, each once. -/
def union (a b : List Nat) : List Nat := a ++ (b.filter (fun i => !a.contains i)).eraseDups

/-- The numbers from a up, n of them. -/
def upFrom (a : Nat) : Nat → List Nat
  | 0 => []
  | n + 1 => a :: upFrom (a + 1) n

/-- Table 3.5: a WRITE request of an object, as a client sends it. -/
def writeRequest (tid idx sub : Nat) (v : List Byte) : List Byte :=
  [1, 0x11] ++ toLE 2 tid ++ toLE 2 idx ++ toLE 1 sub ++ [0] ++ toLE 4 0 ++ toLE 2 v.length ++ [0, 0] ++ v

end Sys2Proof.Machine
end

