-- ==== Sys2Proof/Machine/Sparse.lean ====
section
/-! DEFINITION. Sparse stores: a list of keys and values, strictly rising, that lists no value equal to what an unlisted key
reads as. -/

namespace Sys2Proof.Machine

/-- The value listed at a key, if any. -/
def Sparse.find? {α : Type} (k : Nat) : List (Nat × α) → Option α
  | [] => none
  | (a, v) :: t => if a = k then some v else Sparse.find? k t

/-- The value at a key: what is listed, or what an unlisted key reads as. -/
def Sparse.get {α : Type} (d : Nat → α) (l : List (Nat × α)) (k : Nat) : α :=
  match Sparse.find? k l with
  | some v => v
  | none => d k

/-- Lists a value at a key, in key order. -/
def Sparse.insert {α : Type} (k : Nat) (v : α) : List (Nat × α) → List (Nat × α)
  | [] => [(k, v)]
  | (a, w) :: t => if k < a then (k, v) :: (a, w) :: t else if a = k then (k, v) :: t else (a, w) :: Sparse.insert k v t

/-- Unlists a key. -/
def Sparse.erase {α : Type} (k : Nat) : List (Nat × α) → List (Nat × α)
  | [] => []
  | (a, w) :: t => if a = k then Sparse.erase k t else (a, w) :: Sparse.erase k t

/-- Sets the value at a key; a value equal to what the key reads as when unlisted is not listed. -/
def Sparse.set {α : Type} [DecidableEq α] (d : Nat → α) (l : List (Nat × α)) (k : Nat) (v : α) : List (Nat × α) :=
  if v = d k then Sparse.erase k l else Sparse.insert k v l

/-- Sets the values of consecutive keys. -/
def Sparse.setMany {α : Type} [DecidableEq α] (d : Nat → α) (l : List (Nat × α)) (k : Nat) : List α → List (Nat × α)
  | [] => l
  | v :: vs => Sparse.setMany d (Sparse.set d l k v) (k + 1) vs

/-- The keys rise strictly from above a bound. -/
def Sparse.rising {α : Type} : List (Nat × α) → Bool
  | [] => true
  | [_] => true
  | (a, _) :: (b, w) :: t => Nat.blt a b && Sparse.rising ((b, w) :: t)

/-- The canonical form: keys strictly rising, and no entry equal to what its key reads as when unlisted. -/
def Sparse.wf {α : Type} [DecidableEq α] (d : Nat → α) (l : List (Nat × α)) : Bool :=
  Sparse.rising l && l.all (fun e => decide (e.2 ≠ d e.1))

end Sys2Proof.Machine
end

