-- ==== Sys2Proof/Machine/State.lean ====
section
/-! DEFINITION. The module's state, as plain data: every register, object, memory, queue, counter, mode and pin the spec gives it,
and the queue of the commands that wait. Registers, objects and memory are sparse lists of keys and values, strictly rising,
that list no entry equal to the reset or default value (log entry 5). Each block's state beyond its registers stands in a
structure of its own. -/

namespace Sys2Proof.Machine

/-- The reasons a step can stop. No meaning of this model raises one: every command the spec lists has an effect
(log entry 1). -/
inductive Fault where
  /-- Raised by no meaning; the machine has no access the spec leaves without an effect. Safe. -/
  | noSuchEffect
  deriving DecidableEq, Repr

/-- The reasons a command can be refused. -/
inductive Refusal where
  /-- A row of the opcode table that has no meaning yet, by its mnemonic. Safe. -/
  | notModelled (mnemonic : String)
  deriving DecidableEq, Repr

/-- Nanoseconds of local time since the clock's origin: TIME80 as one number (R116). -/
abbrev Ns := Nat

/-! ## Modes, power and the always-on domain -/

/-- Table 2.1: the modes; `starting` stands for the interval in which MODE reads 0xFF (R40). -/
inductive Mode where
  | provision | commission | day | transition | nightScheduled | nightFollowing | islanded | standby
  | activation | batteryWatch | deepSleep | drill | starting
  deriving DecidableEq, Repr

/-- R45: the lighting phases. -/
inductive Phase where
  | day | dusk | night | dawn
  deriving DecidableEq, Repr

/-- The last access's answer on the fabric: read data, the synchronous abort of a core, the error response of another
initiator (R13, R18, R23). -/
structure BusState where
  readData : Word := 0
  abort : Option Initiator := none
  errorResponse : Bool := false
  deriving DecidableEq, Repr

/-- One dual-clock queue (R30 to R36): the true pointers, each side's view of the other's pointer, the entries, the
entry whose handshake has not completed, and the stall the drill unit sets. -/
structure DQueue where
  hold : Bool := true
  wptr : Nat := 0
  rptr : Nat := 0
  wseen : Nat := 0
  rseen : Nat := 0
  entries : List Nat := []
  offered : Option Nat := none
  stallWrite : Bool := false
  stallRead : Bool := false
  deriving DecidableEq, Repr

/-- SYS: the dual-clock queues and core 3's run state (R24, R30, R44, R111). -/
structure SysState where
  queues : List DQueue
  core3Irq : Bool := false
  core3L2Valid : Bool := false
  deriving DecidableEq, Repr

/-- One OTP root area (R57, R58): bits programmed, whether its check passes, and its COMMIT and RETIRE fuses. -/
structure RootArea where
  programmed : Bool := false
  checkOk : Bool := false
  commit : Bool := false
  retire : Bool := false
  deriving DecidableEq, Repr

/-- The supervisor's mode machine (R40 to R76): the mode, its reason and entry, the lighting phase, the direction and start of the
transition, a write of NIGHT_LAW not yet evaluated, arbitration lost, since when ring time has been absent,
when a partner heartbeat claiming active was last heard, when the controllers started, the last mirroring, the UTC day of the last
scheduled proof test. -/
structure ModeState where
  mode : Mode := .starting
  reason : Nat := 0
  entered : Ns := 0
  phase : Phase := .day
  toNight : Bool := true
  transAt : Ns := 0
  lawWritten : Option Nat := none
  arbitrationLost : Bool := false
  ringTimeSince : Option Ns := none
  backhaulSince : Option Ns := none
  partnerHeard : Option Ns := none
  canStarted : Option Ns := none
  mirroredAt : Option Ns := none
  proofBegunDay : Option Nat := none
  deriving DecidableEq, Repr

/-- Supplies, pins and the always-on domain's own state (R46 to R72, R463, R482, R490): supply voltages in mV, the mains
comparator, the last counting heartbeat, the contactors' sensed state, which supplies are removed, whether the supervisor runs, the reset in force and its
cause, the flush, the OTP areas, since when the AON clock has run again, the FAB side's copy of the AON registers as last refreshed
before that clock stopped (R16), and tampers latched but not yet recorded. -/
structure AonState where
  vin : Nat := 0
  vbat : Nat := 0
  vcoin : Nat := 3000
  comparator : Bool := false
  lastBeat : Option Byte := none
  sensed : Nat := 0
  appOff : Bool := true
  asleep : Bool := true
  supRunning : Bool := false
  inReset : Bool := true
  resetCause : Nat := 0
  flushing : Bool := false
  flushStart : Ns := 0
  otp0 : RootArea := {}
  otp1 : RootArea := {}
  clockBackSince : Option Ns := none
  aonClockLost : Bool := false
  copy : List (Nat × Word) := []
  tamperDue : List (Nat × Ns) := []
  deriving DecidableEq, Repr

/-! ## Event recorder and faults -/

/-- Table 16.1: an event record; TIME is its ten bytes as a number, the CRC a function of the rest (R442). -/
structure Rec where
  time : Nat
  source : Nat
  flags : Nat
  code : Nat
  seq : Nat
  p0 : Nat
  p1 : Nat
  p2 : Nat
  deriving DecidableEq, Repr

/-- EVR (R442 to R456): the volatile buffer and the stored log, the counters, the flush due, each
processor initiator's staging copy, and the instants of the integrator's events. -/
structure EvrState where
  buffer : List Rec := []
  log : List Rec := []
  nextSeq : Nat := 1
  lastSeq : Nat := 0
  dropped : Nat := 0
  bufDrops : Nat := 0
  reserveUsed : Nat := 0
  logHigh : Bool := false
  logFull : Bool := false
  reserveFull : Bool := false
  flushDue : Bool := false
  sub : List (Nat × Word) := []
  integratorTimes : List Ns := []
  deriving DecidableEq, Repr

/-- A proof test in progress (R473): the step, the steps passed and the first failed step, and when it began. -/
structure Proof where
  step : Nat
  passed : Nat
  firstFailed : Option Nat
  began : Ns
  deriving DecidableEq, Repr

/-- SUP and DRL beyond their registers (R457 to R477): watchdog kicks, fault starts, the proof test and its last
results, the rating monitor, the debug port, the injected error response and corrupted words (address, L2 copy or not), the raisings to
record after the start, whether the die sensors of the supervisor and the cluster are above 125 °C, and the SYS_CLKMON bits of clocks declared lost. -/
structure FaultState where
  kicks : List (Option (Byte × Ns)) := [none, none, none, none]
  faultStarts : List Ns := []
  heldInReset : Bool := false
  proof : Option Proof := none
  lastPassedEnd : Option Ns := none
  lastVerdict : Nat := 0
  ratingOutAt : Option Ns := none
  debugUnlocked : Bool := false
  debugAnswer : Option (List Byte) := none
  lastResetCause : Nat := 0
  errorAddr : Option Nat := none
  corruptWords : List (Nat × Bool × Bool) := []
  raisedDue : List Nat := []
  hot : List Bool := [false, false]
  lost : List Nat := []
  deriving DecidableEq, Repr

/-! ## Time base -/

/-- A trigger unit beyond its registers (R135, R136): the next instant in quarters of a nanosecond, whether the pin is
active, and when its pulse ends. ARM in TIME_TRIG_CTRL_n says whether the unit is armed. -/
structure Trig where
  next : Nat := 0
  pin : Bool := false
  pulseEnd : Nat := 0
  deriving DecidableEq, Repr

/-- An entry of the transmit timestamp queue (R128, R129). -/
structure TsqEntry where
  frameId : Nat
  port : Nat
  epoch : Nat
  time : Ns
  quarter : Nat
  deriving DecidableEq, Repr

/-- A ring port's peer delay measurements (R126): the last 16 delays in 0.25 ns and the last 8 answers; whether a Sync has come
on it, and its stepsRemoved (R127). -/
structure PeerDelay where
  delays : List Nat := []
  answers : List Bool := []
  heard : Bool := false
  stepsRemoved : Nat := 0
  deriving DecidableEq, Repr

/-- TIME beyond its registers (R116 to R138, R503): the local clock in whole nanoseconds, whether it is loaded, EPOCH and
the last 15 signed changes in ns, newest first (R120), each processor initiator's latch, the servo in 2^-11 ppt, the instant of the last offset, the last captured edges in 0.25 ns, the triggers, the transmit timestamp
queue and PTP, with whether a grandmaster marks currentUtcOffset valid (R145). -/
structure TimeState where
  now : Ns := 0
  loaded : Bool := false
  epoch : Nat := 0
  changes : List Int := []
  latches : List (Nat × Nat) := []
  servoI : Int := 0
  servoAdj : Int := 0
  servoState : Nat := 0
  inRun : Nat := 0
  outRun : Nat := 0
  lastOffset : Int := 0
  lockedSince : Option Ns := none
  lastEdge : List (Option Nat)
  trig : List Trig
  tsq : List TsqEntry := []
  tsqLatch : Option TsqEntry := none
  offsetAt : Ns := 0
  peerA : PeerDelay := {}
  peerB : PeerDelay := {}
  peerM : PeerDelay := {}
  slavePort : Nat := 0
  isMaster : Bool := false
  syncsSent : Nat := 0
  offsetChanged : Bool := false
  utcValid : Bool := false
  deriving DecidableEq, Repr

/-- The RTC beyond its registers (R139 to R144): the shadows of a freeze held, the compensation accumulator, the
calendar second at the halt, the compensated time in ns since the last second began and since HALT took effect (AON_RTC_TICK and AON_RTC_TALLY show
them in ticks), and the crystal cycles that the running second drops (positive) or adds. -/
structure RtcState where
  freeze : Option (List Word) := none
  acc : Int := 0
  haltedAt : Nat := 0
  subNs : Nat := 0
  tallyNs : Nat := 0
  adjust : Int := 0
  deriving DecidableEq, Repr

/-! ## The object dictionary -/

/-- The three transports of the dictionary (R105, R109, R110): a ring session, a cabinet-bus link by its node, the
mailbox. -/
inductive SessKind where
  | ring
  | can (node : Nat)
  | mailbox
  deriving DecidableEq, Repr

/-- A session (R87, R98, R106, R108): its buffer size B, whether OPEN has come, the anchor it depends on (1 to 8; 0 where it has none),
the responses to its most recent TIDs, newest first, when its last record came, and READ_INDEX (R451). -/
structure Sess where
  id : Nat
  kind : SessKind
  buf : Nat := 0
  opened : Bool := false
  anchor : Nat := 0
  cache : List (Nat × List Byte) := []
  last : Ns := 0
  readIndex : Nat := 0
  queue : List (Nat × Msg) := []
  deriving DecidableEq, Repr

/-- An open segmented transfer (R101 to R104): `data` is the snapshot of a read or the bytes received of a write; when its last request came. -/
structure Xfer where
  sess : Nat
  write : Bool
  tid : Nat
  idx : Nat
  sub : Nat
  total : Nat
  data : List Byte
  trailer : List Byte
  last : Ns := 0
  deriving DecidableEq, Repr

/-- A cabinet-bus link's envelope counters (R109): the last accepted, the last sent, and both as the MRAM holds them. -/
structure EnvLink where
  node : Nat
  rx : Nat := 0
  tx : Nat := 0
  saved : Nat × Nat := (0, 0)
  deriving DecidableEq, Repr

/-- The dictionary server (R79 to R115): sessions, transfers, integrator declarations, the authorisation lockout, the last
response and the session it went to, the mailbox's held responses and interrupt, pending WRITTEN messages, the older MRAM
copies and the NAND backup of stored objects, the backups still due, and the mode requests that wait for the mode tick: the mode
asked for, the session, and the response to be sent; and the DTLS alert last sent. -/
structure DictState where
  sessions : List Sess := [{ id := 0, kind := .mailbox, buf := 4096, opened := true }]
  nextSession : Nat := 1
  xfers : List Xfer := []
  decls : List (Nat × List Byte) := []
  authFails : List Ns := []
  lockout : Option Ns := none
  status : Nat := 0
  response : Option (Nat × List Byte) := none
  held : List (List Byte) := []
  mailboxIrq : Bool := false
  written : List Nat := []
  older : List (Nat × List Byte) := []
  nand : List (Nat × List Byte) := []
  backupDue : List Nat := []
  links : List EnvLink := []
  modeWait : List (Nat × Nat × List Byte) := []
  alert : Option Nat := none
  deriving DecidableEq, Repr

/-! ## Key store, crypto engine and radios -/

/-- Table 14.1: a key slot's record; the tag is a function of the rest and STATE says whether it passes (R404). -/
structure KeySlot where
  key : List Byte := []
  state : Nat := 0
  kind : Nat := 0
  parent : Nat := 0
  depth : Nat := 0
  gen : Nat := 0
  parentGen : Nat := 0
  attr : Nat := 0
  origin : Nat := 0
  deriving DecidableEq, Repr

/-- KEY (R403 to R414): the slot array, the staged KEY_CMD_DATA words, the scrub, and whether a write of slots 16 to 24 is
still to be shared with the partner. -/
structure KeyState where
  slots : List (Nat × KeySlot) := []
  cmdData : List (Nat × Word) := []
  scrubNext : Nat := 0
  scrubPasses : Nat := 0
  shareDue : Bool := false
  shared : List (List Byte) := []
  deriving DecidableEq, Repr

/-- A job whose data still run (R411): its queue, its key slot or none, the slots of its chain, its result, whether the result is
written to OUT, and the status it will return. -/
structure CryJob where
  queue : Nat
  slot : Option Nat
  chain : List Nat
  result : List Byte
  written : Bool
  status : Nat
  deriving DecidableEq, Repr

/-- CRY beyond its registers (R415 to R417): the jobs in progress, the DRBG's requests since its reseed, whether a health
test has failed and the DRBG has not resumed, and how many jobs of other queues queue 3 must still let go first. -/
structure CryState where
  jobs : List CryJob := []
  requests : Nat := 0
  trngFailed : Bool := false
  turn : Nat := 0
  deriving DecidableEq, Repr

/-- A frame that awaits its acknowledgement, or its next try (R170): its ring index, the neighbour entry, its LSN, the tries made and STAMP32 of
the last one's preamble. -/
structure MacAwait where
  entry : Nat
  nb : Nat
  lsn : Nat
  tries : Nat
  stamp : Nat := 0
  deriving DecidableEq, Repr

/-- One MAC engine beyond its registers (R153 to R182): the running schedule, the flywheel run, the neighbours heard in this
slotframe and the slotframes in which none was, the frame awaiting its ACK, the frames to be sent again, each busy entry's backoff (ring
index, BE, shared cells to leave out), whether the generation replaced is still accepted and its slot, the derived-key cache (lantern EUI-64 and
generation, least recent first), each neighbour's frames (instant, start past TX_OFFSET, the same after the correction sent) and the instant of the
last correction sent to it, MACn_CTRL as the mode will set it at the next slotframe (R43), the last frame put on the air and its channel
(discovery plan or hop set), the start of each slot of the last 64 slotframes (R219), the counter of broadcast frames, its copy in the MRAM and their
LSN, the neighbour entries released since the last commit (R190), whether the mesh objects wait for a commit (R185), the APPLY_ASN a commit
waits for (R202), and whether firmware has set up the frame rings. -/
structure MacState where
  len : Nat := 1031
  hop : Word := 0
  phy : Word := 0x1C080004
  hopch : List Word := List.replicate 16 0
  cells : List (Nat × Word) := []
  flyRun : Nat := 0
  heard : List Nat := []
  quiet : Nat := 0
  awaiting : Option MacAwait := none
  retries : List MacAwait := []
  backoff : List (Nat × Nat × Nat) := []
  overlap : Bool := false
  overlapSlot : Nat := 0
  cache : List (List Byte × Nat) := []
  history : List (Nat × List (Ns × Int × Int)) := []
  corrected : List (Nat × Ns) := []
  air : List Byte := []
  airOn : Option (Bool × Nat) := none
  slotStart : Ns := 0
  marks : List (Nat × Ns) := []
  bcast : Nat := 0
  bcastSaved : Nat := 0
  bcastLsn : Nat := 0
  released : List Nat := []
  liveDue : Bool := false
  commitAt : Option Nat := none
  rings : Bool := false
  ctrlDue : Option Word := none
  deriving DecidableEq, Repr

/-! ## Lantern membership -/

/-- A response to an enrolment request (R196): its cohort, the lantern, whether it is an ACCEPT, its payload, the earliest
instant and the last ASN at which its cell may begin. -/
structure Response where
  cohort : Nat
  lantern : Nat
  accept : Bool
  payload : List Byte
  earliest : Ns
  lastAsn : Nat
  deriving DecidableEq, Repr

/-- A key renewal in progress (R205): the cohort, the renewed slot, its generation, ACTIVATE_ASN and the lanterns that have
answered KEY_READY. -/
structure Renewal where
  cohort : Nat
  slot : Nat
  gen : Nat
  activate : Nat
  ready : List Nat
  deriving DecidableEq, Repr

/-- A frame firmware is to send (Table 5.11): its cohort, the lantern it is for, its TYPE (1 DATA, 3 LIGHT_MAP, 4 COMMAND), its CODE and body;
`whole` says that the body is the whole payload. -/
structure OutFrame where
  cohort : Nat
  lantern : Nat
  type : Nat
  code : Nat
  body : List Byte
  whole : Bool := false
  deriving DecidableEq, Repr

/-- Membership (R188 to R213): the state each ENROLLING lantern came from and its slotframes since, the pending responses, the
frames that wait to be given to the MACs, renewals, when each cohort's keys were last renewed, moves, the hand-over runs by lantern and peer
(probes in a row, the count last seen), each lantern's CAPS, how strongly relays hear lanterns (lantern, relay, dBm), the
fragments of dictionary messages, the messages complete, each cohort's committed cells as the MRAM keeps them, the frames with a reserved CODE
counted (R167), the relayed payloads opened (lantern, CODE, body) and the end-to-end counter toward each lantern (R180). -/
structure MemberState where
  enrolling : List (Nat × Nat × Nat) := []
  responses : List Response := []
  outbox : List OutFrame := []
  renewals : List Renewal := []
  rebalancing : Bool := false
  moved : List (Nat × Nat) := []
  probeRuns : List ((Nat × Nat) × Nat × Nat) := []
  renewed : List (Nat × Ns) := []
  caps : List (Nat × Nat) := []
  relayRssi : List (Nat × Nat × Int) := []
  fragments : List (Nat × List Byte) := []
  messages : List (Nat × List Byte) := []
  cells : List (List (Nat × Word)) := [[], [], [], []]
  reserved : Nat := 0
  opened : List (Nat × Nat × List Byte) := []
  farCounters : List (Nat × Nat) := []
  deriving DecidableEq, Repr

/-! ## Traffic and light control -/

/-- A block floating vector (R250): one exponent and the mantissas that are not 0, by index. -/
structure BVec where
  exp : Int := 0
  man : List (Nat × Int) := []
  deriving DecidableEq, Repr

/-- An open count window (R223 to R226): its bounds, LENGTH, FLAGS, and the events of each weight, keyed by zone, RAW index and
the efficiency in use. -/
structure CountWin where
  start : Ns
  stop : Ns
  length : Nat
  flags : Nat := 0
  counts : List (Nat × Nat) := []
  deriving DecidableEq, Repr

/-- An accepted event on its way to the predictor (R230): group, lantern, weight as a quotient, and time. -/
structure PredEvent where
  group : Nat
  lantern : Nat
  num : Nat
  den : Nat
  time : Ns
  deriving DecidableEq, Repr

/-- A lantern of the running graph (R227 to R229): its number, its zone and its edge words. -/
structure GNode where
  lantern : Nat
  zone : Nat
  edges : List Nat
  deriving DecidableEq, Repr

/-- The predictor's transition model, as the last commit built it (R228, R236): PRED_STEP, HORIZON, EXIT_DWELL, the speeds of
each zone and the lanterns with edges. -/
structure Graph where
  step : Nat := 100
  horizon : Nat := 8000
  dwell : Nat := 10000
  speeds : List Nat := []
  nodes : List GNode := []
  deriving DecidableEq, Repr

/-- A port's predicted inflow (R234): the end of the sender's interval, its HORIZON in ns, and 3 × 8 bins. -/
structure PortIn where
  stop : Ns
  horizon : Nat
  bins : List Nat
  deriving DecidableEq, Repr

/-- Counting and edge messages (R216 to R235): the open windows, the bulk log's window records, events waiting for the
predictor, the graph a commit has built, each port's outflow, predicted inflow and last message, each peer's last SEQ received
and sent, the messages last sent (the peer, the dictionary request), and the instant of the
last count report. -/
structure TrafficState where
  wins : List CountWin := []
  bulk : List (List Byte) := []
  events : List PredEvent := []
  graph : Graph := {}
  newGraph : Option Graph := none
  outflow : List BVec := [{}, {}, {}]
  inflow : List (Nat × PortIn) := []
  heard : List (Nat × Ns) := []
  seqIn : List (Nat × Nat) := []
  seqOut : List (Nat × Nat) := []
  sent : List (List Byte × List Byte) := []
  lastReport : Ns := 0
  deriving DecidableEq, Repr

/-- A lantern's law state (R245, R252 to R257): the output y in levels, the LEVEL published, whether it rose at its last change,
SAT, HANDOVER, SWAP_CLAMPED, whether state feedback is in use, and the RAMP of its entry. -/
structure LawState where
  y : Nat := 0
  level : Nat := 0
  rose : Bool := false
  sat : Bool := false
  handover : Bool := false
  swapClamped : Bool := false
  sf : Bool := false
  ramp : Nat := 0
  deriving DecidableEq, Repr

/-- A following-error run (R261): the side of the limit, the ASN of its first comparison, and whether the fault is raised. -/
structure FeRun where
  above : Bool
  first : Nat
  fault : Bool
  deriving DecidableEq, Repr

/-- What a completed sample retains (R229 to R261): the predictor, the source and bank in force, the law state of every
controlled lantern, z by class, x̂ by class and element, the outputs o, the following-error runs, the start of the
sample, and the forward steps of the local clock before it. -/
structure CtlCore where
  predAt : Ns := 0
  graph : Graph := {}
  x : List BVec := [{}, {}, {}]
  credit : List BVec := [{}, {}, {}]
  peak : List BVec := [{}, {}, {}]
  source : Nat := 0
  bank : Nat := 0
  lanterns : List (Nat × LawState) := []
  targets : List (Nat × Nat) := []
  z : List (Nat × BVec) := []
  xh : List (Nat × BVec) := []
  o : BVec := {}
  fe : List (Nat × FeRun) := []
  started : Ns := 0
  steps : Nat := 0
  deriving DecidableEq, Repr

/-- A sample in progress (R248, R259): its firing, what it will retain if it completes, and what it will report: stages that
saturated, lanterns clamped, a swap and the lanterns it clamped, hand-overs begun, following-error changes (lantern, raised, FE as a quotient in 0.1 W), the
comparisons (lantern, expected power and FE as quotients), outflow added, events consumed and dropped, seconds skipped. -/
structure Sample where
  fire : Ns
  stamp : Nat
  late : Bool
  core : CtlCore
  stages : List Nat := []
  clamped : Nat := 0
  swapped : Bool := false
  swapClamped : Nat := 0
  handovers : Nat := 0
  feChanges : List (Nat × Bool) := []
  compared : List (Nat × Nat × Nat × Int) := []
  outflow : List BVec := []
  events : Nat := 0
  reports : Nat := 0
  dropped : Nat := 0
  zeroed : Option Nat := none
  takeover : Bool := false
  deriving DecidableEq, Repr

/-- CTL and the light map (R237 to R268): what the last completed sample retained, the sample in progress, energy reports
waiting (lantern, ASN, POWER_NOW), a takeover to hand over, the outputs by lantern in the published half, when it completed,
the last two entries sent to each lantern (ASN, level, ramp), the last two ramps each began (first and last ASN), the value last sent to each cohort, and the delivery at which
each block was last sent; a sample period in µs that waits for the next boundary; when the published half's sample completed; the
forward steps of the local clock. -/
structure CtlState where
  core : CtlCore := {}
  sample : Option Sample := none
  reports : List (Nat × Nat × Nat) := []
  takeover : Bool := false
  entries : List (Nat × List (Nat × Nat × Nat)) := []
  ramps : List (Nat × List (Nat × Nat)) := []
  sentLevel : List (Nat × Nat) := []
  sentBlock : List (Nat × Nat) := []
  deliveries : Nat := 0
  periodDue : Option Nat := none
  published : Ns := 0
  steps : Nat := 0
  deriving DecidableEq, Repr

/-! ## Metering -/

/-- A sample frame (R275, R281): its instant, half its interval, each input's corrected sample, and the route in force. -/
structure MtrFrame where
  time : Ns
  half : Nat
  vals : List Int
  route : Word
  deriving DecidableEq, Repr

/-- A modulator input (R277, R278): invalid or overrange samples in the cycle in progress, consecutive cycles with invalid
samples. FAILED and OVERRANGE stand in MTR_IN_STAT_n. -/
structure MtrInput where
  bad : Bool := false
  above : Bool := false
  badRun : Nat := 0
  deriving DecidableEq, Repr

/-- A reconciliation interval not yet evaluated (R297 to R299): its start, flags (1 GAP, 2 stepped, 3 STANDBY, 4 stepped by 1 s
or more, 5 a cycle, 6 a time without 16 ksps metering), the net µWh of phases 1 to 3 and the total, Σ i² w of each current in sample units, and the lanterns counted. -/
structure ReconAcc where
  start : Ns
  flags : Nat := 0
  feeder : List Int := [0, 0, 0, 0]
  i2t : List Nat := [0, 0, 0, 0]
  lanterns : List Nat := []
  deriving DecidableEq, Repr

/-- The metering state saved in the MRAM (R288, R395): the 16 energy and 4 ampere-hour registers, their carries, the cycles of the
interval in progress, the latch record, and the chains held. -/
structure MtrSave where
  regs : List Nat
  carries : List Nat
  cycles : Nat
  latch : List Byte
  calState : Nat
  periodic : Bool
  deriving DecidableEq, Repr

/-- MTR beyond its registers and objects (R269 to R302): recent frames, the last boundary, the last cycle's duration, the wanted
reference phase, carries, the latch interval in progress (cycles, N, flags, registers advanced), MTR's latest latch record, the flags of the cycle in
progress, whether the next latch has GAP, whether the cycle spans a step, the settings in force, an ENERGY_RESET due, input
settings due (R273), the inputs, event runs,
views of the latch record, a route due, saves (newest first), bulk-log latches, reconciliation, each lantern's reports and
levels, MTR's stop, the mode whose profile waits for a zero crossing (R43), whether RESUME_RTC is still to be written, and whether an
outage awaits the next start (R292); the instant from which a frame is the stop frame (R291), and whether a cycle has been measured since metering
resumed (R280). -/
structure MtrState where
  frames : List MtrFrame := []
  boundary : Option Ns := none
  period : Nat := 20000000
  wanted : Nat := 0
  present : List Bool := [false, false, false]
  carries : List Nat := List.replicate 20 0
  cycles : Nat := 0
  runN : Nat := 50
  flags : Nat := 0
  advanced : Nat := 0
  cycleFlags : Nat := 0
  spans : Bool := false
  latchSeq : Nat := 0
  latchRec : List Byte := List.replicate 146 0
  run : List Nat := [50, 230, 50000, 200000]
  resetDue : Bool := false
  styleDue : Bool := false
  inputs : List MtrInput
  runs : List (Nat × Nat)
  views : List (Nat × List Byte) := []
  routeDue : Option Word := none
  saves : List MtrSave := []
  bulk : List (List Byte) := []
  accs : List ReconAcc := []
  reconRun : Nat × Nat := (0, 0)
  energies : List (Nat × List (Ns × Nat)) := []
  levels : List (Nat × List (Ns × Nat)) := []
  stopped : Bool := false
  resumeDue : Bool := false
  outageOpen : Bool := false
  profileDue : Option Mode := none
  stopAt : Option Ns := none
  measured : Bool := false
  deriving DecidableEq, Repr

/-! ## Live calibration -/

/-- An accepted event CAL keeps for its sensor pairs (R400): lantern, group, DIRECTION and t_event. -/
structure CalEvent where
  lantern : Nat
  group : Nat
  dir : Nat
  time : Ns
  deriving DecidableEq, Repr

/-- An interval over which CAL measures the crystal (R397): the local time of the RTC second edge it began at and of the latest one, the
seconds counted, and over them the sum of AON_RTC_CORR and the sum, least and greatest of the RTC temperature. -/
structure CurveRun where
  start : Ns
  last : Ns
  secs : Nat := 0
  corr : Int := 0
  temp : Int := 0
  least : Int := 0
  most : Int := 0
  deriving DecidableEq, Repr

/-- CAL beyond its registers and objects (R383 to R402): the positions the rotation still has to step through, the step in
progress first; what of the initial calibration is done (0 rotation, 1 sinks, 2 to 5 transceivers), if it runs; the reference
phase, when settling ends, the phases' results, the first estimate, whether the measurement is the repeated one, whether the
outgoing input is slewed, whether there is no gain estimate, the incoming input of a swap armed, whether an input was found
FAULTY, the deferrals noted, the step's flags, swap instants and mismatches, whether the last boundary was synthetic; the reference
comparisons in a row out of and within limits; the curve points not yet written and the last write; the interval of the crystal
being measured and the one measured last (R397); the transceivers recorded; the filtered offsets and daily means of lanterns; the sensor events and when their window began; the
channels at a trim limit and since when; the route at the last boundary. -/
structure CalState where
  remaining : List Nat := []
  initial : Option Nat := none
  phase : Nat := 0
  settle : Option Ns := none
  measuring : Bool := false
  results : List Int := []
  first : Option (Int × Int) := none
  repeated : Bool := false
  slewing : Bool := false
  uncompared : Bool := false
  armed : Option Nat := none
  faulty : Bool := false
  deferred : Nat := 0
  flags : Nat := 0
  swaps : List Ns := []
  gain : Int := 0
  delay : Int := 0
  synthetic : Bool := false
  refBad : Nat := 0
  refGood : Nat := 0
  points : List (Nat × Int) := []
  pointsAt : Option Ns := none
  curve : Option CurveRun := none
  curveDone : Option CurveRun := none
  radNoted : Nat := 0
  offsets : List (Nat × Int) := []
  daily : List (Nat × List (Nat × Int × Nat)) := []
  events : List CalEvent := []
  windowStart : Ns := 0
  trims : List (Nat × Ns) := []
  route : Word := 0x76543210
  restart : List Nat := []
  deriving DecidableEq, Repr

/-! ## Cabinet bus -/

/-- The running Timetable of a controller (R314, R316): cycle length in µs, the number of basic cycles, the column starts in µs,
and the cells, basic cycle by basic cycle in rows of 32. -/
structure Timetable where
  len : Nat := 10000
  cycles : Nat := 1
  cols : List Nat := [1600]
  cells : List Byte := List.replicate 2048 0x80
  deriving DecidableEq, Repr

/-- A partial envelope (R324): its sender and receiver, the INDEX expected next, its bytes, and the last fragment's instant. -/
structure Partial where
  node : Nat
  dst : Nat
  index : Nat
  bytes : List Byte
  at_ : Ns
  deriving DecidableEq, Repr

/-- A cabinet-bus controller beyond its registers and message RAM (R303 to R323): the running Timetable, the latest reference pair
(count, stamp, EPOCH) and the rate in ns per count, the count and instant of the cycle's start, when the controller was enabled, the
column in force, frames held by a stalled queue with their counts, resident frames that wait for a buffer, attempts of each buffer
since its request and the instant of that, whether new bit rates wait, whether bus-off recovery was asked for, this master's last Bell and its payload, the
roll call's start of frame and its node's partial envelopes, and whether a frame that was in progress at the power-fail interrupt may still
end (Table 2.4). -/
structure CanCtl where
  table : Timetable := {}
  mark : Option (Nat × Nat × Nat) := none
  rate : Nat × Nat := (25, 2)
  cycleCount : Nat := 0
  cycleAt : Option Ns := none
  enabledAt : Ns := 0
  column : Option Nat := none
  held : List (CanFrame × Nat) := []
  waiting : List CanFrame := []
  attempts : List (Nat × Nat) := []
  since : List (Nat × Ns) := []
  ratesDue : Bool := false
  recover : Bool := false
  ownBell : Option Ns := none
  bell : List Byte := []
  callAt : Option Ns := none
  partials : List Partial := []
  tail : Bool := false
  bellShift : Int := 0
  deriving DecidableEq, Repr

/-- The cabinet bus (R303 to R332): both controllers, the roll call's ROUND, its instant while its answer window is open, the buses each entry answered on, consecutive roll
calls unanswered and answered on one bus, entries recorded as single-bus, envelopes complete (bus, node, bytes), the last accepted
envelope of each node with its bus and instant, the heartbeat's EPOCH and COUNT, their copy in the MRAM, and the last pair accepted
from each sender. -/
structure CanState where
  ctls : List CanCtl := [{}, {}]
  round : Nat := 0
  rollOpen : Option Ns := none
  answers : List (Nat × Nat) := []
  misses : List (Nat × Nat) := []
  singles : List (Nat × Nat) := []
  noted : List Nat := []
  envelopes : List (Nat × Nat × List Byte) := []
  accepted : List (Nat × Nat × Ns) := []
  hbEpoch : Nat := 0
  hbCount : Nat := 0
  hbSaved : Nat × Nat := (0, 0)
  hbHeard : List (Nat × Nat) := []
  hbSent : List Byte := []
  hbLast : Option Ns := none
  deriving DecidableEq, Repr

/-! ## Ring and DMA -/

/-- A frame bound for the host (R345): its channel, ingress port (2 maintenance), bytes with its FCS, its receive stamp in 0.25 ns with
EPOCH, and when it reached the head of its channel's queue. -/
structure HostFrame where
  chan : Nat
  port : Nat
  bytes : List Byte
  q : Nat
  epoch : Nat
  headAt : Option Ns
  deriving DecidableEq, Repr

/-- A frame queued at an egress port (R344, R357): its class, its channel, 16 for a frame forwarded from the ring, its FRAME_ID, whether its stamp is
wanted here, whether the descriptor waits for it, and its bytes. -/
structure TxEntry where
  port : Nat
  cls : Nat
  chan : Nat
  frameId : Nat
  stamp : Bool
  wb : Bool
  bytes : List Byte
  deriving DecidableEq, Repr

/-- NET beyond its registers (R333 to R349): the duplicate-discard and address tables, oldest first, the HSR sequence number, when own
supervision last returned, cages switched off, host frames waiting, frames queued at egress, the frame last sent on each port,
the corrections two-step Syncs still owe their Follow_Ups, when each neighbour was last heard, the HSR node table (address, port, when last heard
there), and the identification page of the optic in each cage. -/
structure NetState where
  dups : List (Nat × Nat × Ns) := []
  addrs : List (Nat × Nat × Ns) := []
  hsrSeq : Nat := 0
  supAt : Ns := 0
  supSeq : Nat := 0
  cageOff : List Bool := [false, false]
  hostq : List HostFrame := []
  egress : List TxEntry := []
  line : List (List Byte) := [[], [], []]
  followUps : List (List Byte × Nat) := []
  neighbourAt : List (Option Ns) := [none, none, none]
  nodes : List (Nat × Nat × Ns) := []
  pages : List (Option (List Byte)) := [none, none]
  deriving DecidableEq, Repr

/-- A descriptor that passed its checks (R351, R352): its bytes, its pairs (address, length, destination), and whether it waits for
its frame's stamp. -/
structure DmaDesc where
  bytes : List Byte
  pairs : List (Nat × Nat × Nat)
  waits : Bool := false
  deriving DecidableEq, Repr

/-- A DMA channel beyond its registers: the descriptor in progress and the frames it has received. -/
structure DmaCh where
  desc : Option DmaDesc := none
  frames : Nat := 0
  deriving DecidableEq, Repr

/-! ## Local lighting -/

/-- A sink channel beyond its registers (R367, R371): the configuration and trim in force, whether CUT shows an injected trip
whose cut the marking replaced (R472), and since when its open and short
conditions have held or been absent. -/
structure SnkCh where
  injected : Bool := false
  cfg : Word := 0
  trim : Word := 0x8000
  openOn : Option Ns := none
  openOff : Option Ns := none
  shortOn : Option Ns := none
  shortOff : Option Ns := none
  deriving DecidableEq, Repr

/-- SNK beyond its registers (R366 to R372): the scale in force, the channels, each bank's derating factor as a quotient, FB's
12-bit fraction, since when FB has stood at a clamp that the error pushes it against, and the channels and times of a trim at
its limit. -/
structure SnkState where
  scale : Nat := 255
  chans : List SnkCh
  factors : List (Nat × Nat) := [(1, 1), (1, 1), (1, 1)]
  frac : Nat := 0
  clampSince : Option Ns := none
  trimSince : List (Option Ns) := List.replicate 24 none
  deriving DecidableEq, Repr

/-- A halyard beyond its registers (R373 to R376): the transmit copy of its pennants (three levels each), the COUNT and GAP in
force, when the pending commit arrived and a change of CFG that waits for a frame start (R375), when the frame on the line began, the end of
the pennant after which it stops early (R376), and when the last one ended. -/
structure HalState where
  sent : List (Nat × Nat × Nat) := []
  count : Nat := 512
  gap : Nat := 80
  commit : Option Ns := none
  cfgAt : Option Ns := none
  frameAt : Option Ns := none
  endedAt : Option Ns := none
  stopsAt : Option Ns := none
  deriving DecidableEq, Repr

/-! ## Field update -/

/-- An image set in a bank or in staging: its manifest and its parts' bytes, in the manifest's order (R421, R425). -/
structure ImageSet where
  manifest : List Byte := []
  parts : List (List Byte) := []
  deriving DecidableEq, Repr

/-- A lantern in transfer (R436, R437): its number, the next block to send, and whether it was given a DAY cell at an offset. -/
structure ImageTransfer where
  lantern : Nat
  next : Nat
  dayCell : Option Nat := none
  deriving DecidableEq, Repr

/-- UPD beyond its registers (R421 to R441): the two banks, the journal's saved RECEIVED counts and elapsed count, when the running
count of the probation began, the end of the seal's time, the snapshot, what was so before the activation (hoist flags, ring links,
transports), INTEGRATOR_HEALTH, the slotframes each transceiver has run without MARKS_LOST, the samples CTL has completed
without a miss, whether MTR has latched without INPUT_FAIL, lanterns in transfer, lanterns that
activate (with ACTIVATE_ASN), and the classes released by LANTERN_ACTIVATE. -/
structure UpdState where
  banks : List ImageSet := [{}, {}]
  saved : List Nat := []
  elapsedSaved : Nat := 0
  countingSince : Option Ns := none
  sealUntil : Option Ns := none
  snapshot : List (Nat × List Byte) := []
  preHoist : Word := 0
  preLinks : List Bool := [false, false]
  preTransports : List Bool := [false, false, false]
  integratorOk : Bool := false
  macRuns : List Nat := [0, 0, 0, 0]
  ctlRun : Nat := 0
  latched : Bool := false
  transfers : List ImageTransfer := []
  activating : List (Nat × Nat) := []
  released : List Nat := []
  deriving DecidableEq, Repr

/-- The module. -/
structure State where
  pending : List Instr
  regs : List (Nat × Word)
  objs : List (Nat × List Byte)
  mem : List Host.Cell
  bus : BusState
  sys : SysState
  mode : ModeState
  aon : AonState
  evr : EvrState
  fault : FaultState
  time : TimeState
  rtc : RtcState
  dict : DictState
  key : KeyState
  cry : CryState
  macs : List MacState
  member : MemberState
  traffic : TrafficState
  ctl : CtlState
  mtr : MtrState
  cal : CalState
  can : CanState
  net : NetState
  dma : List DmaCh
  snk : SnkState
  hal : List HalState
  upd : UpdState
  freeIx : Nat
  deriving DecidableEq, Repr

/-- The machine right after its supplies first come: AON at its reset values on VCOIN alone, every register and object at
its reset value or default, every dual-clock queue held (R35), no command waiting. -/
def State.reset : State :=
  { pending := [], regs := [], objs := [], mem := [], bus := {},
    sys := { queues := List.replicate 34 {} }, mode := {}, aon := {}, evr := {}, fault := {}, time := { trig := List.replicate 16 {}, lastEdge := List.replicate 8 none }, rtc := {}, dict := {}, key := {}, cry := {}, macs := List.replicate 4 {}, member := {}, traffic := {}, ctl := {}, mtr := { inputs := List.replicate 10 {}, runs := List.replicate 5 (0, 0) }, cal := {}, can := {}, net := {}, dma := List.replicate 16 {}, snk := { chans := List.replicate 24 {} }, hal := [{}, {}], upd := {}, freeIx := 0 }

end Sys2Proof.Machine
end

