-- ==== Sys2Proof/Machine/Bfp.lean ====
section
/-! DEFINITION. Block floating arithmetic: exact products and sums, normalised at the end of each stage (R250, R251), and BF24
values (R81, R82). -/

namespace Sys2Proof.Machine

/-- An exact number m × 2^e: what an accumulator holds. -/
structure Dy where
  m : Int := 0
  e : Int := 0
  deriving DecidableEq, Repr

/-- n × 2^k for a k of either sign, rounded to nearest, ties to even (R250). -/
def roundShift (n k : Int) : Int :=
  if 0 ≤ k then n * (2 ^ k.toNat : Nat)
  else
    let d : Int := (2 ^ (-k).toNat : Nat)
    let q := n / d
    let r := n % d
    if 2 * r < d then q else if d < 2 * r then q + 1 else if q % 2 = 0 then q else q + 1

/-- The mantissas of two exact numbers over one exponent. -/
def Dy.align (a b : Dy) : Int × Int × Int :=
  let e := min a.e b.e
  (a.m * (2 ^ (a.e - e).toNat : Nat), b.m * (2 ^ (b.e - e).toNat : Nat), e)

/-- Exact sum. -/
def Dy.add (a b : Dy) : Dy :=
  let (x, y, e) := a.align b
  ⟨x + y, e⟩

/-- Exact negation. -/
def Dy.neg (a : Dy) : Dy := ⟨-a.m, a.e⟩

/-- Exact difference. -/
def Dy.sub (a b : Dy) : Dy := a.add b.neg

/-- Exact product. -/
def Dy.mul (a b : Dy) : Dy := ⟨a.m * b.m, a.e + b.e⟩

/-- Is one exact number below another? -/
def Dy.lt (a b : Dy) : Bool :=
  let (x, y, _) := a.align b
  decide (x < y)

/-- Are two exact numbers equal? -/
def Dy.eq (a b : Dy) : Bool := !a.lt b && !b.lt a

/-- The greater of two. -/
def Dy.max (a b : Dy) : Dy := if a.lt b then b else a

/-- A number held between two limits. -/
def Dy.clamp (lo hi a : Dy) : Dy := if a.lt lo then lo else if hi.lt a then hi else a

/-- A whole number. -/
def Dy.nat (n : Nat) : Dy := ⟨n, 0⟩

/-- The sum of a list. -/
def Dy.sum (l : List Dy) : Dy := l.foldl Dy.add {}

/-- R237: floor(k × v + 0.5) of an exact number. -/
def Dy.level (k : Nat) (v : Dy) : Int :=
  let n := v.m * k * 2
  if 0 ≤ v.e then (n * (2 ^ v.e.toNat : Nat) + 1) / 2 else (n + (2 ^ (-v.e).toNat : Nat)) / (2 * (2 ^ (-v.e).toNat : Nat))

/-- R250: a quotient as a coefficient: a 24-bit mantissa with its own exponent, exact where it fits, else one of its two
neighbours, which the spec leaves open. -/
def coeff (num : Int) (den : Nat) : Dy :=
  let n := num.natAbs
  if n = 0 then {}
  else
    let k0 : Int := 23 + Nat.log2 den - Nat.log2 n
    let k := if 2 ^ 23 ≤ (n * 2 ^ k0.toNat) / (den * 2 ^ (-k0).toNat) then k0 - 1 else k0
    let a := n * 2 ^ k.toNat
    let b := den * 2 ^ (-k).toNat
    let m := a / b + (if a % b = 0 then 0 else b2n (Config.roundUp num den))
    ⟨if num < 0 then -(m : Int) else m, -k⟩

/-- The exponent that normalises a mantissa n at exponent q (R250), rounding included; none for 0. -/
def ownExp (n q : Int) : Option Int :=
  if n = 0 then none
  else
    let b : Int := if 0 < n then (Nat.log2 n.natAbs : Int) + 1 else if n = -1 then 0 else (Nat.log2 (n.natAbs - 1) : Int) + 1
    let m := roundShift n (23 - b)
    some (if m = 2 ^ 23 then q + b + 1 else q + b)

/-- The greatest of the exponents that the elements of a stage's result need. -/
def stageExp (l : List (Nat × Dy)) : Option Int :=
  l.foldl (fun (a : Option Int) v =>
    match a, ownExp v.2.m v.2.e with
    | none, x => x
    | some x, none => some x
    | some x, some y => some (max x y)) none

/-- A 24-bit mantissa, held where it does not fit (R251). -/
def hold24 (m : Int) : Int := clampI (-(2 ^ 23)) (2 ^ 23 - 1) m

/-- R250, R251: the end of a stage: the result normalised, and whether it saturated. -/
def BVec.norm (l : List (Nat × Dy)) : BVec × Bool :=
  match stageExp l with
  | none => ({}, false)
  | some e0 =>
    let e := clampI (-128) 127 e0
    ({ exp := e, man := l.foldl (fun a v => Sparse.set (fun _ => (0 : Int)) a v.1 (hold24 (roundShift v.2.m (v.2.e - e + 23)))) [] },
      decide (127 < e0))

/-- A vector's mantissa at an index. -/
def BVec.mant (v : BVec) (i : Nat) : Int := Sparse.get (fun _ => (0 : Int)) v.man i

/-- A vector's element, exactly. -/
def BVec.get (v : BVec) (i : Nat) : Dy := ⟨v.mant i, v.exp - 23⟩

/-- The indices whose element is not 0. -/
def BVec.keys (v : BVec) : List Nat := v.man.map (fun e => e.1)

/-- R250: two vectors added: the one with the smaller exponent is shifted to the larger first. -/
def BVec.add (a b : BVec) : BVec × Bool :=
  let e := max a.exp b.exp
  BVec.norm ((union a.keys b.keys).map (fun i =>
    (i, ⟨roundShift (a.mant i) (a.exp - e) + roundShift (b.mant i) (b.exp - e), e - 23⟩)))

/-- The greater element at each index. -/
def BVec.peak (a b : BVec) : BVec × Bool :=
  BVec.norm ((union a.keys b.keys).map (fun i => (i, (a.get i).max (b.get i))))

/-- R81: the number a BF24 of four bytes holds. -/
def ofBf24 (l : List Byte) : Dy := ⟨sx 24 (leAt l 0 3), sx 8 (leAt l 3 1) - 23⟩

/-- R82: an exact number as a normalised BF24. -/
def bf24 (d : Dy) : List Byte :=
  let v := (BVec.norm [(0, d)]).1
  toLE 3 (enc 24 (v.mant 0)) ++ toLE 1 (enc 8 v.exp)

end Sys2Proof.Machine
end

