-- ==== Sys2Proof/Machine/Calendar.lean ====
section
/-! DEFINITION. The RTC's Gregorian calendar, 2000-01-01 to 2199-12-31 (R139). -/

namespace Sys2Proof.Machine

/-- A calendar date and time; the year is counted from 2000 (Table 4.13). -/
structure Civil where
  year : Nat
  month : Nat
  day : Nat
  hour : Nat
  min : Nat
  sec : Nat
  deriving DecidableEq, Repr

/-- R139: the Gregorian leap-year rule, for a year counted from 2000. -/
def leapYear (y : Nat) : Bool :=
  let a := y + 2000
  Nat.beq (a % 4) 0 && (!(Nat.beq (a % 100) 0) || Nat.beq (a % 400) 0)

/-- The days of a month. -/
def monthDays (y m : Nat) : Nat :=
  if m = 2 then (if leapYear y then 29 else 28) else if m = 4 ∨ m = 6 ∨ m = 9 ∨ m = 11 then 30 else 31

/-- Days of the year before the first of a month. -/
def daysBefore (y : Nat) : Nat → Nat
  | 0 => 0
  | 1 => 0
  | m + 1 => daysBefore y m + monthDays y m

/-- Days since 2000-01-01, the day number of AON_TAMPER_DAY and AON_RTC_ALARM_DAY (Table 2.9). -/
def dayNumber (y m d : Nat) : Nat :=
  365 * y + ((y + 3) / 4 - (y + 99) / 100 + (y + 399) / 400) + daysBefore y m + d - 1

/-- Does the date and time lie in the range of R139? -/
def Civil.valid (c : Civil) : Bool :=
  Nat.ble c.year 199 && Nat.ble 1 c.month && Nat.ble c.month 12 && Nat.ble 1 c.day && Nat.ble c.day (monthDays c.year c.month)
    && Nat.ble c.hour 23 && Nat.ble c.min 59 && Nat.ble c.sec 59

/-- The second of the day. -/
def Civil.secOfDay (c : Civil) : Nat := c.hour * 3600 + c.min * 60 + c.sec

/-- Seconds since 2000-01-01 00:00:00 UTC. -/
def Civil.seconds (c : Civil) : Nat := dayNumber c.year c.month c.day * 86400 + c.secOfDay

/-- R139: the weekday, 0 for Monday; 2000-01-01 is 5. -/
def Civil.weekday (c : Civil) : Nat := (dayNumber c.year c.month c.day + 5) % 7

/-- R139: one second later; from 2199-12-31 23:59:59 the calendar rolls to 2000-01-01 00:00:00. -/
def Civil.next (c : Civil) : Civil :=
  if c.sec < 59 then { c with sec := c.sec + 1 }
  else if c.min < 59 then { c with sec := 0, min := c.min + 1 }
  else if c.hour < 23 then { c with sec := 0, min := 0, hour := c.hour + 1 }
  else if c.day < monthDays c.year c.month then { c with sec := 0, min := 0, hour := 0, day := c.day + 1 }
  else if c.month < 12 then { c with sec := 0, min := 0, hour := 0, day := 1, month := c.month + 1 }
  else if c.year < 199 then { year := c.year + 1, month := 1, day := 1, hour := 0, min := 0, sec := 0 }
  else { year := 0, month := 1, day := 1, hour := 0, min := 0, sec := 0 }

/-- The year that holds a day number, and the day within it, searching years upwards on fuel. -/
def yearOfDay : Nat → Nat → Nat → Nat × Nat
  | 0, y, d => (y, d)
  | fuel + 1, y, d =>
    let n := if leapYear y then 366 else 365
    if d < n then (y, d) else yearOfDay fuel (y + 1) (d - n)

/-- The month that holds a day of a year, and the day within it. -/
def monthOfDay (y : Nat) : Nat → Nat → Nat → Nat × Nat
  | 0, m, d => (m, d)
  | fuel + 1, m, d => if d < monthDays y m then (m, d) else monthOfDay y fuel (m + 1) (d - monthDays y m)

/-- The calendar time of a number of seconds since 2000-01-01 00:00:00 UTC. -/
def Civil.ofSeconds (t : Nat) : Civil :=
  let days := t / 86400
  let (y, d) := yearOfDay 200 0 days
  let (m, d') := monthOfDay y 11 1 d
  let r := t % 86400
  { year := y, month := m, day := d' + 1, hour := r / 3600, min := r % 3600 / 60, sec := r % 60 }

/-- Seconds from 1970-01-01 to 2000-01-01 (R443). -/
def unixTo2000 : Nat := 946684800

end Sys2Proof.Machine
end

