-- ==== Sys2Proof/Machine/RegMap.lean ====
section
/-! DEFINITION. The register maps of the spec: one row per register or register array, with the bits each access code
of R8 (Table 0.4) governs, the bits reserved to the resident initiators (R134 and the rules that refer to it) or to the
supervisor (R38), and the reset value; and the address of every register under the manual's own name.
Rows stand in the order of the maps: Tables 1.14, 2.6, 4.12, 4.7, 5.16, 5.21, 8.12, 9.11, 13.7, 10.12, 11.7, 11.9, 12.3, 12.5,
14.11, 14.13, 15.8, 16.6, 17.8 and 17.10; the field tables beside each map give the masks. -/

namespace Sys2Proof.Machine

/-- One register, or an array of registers `stride` bytes apart: the bits that are RW, W1C, W1S and WO, the bits only
resident initiators (`res`) or only the supervisor (`sup`) write, and the reset value (R8, R38, R134). -/
structure RegRow where
  off : Nat
  stride : Nat
  count : Nat
  rw : Word
  w1c : Word
  w1s : Word
  wo : Word
  res : Word
  sup : Word
  reset : Word
  deriving DecidableEq, Repr

namespace Reg

/-- Table 1.14: the SYS block. -/
def rowsSYS : List RegRow := [
  ⟨0, 4, 1, 0, 0, 0, 0, 0, 0, 0x82400001⟩,  -- SYS_ID
  ⟨4, 4, 1, 0, 0, 0, 0, 0, 0, 0x45⟩,  -- SYS_VARIANT
  ⟨0x10, 4, 1, 0, 0xF, 0, 0, 0, 0, 0⟩,  -- SYS_BUS_ERR
  ⟨0x14, 4, 1, 0, 0, 0, 0, 0, 0, 0⟩,  -- SYS_BUS_ERR_ADDR
  ⟨0x20, 4, 1, 0xFFFFFFFF, 0, 0, 0, 0, 0xFFFFFFFF, 0⟩,  -- SYS_PERM_LO
  ⟨0x24, 4, 1, 0xFFFF, 0, 0, 0, 0, 0xFFFF, 0⟩,  -- SYS_PERM_HI
  ⟨0x28, 4, 1, 0xFFFF, 0, 0, 0, 0, 0xFFFF, 0⟩,  -- SYS_PERM_DMA
  ⟨0x2C, 4, 1, 0, 0, 0, 0, 0, 0, 0⟩,  -- SYS_PERM_VIOL
  ⟨0x30, 4, 1, 1, 0, 0, 2, 0, 3, 0⟩,  -- SYS_CORE3_CTRL
  ⟨0x40, 4, 1, 0, 0, 0, 0, 0, 0, 0xF000⟩,  -- SYS_L2_PART
  ⟨0x100, 4, 1, 0, 0, 0, 0, 0, 0, 0⟩,  -- SYS_CLKMON
  ⟨0x200, 4, 1, 0, 0xFFFFFFFF, 0, 0, 0, 0, 0⟩,  -- SYS_QFAULT_LO
  ⟨0x204, 4, 1, 0, 3, 0, 0, 0, 0, 0⟩,  -- SYS_QFAULT_HI
  ⟨0x400, 8, 34, 0, 0, 0, 0, 0, 0, 0⟩,  -- SYS_Qn_WCNT
  ⟨0x404, 8, 34, 0, 0, 0, 0, 0, 0, 0⟩]  -- SYS_Qn_RCNT

/-- Table 2.6; Table 4.12: the AON block. -/
def rowsAON : List RegRow := [
  ⟨0, 4, 1, 0, 0, 0, 0, 0, 0, 0x280⟩,  -- AON_STATUS
  ⟨4, 4, 1, 0xFF3FF, 0, 0, 0, 0, 0xFF3FF, 0x320C8⟩,  -- AON_PHOTO_CFG
  ⟨8, 4, 1, 0x7FF, 0, 0, 0, 0, 0x7FF, 0x44C⟩,  -- AON_BAT_CFG
  ⟨0x10, 4, 1, 0x10F, 0x10000, 0, 0, 0, 0x1010F, 0⟩,  -- AON_CONT_CTRL
  ⟨0x14, 4, 1, 0, 0, 0, 0, 0, 0, 0x10⟩,  -- AON_CONT_STAT
  ⟨0x18, 4, 1, 0, 0, 0, 0xFF, 0, 0xFF, 0⟩,  -- AON_HEARTBEAT
  ⟨0x24, 4, 1, 0, 0, 0, 0, 0, 0, 0⟩,  -- AON_TAMPER_STAT
  ⟨0x28, 4, 1, 0, 0, 0, 7, 0, 7, 0⟩,  -- AON_TAMPER_CLEAR
  ⟨0x30, 8, 3, 0, 0, 0, 0, 0, 0, 0⟩,  -- AON_TAMPER_DAY_s
  ⟨0x34, 8, 3, 0, 0, 0, 0, 0, 0, 0⟩,  -- AON_TAMPER_SEC_s
  ⟨0x48, 4, 1, 3, 0, 0, 0, 0, 3, 0⟩,  -- AON_WAKE_CFG
  ⟨0x4C, 4, 1, 0, 7, 0, 0, 0, 7, 0⟩,  -- AON_WAKE_CAUSE
  ⟨0x50, 4, 1, 0, 0, 0, 3, 0, 3, 0⟩,  -- AON_PWR_CTRL
  ⟨0x100, 4, 1, 7, 0x1F0000, 0, 0, 0, 7, 4⟩,  -- AON_RTC_CTRL
  ⟨0x104, 4, 1, 0, 0, 0, 0, 0, 0, 0⟩,  -- AON_RTC_TALLY
  ⟨0x108, 4, 1, 0, 0, 0, 0, 0, 0, 0⟩,  -- AON_RTC_TICK
  ⟨0x10C, 4, 1, 0x3F, 0, 0, 0, 0, 0x3F, 0⟩,  -- AON_RTC_SEC
  ⟨0x110, 4, 1, 0x3F, 0, 0, 0, 0, 0x3F, 0⟩,  -- AON_RTC_MIN
  ⟨0x114, 4, 1, 0x1F, 0, 0, 0, 0, 0x1F, 0⟩,  -- AON_RTC_HOUR
  ⟨0x118, 4, 1, 0x1F, 0, 0, 0, 0, 0x1F, 1⟩,  -- AON_RTC_DAY
  ⟨0x11C, 4, 1, 0, 0, 0, 0, 0, 0, 5⟩,  -- AON_RTC_WEEKDAY
  ⟨0x120, 4, 1, 0xF, 0, 0, 0, 0, 0xF, 1⟩,  -- AON_RTC_MONTH
  ⟨0x124, 4, 1, 0xFF, 0, 0, 0, 0, 0xFF, 0⟩,  -- AON_RTC_YEAR
  ⟨0x130, 4, 1, 0x1FFFF, 0, 0, 0, 0, 0x1FFFF, 0⟩,  -- AON_RTC_ALARM_DAY
  ⟨0x134, 4, 1, 0x1FFFF, 0, 0, 0, 0, 0x1FFFF, 0⟩,  -- AON_RTC_ALARM_SEC
  ⟨0x140, 4, 1, 0, 0, 0, 0, 0, 0, 0⟩,  -- AON_RTC_TEMP
  ⟨0x144, 4, 1, 0, 0, 0, 0, 0, 0, 0⟩,  -- AON_RTC_CORR
  ⟨0x148, 4, 1, 0xFFFF, 0, 0, 0, 0, 0xFFFF, 0⟩,  -- AON_RTC_TRIM
  ⟨0x180, 4, 33, 0xFFFF, 0, 0, 0, 0, 0xFFFF, 0⟩]  -- AON_RTC_CURVE_k

/-- Table 4.7: the TIME block. -/
def rowsTIME : List RegRow := [
  ⟨0, 4, 1, 0, 0, 0, 0, 0, 0, 0⟩,  -- TIME_STATUS
  ⟨4, 4, 1, 0, 0x7FFFFF, 0, 0, 0, 0, 0⟩,  -- TIME_INT_STAT
  ⟨8, 4, 1, 0x7FFFFF, 0, 0, 0, 0, 0, 0⟩,  -- TIME_INT_EN
  ⟨0x10, 4, 1, 0, 0, 0, 0, 0, 0, 0⟩,  -- TIME_NOW_NS
  ⟨0x14, 4, 1, 0, 0, 0, 0, 0, 0, 0⟩,  -- TIME_NOW_SEC_LO
  ⟨0x18, 4, 1, 0, 0, 0, 0, 0, 0, 0⟩,  -- TIME_NOW_SEC_HI
  ⟨0x1C, 4, 1, 0, 0, 0, 0, 0, 0, 0⟩,  -- TIME_NOW_STAMP
  ⟨0x20, 4, 1, 0, 0, 0, 0, 0, 0, 0⟩,  -- TIME_STAMP_LIVE
  ⟨0x30, 4, 1, 0xFFFF, 0, 0, 0, 0xFFFF, 0, 0⟩,  -- TIME_SET_SEC_HI
  ⟨0x34, 4, 1, 0xFFFFFFFF, 0, 0, 0, 0xFFFFFFFF, 0, 0⟩,  -- TIME_SET_SEC_LO
  ⟨0x38, 4, 1, 0x3FFFFFFF, 0, 0, 0, 0x3FFFFFFF, 0, 0⟩,  -- TIME_SET_NS
  ⟨0x3C, 4, 1, 0, 0, 0, 3, 3, 0, 0⟩,  -- TIME_CMD
  ⟨0x40, 4, 1, 0xFFFFFFFF, 0, 0, 0, 0xFFFFFFFF, 0, 0⟩,  -- TIME_STEP_SEC
  ⟨0x44, 4, 1, 0xFFFFFFFF, 0, 0, 0, 0xFFFFFFFF, 0, 0⟩,  -- TIME_STEP_NS
  ⟨0x48, 4, 1, 0, 0, 0, 0, 0, 0, 0⟩,  -- TIME_STEP_LAST_SEC
  ⟨0x4C, 4, 1, 0, 0, 0, 0, 0, 0, 0⟩,  -- TIME_STEP_LAST_NS
  ⟨0x50, 4, 1, 0xFFFFFFFF, 0, 0, 0, 0xFFFFFFFF, 0, 0⟩,  -- TIME_FREQ_ADJ
  ⟨0x60, 4, 1, 0x7F, 0, 0, 0, 0x7F, 0, 0⟩,  -- TIME_SERVO_CTRL
  ⟨0x64, 4, 1, 0, 0, 0, 0xFFFFFFFF, 0xFFFFFFFF, 0, 0⟩,  -- TIME_SERVO_OFFSET
  ⟨0x68, 4, 1, 0xFFFFFFFF, 0, 0, 0, 0xFFFFFFFF, 0, 0x4CD0B33⟩,  -- TIME_SERVO_GAIN
  ⟨0x6C, 4, 1, 0xFFFFFFFF, 0, 0, 0, 0xFFFFFFFF, 0, 0x3E803E8⟩,  -- TIME_SERVO_LIMIT
  ⟨0x70, 4, 1, 0xFFFFFFFF, 0, 0, 0, 0xFFFFFFFF, 0, 0x5080064⟩,  -- TIME_SERVO_LOCK
  ⟨0x74, 4, 1, 0, 0, 0, 0, 0, 0, 0⟩,  -- TIME_SERVO_INTEG
  ⟨0x78, 4, 1, 0, 0, 0, 0, 0, 0, 0⟩,  -- TIME_SERVO_LAST
  ⟨0x100, 4, 1, 0xFFFF, 0, 0, 0, 0, 0, 0⟩,  -- TIME_CAPT_CTRL
  ⟨0x104, 4, 1, 0, 0, 0, 0, 0, 0, 0⟩,  -- TIME_CAPT_DROP
  ⟨0x108, 4, 1, 0, 0, 0, 0, 0, 0, 0⟩,  -- TIME_CAPT_FAST
  ⟨0x110, 4, 4, 0, 0, 0, 0, 0, 0, 0⟩,  -- TIME_CAPT_RECw
  ⟨0x140, 8, 3, 0, 0, 0, 0, 0, 0, 0⟩,  -- TIME_ICAP_STAMP_k
  ⟨0x144, 8, 3, 0, 0, 0, 0, 0, 0, 0⟩,  -- TIME_ICAP_SEQ_k
  ⟨0x180, 4, 1, 0xFFFFFFFF, 0, 0, 0, 0xFFFFFFFF, 0, 0⟩,  -- TIME_NET_ADJ_A
  ⟨0x184, 4, 1, 0xFFFFFFFF, 0, 0, 0, 0xFFFFFFFF, 0, 0⟩,  -- TIME_NET_ADJ_B
  ⟨0x188, 4, 1, 0xFFFFFFFF, 0, 0, 0, 0xFFFFFFFF, 0, 0⟩,  -- TIME_NET_ADJ_M
  ⟨0x200, 32, 8, 4, 0, 1, 2, 0, 0, 0⟩,  -- TIME_TRIG_CTRL_n
  ⟨0x300, 32, 8, 4, 0, 1, 2, 7, 0, 0⟩,  -- TIME_TRIG_CTRL_n
  ⟨0x204, 32, 8, 0xFFFF, 0, 0, 0, 0, 0, 0⟩,  -- TIME_TRIG_SEC_HI_n
  ⟨0x304, 32, 8, 0xFFFF, 0, 0, 0, 0xFFFF, 0, 0⟩,  -- TIME_TRIG_SEC_HI_n
  ⟨0x208, 32, 8, 0xFFFFFFFF, 0, 0, 0, 0, 0, 0⟩,  -- TIME_TRIG_SEC_LO_n
  ⟨0x308, 32, 8, 0xFFFFFFFF, 0, 0, 0, 0xFFFFFFFF, 0, 0⟩,  -- TIME_TRIG_SEC_LO_n
  ⟨0x20C, 32, 8, 0xFFFFFFFF, 0, 0, 0, 0, 0, 0⟩,  -- TIME_TRIG_NS_n
  ⟨0x30C, 32, 8, 0xFFFFFFFF, 0, 0, 0, 0xFFFFFFFF, 0, 0⟩,  -- TIME_TRIG_NS_n
  ⟨0x210, 32, 8, 0xFFFFFFFF, 0, 0, 0, 0, 0, 0⟩,  -- TIME_TRIG_PERIOD_n
  ⟨0x310, 32, 8, 0xFFFFFFFF, 0, 0, 0, 0xFFFFFFFF, 0, 0⟩,  -- TIME_TRIG_PERIOD_n
  ⟨0x214, 32, 8, 0xFFFFFFFF, 0, 0, 0, 0, 0, 0⟩,  -- TIME_TRIG_WIDTH_n
  ⟨0x314, 32, 8, 0xFFFFFFFF, 0, 0, 0, 0xFFFFFFFF, 0, 0⟩,  -- TIME_TRIG_WIDTH_n
  ⟨0x218, 32, 8, 0, 7, 0, 0, 0, 0, 0⟩,  -- TIME_TRIG_STAT_n
  ⟨0x318, 32, 8, 0, 7, 0, 0, 7, 0, 0⟩,  -- TIME_TRIG_STAT_n
  ⟨0x400, 4, 1, 0, 0x100, 0, 0, 0x100, 0, 0⟩,  -- TIME_TSQ_STAT
  ⟨0x404, 4, 1, 0, 0, 0, 0, 0, 0, 0⟩,  -- TIME_TSQ_ID
  ⟨0x408, 4, 1, 0, 0, 0, 0, 0, 0, 0⟩,  -- TIME_TSQ_SEC
  ⟨0x40C, 4, 1, 0, 0, 0, 0, 0, 0, 0⟩]  -- TIME_TSQ_NS

/-- Table 5.16; Table 5.19: the MACn block. -/
def rowsMAC : List RegRow := [
  ⟨0, 4, 1, 0xF, 0, 0, 0x10, 0x1F, 0, 0⟩,  -- MACn_CTRL
  ⟨4, 4, 1, 0, 0, 0, 0, 0, 0, 0⟩,  -- MACn_STATUS
  ⟨8, 4, 1, 0, 0x7FF, 0, 0, 0, 0, 0⟩,  -- MACn_INT_STAT
  ⟨0xC, 4, 1, 0x7FF, 0, 0, 0, 0x7FF, 0, 0⟩,  -- MACn_INT_EN
  ⟨0x10, 4, 1, 0xFFFF0FFF, 0, 0, 0, 0xFFFF0FFF, 0, 0x1C080004⟩,  -- MACn_PHY
  ⟨0x14, 4, 1, 0x3FFFF, 0, 0, 0, 0x3FFFF, 0, 0⟩,  -- MACn_ADDR
  ⟨0x18, 4, 1, 0x1FFF, 0, 0, 0, 0x1FFF, 0, 0x407⟩,  -- MACn_SLOTFRAME
  ⟨0x1C, 4, 1, 0xFFFF0C7F, 0, 0, 0, 0xFFFF0C7F, 0, 0⟩,  -- MACn_HOP
  ⟨0x20, 4, 1, 0xFFFFFFFF, 0, 0, 0, 0xFFFFFFFF, 0, 0⟩,  -- MACn_DISC
  ⟨0x24, 4, 1, 0xFFFFFF, 0, 0, 0, 0xFFFFFF, 0, 0x3E87D0⟩,  -- MACn_TIMING
  ⟨0x28, 4, 1, 0xFFFF, 0, 0, 0, 0xFFFF, 0, 0x5543⟩,  -- MACn_RETRY
  ⟨0x30, 4, 1, 0, 2, 1, 0, 0, 0, 0⟩,  -- MACn_SCHED_CTRL
  ⟨0x38, 4, 1, 0, 0, 0, 0, 0, 0, 0⟩,  -- MACn_ASN_LO
  ⟨0x3C, 4, 1, 0, 0, 0, 0, 0, 0, 0⟩,  -- MACn_ASN_HI
  ⟨0x40, 4, 1, 0xFFFFFFFF, 0, 0, 0, 0xFFFFFFFF, 0, 0⟩,  -- MACn_ASN_SET_LO
  ⟨0x44, 4, 1, 0xFF, 0, 0x80000000, 0, 0x800000FF, 0, 0⟩,  -- MACn_ASN_SET_HI
  ⟨0x48, 4, 1, 0xFF0000FF, 0, 0, 0, 0xFF0000FF, 0, 0x1E000000⟩,  -- MACn_KEY
  ⟨0x50, 4, 1, 0xFFFFFFFF, 0, 0, 0, 0xFFFFFFFF, 0, 0⟩,  -- MACn_TXR_BASE_LO
  ⟨0x54, 4, 1, 0xFF, 0, 0, 0, 0xFF, 0, 0⟩,  -- MACn_TXR_BASE_HI
  ⟨0x58, 4, 1, 0x1FFF, 0, 0, 0, 0x1FFF, 0, 0x10⟩,  -- MACn_TXR_SIZE
  ⟨0x5C, 4, 1, 0xFFFFFFFF, 0, 0, 0, 0xFFFFFFFF, 0, 0⟩,  -- MACn_TXR_HEAD
  ⟨0x60, 4, 1, 0, 0, 0, 0, 0, 0, 0⟩,  -- MACn_TXR_TAIL
  ⟨0x70, 4, 1, 0xFFFFFFFF, 0, 0, 0, 0xFFFFFFFF, 0, 0⟩,  -- MACn_RXR_BASE_LO
  ⟨0x74, 4, 1, 0xFF, 0, 0, 0, 0xFF, 0, 0⟩,  -- MACn_RXR_BASE_HI
  ⟨0x78, 4, 1, 0x1FFF, 0, 0, 0, 0x1FFF, 0, 0x10⟩,  -- MACn_RXR_SIZE
  ⟨0x7C, 4, 1, 0xFFFFFFFF, 0, 0, 0, 0xFFFFFFFF, 0, 0⟩,  -- MACn_RXR_HEAD
  ⟨0x80, 4, 1, 0, 0, 0, 0, 0, 0, 0⟩,  -- MACn_RXR_TAIL
  ⟨0xC0, 4, 16, 0xFFFFFFFF, 0, 0, 0, 0xFFFFFFFF, 0, 0⟩,  -- MACn_HOPCH_k
  ⟨0x100, 4, 16, 0, 0, 0, 0, 0, 0, 0⟩,  -- MACn_counter c
  ⟨0x9000, 4, 4099, 0xFFFFFFFF, 0, 0, 0, 0xFFFFFFFF, 0, 0⟩,  -- MACn_CELL_s
  ⟨0x1000, 32, 1024, 0x3FFF, 0, 0, 0, 0x3FFF, 0, 0⟩,  -- MACn_NB word 0
  ⟨0x1004, 32, 1024, 0, 0, 0, 0, 0, 0, 0⟩,  -- MACn_NB word 1
  ⟨0x1008, 32, 1024, 0, 0, 0, 0, 0, 0, 0⟩,  -- MACn_NB word 2
  ⟨0x100C, 32, 1024, 0xFFFFFFFF, 0, 0, 0, 0xFFFFFFFF, 0, 0⟩,  -- MACn_NB word 3
  ⟨0x1010, 32, 1024, 0xFFFFFFFF, 0, 0, 0, 0xFFFFFFFF, 0, 0⟩,  -- MACn_NB word 4
  ⟨0x1014, 32, 1024, 0xFFFFFFFF, 0, 0, 0, 0xFFFFFFFF, 0, 0⟩,  -- MACn_NB word 5
  ⟨0x1018, 32, 1024, 0xFFFFFFFF, 0, 0, 0, 0xFFFFFFFF, 0, 0⟩,  -- MACn_NB word 6
  ⟨0x101C, 32, 1024, 0xFFFFFFFF, 0, 0, 0, 0xFFFFFFFF, 0, 0⟩]  -- MACn_NB word 7

/-- Table 5.21: the SCAN block. -/
def rowsSCAN : List RegRow := [
  ⟨0, 4, 1, 1, 0, 0, 0, 1, 0, 0⟩,  -- SCAN_CTRL
  ⟨4, 4, 1, 0, 0, 0, 0, 0, 0, 0⟩,  -- SCAN_STATUS
  ⟨8, 4, 1, 0, 3, 0, 0, 0, 0, 0⟩,  -- SCAN_INT_STAT
  ⟨0xC, 4, 1, 3, 0, 0, 0, 3, 0, 0⟩,  -- SCAN_INT_EN
  ⟨0x70, 4, 1, 0xFFFFFFFF, 0, 0, 0, 0xFFFFFFFF, 0, 0⟩,  -- SCAN_RXR_BASE_LO
  ⟨0x74, 4, 1, 0xFF, 0, 0, 0, 0xFF, 0, 0⟩,  -- SCAN_RXR_BASE_HI
  ⟨0x78, 4, 1, 0x1FFF, 0, 0, 0, 0x1FFF, 0, 0x10⟩,  -- SCAN_RXR_SIZE
  ⟨0x7C, 4, 1, 0xFFFFFFFF, 0, 0, 0, 0xFFFFFFFF, 0, 0⟩,  -- SCAN_RXR_HEAD
  ⟨0x80, 4, 1, 0, 0, 0, 0, 0, 0, 0⟩,  -- SCAN_RXR_TAIL
  ⟨0x100, 4, 5, 0, 0, 0, 0, 0, 0, 0⟩]  -- SCAN counter c

/-- Table 8.12: the CTL block. -/
def rowsCTL : List RegRow := [
  ⟨0, 4, 1, 0x33, 0, 4, 0, 0x33, 0, 0⟩,  -- CTL_CTRL
  ⟨4, 4, 1, 0, 0, 0, 0, 0, 0, 0⟩,  -- CTL_STATUS
  ⟨8, 4, 1, 0, 0x7FF, 0, 0, 0, 0, 0⟩,  -- CTL_INT_STAT
  ⟨0xC, 4, 1, 0x7FF, 0, 0, 0, 0x7FF, 0, 0⟩,  -- CTL_INT_EN
  ⟨0x10, 4, 1, 0xFFFFF, 0, 0, 0, 0xFFFFF, 0, 0x4E20⟩,  -- CTL_PERIOD
  ⟨0x14, 4, 1, 0, 0, 0, 0, 0, 0, 0x4A38⟩,  -- CTL_DEADLINE
  ⟨0x18, 4, 1, 0, 0, 0, 0, 0, 0, 0⟩,  -- CTL_SAMPLE_SEQ
  ⟨0x1C, 4, 1, 0, 0, 0, 0, 0, 0, 0⟩,  -- CTL_MISS_COUNT
  ⟨0x20, 4, 1, 0, 0, 0, 0, 0, 0, 0⟩,  -- CTL_LAST_START
  ⟨0x24, 4, 1, 0, 0, 0, 0, 0, 0, 0⟩,  -- CTL_DURATION
  ⟨0x28, 4, 1, 0, 0xFFFFF, 0, 0, 0, 0, 0⟩,  -- CTL_DURATION_MAX
  ⟨0x2C, 4, 1, 0xFFFF, 0, 0, 0, 0xFFFF, 0, 0⟩,  -- CTL_LAW
  ⟨0x30, 4, 1, 0xFFFF, 0, 0, 0, 0xFFFF, 0, 0x1F4⟩,  -- CTL_RAMP_LIMIT
  ⟨0x34, 4, 1, 0x3FF, 0, 0, 0, 0x3FF, 0, 0x14⟩,  -- CTL_HO_BAND
  ⟨0x40, 4, 1, 0, 0x1FF, 0, 0, 0, 0, 0⟩,  -- CTL_STAGE_SAT
  ⟨0x44, 4, 1, 0, 0, 0, 0, 0, 0, 0⟩,  -- CTL_COUNTS_A
  ⟨0x48, 4, 1, 0, 0, 0, 0, 0, 0, 0⟩,  -- CTL_COUNTS_B
  ⟨0x50, 4, 1, 0xFFFFFFFF, 0, 0, 0, 0xFFFFFFFF, 0, 0⟩,  -- CTL_BANK_BASE_LO
  ⟨0x54, 4, 1, 0xFF, 0, 0, 0, 0xFF, 0, 0⟩,  -- CTL_BANK_BASE_HI
  ⟨0x58, 4, 1, 0xFFFFFFFF, 0, 0, 0, 0xFFFFFFFF, 0, 0⟩,  -- CTL_OUT_BASE_LO
  ⟨0x5C, 4, 1, 0xFF, 0, 0, 0, 0xFF, 0, 0⟩,  -- CTL_OUT_BASE_HI
  ⟨0x60, 4, 1, 0xFFFFFFFF, 0, 0, 0, 0xFFFFFFFF, 0, 0⟩,  -- CTL_IN_BASE_LO
  ⟨0x64, 4, 1, 0xFF, 0, 0, 0, 0xFF, 0, 0⟩,  -- CTL_IN_BASE_HI
  ⟨0x70, 4, 1, 0, 0, 0, 0, 0, 0, 0⟩]  -- CTL_UCODE_VER

/-- Table 9.11: the MTR block. -/
def rowsMTR : List RegRow := [
  ⟨0, 4, 1, 0x1F, 0, 0, 0, 0x1F, 0, 0⟩,  -- MTR_CTRL
  ⟨4, 4, 1, 0, 0, 0, 0, 0, 0, 0⟩,  -- MTR_STATUS
  ⟨8, 4, 1, 0, 0x1FF, 0, 0, 0, 0, 0⟩,  -- MTR_INT_STAT
  ⟨0xC, 4, 1, 0x1FF, 0, 0, 0, 0x1FF, 0, 0⟩,  -- MTR_INT_EN
  ⟨0x10, 4, 1, 0xFFFF, 0, 0, 0, 0xFFFF, 0, 0x32⟩,  -- MTR_LATCH_CTRL
  ⟨0x14, 4, 1, 0, 0, 0, 0, 0, 0, 0x76543210⟩,  -- MTR_ROUTE
  ⟨0x18, 4, 1, 0xFFFFFFFF, 0, 0, 0, 0xFFFFFFFF, 0, 0x76543210⟩,  -- MTR_ROUTE_NEXT
  ⟨0x1C, 4, 1, 0, 2, 0, 0, 0, 0, 0⟩,  -- MTR_ROUTE_STAT
  ⟨0x20, 4, 10, 0xFFFFFF07, 0, 0, 0, 0xFFFFFF07, 0, 0x7D00⟩,  -- MTR_IN_CFG_n
  ⟨0x60, 4, 10, 0, 0, 0, 0, 0, 0, 0⟩,  -- MTR_IN_STAT_n
  ⟨0x100, 16, 10, 0xFFFFFFFF, 0, 0, 0, 0xFFFFFFFF, 0, 0x40000000⟩,  -- MTR_CORR_GAIN_n
  ⟨0x104, 16, 10, 0xFFFFFFFF, 0, 0, 0, 0xFFFFFFFF, 0, 0⟩,  -- MTR_CORR_OFFSET_n
  ⟨0x108, 16, 10, 0xFFFFFFFF, 0, 0, 0, 0xFFFFFFFF, 0, 0⟩,  -- MTR_CORR_DELAY_n
  ⟨0x200, 4, 1, 0, 0, 0, 0, 0, 0, 0⟩,  -- MTR_CYCLE_SEQ
  ⟨0x204, 4, 1, 0, 0, 0, 0, 0, 0, 0⟩,  -- MTR_CYCLE_STAMP
  ⟨0x208, 4, 1, 0, 0, 0, 0, 0, 0, 0⟩,  -- MTR_CYCLE_PERIOD
  ⟨0x20C, 4, 1, 0, 0, 0, 0, 0, 0, 0⟩,  -- MTR_FLYWHEEL
  ⟨0x210, 4, 1, 0, 0, 0, 0, 0, 0, 0⟩,  -- MTR_LATCH_SEQ
  ⟨0x214, 4, 1, 0, 0, 0, 0, 0, 0, 0⟩,  -- MTR_LATCH_STAMP
  ⟨0x218, 4, 1, 0, 0, 0, 0, 0, 0, 0⟩,  -- MTR_LATCH_INFO
  ⟨0x220, 8, 16, 0, 0, 0, 0, 0, 0, 0⟩,  -- MTR_LATCH_E_LO_k
  ⟨0x224, 8, 16, 0, 0, 0, 0, 0, 0, 0⟩,  -- MTR_LATCH_E_HI_k
  ⟨0x300, 4, 1, 0, 0, 0, 0, 0, 0, 0⟩,  -- MTR_EVENT_STAT
  ⟨0x310, 8, 4, 0, 0, 0, 0, 0, 0, 0⟩,  -- MTR_AH_LO_p
  ⟨0x314, 8, 4, 0, 0, 0, 0, 0, 0, 0⟩]  -- MTR_AH_HI_p

/-- Table 13.7: the CAL block. -/
def rowsCAL : List RegRow := [
  ⟨0, 4, 1, 7, 0, 0, 0, 7, 0, 0⟩,  -- CAL_CTRL
  ⟨4, 4, 1, 0, 0, 0, 0, 0, 0, 0⟩,  -- CAL_STATUS
  ⟨8, 4, 1, 0, 0x3F, 0, 0, 0, 0, 0⟩,  -- CAL_INT_STAT
  ⟨0xC, 4, 1, 0x3F, 0, 0, 0, 0x3F, 0, 0⟩,  -- CAL_INT_EN
  ⟨0x10, 4, 1, 0xFF, 0, 0, 0, 0xFF, 0, 0⟩,  -- CAL_SEL
  ⟨0x14, 4, 1, 0xFFF, 0, 0, 0, 0xFFF, 0, 0x3E8⟩,  -- CAL_REF_CTRL
  ⟨0x18, 4, 1, 0, 0, 0, 0, 0, 0, 0⟩,  -- CAL_REF_CHECK
  ⟨0x40, 32, 2, 0xFFFF, 0, 0x10000, 0, 0xFFFF, 0, 0x100⟩,  -- CAL_ACC_CTRL_k
  ⟨0x44, 32, 2, 0, 0, 0, 0, 0, 0, 0⟩,  -- CAL_ACC_STAT_k
  ⟨0x48, 32, 2, 0, 0, 0, 0, 0, 0, 0⟩,  -- CAL_ACC_RATIO_k
  ⟨0x4C, 32, 2, 0, 0, 0, 0, 0, 0, 0⟩,  -- CAL_ACC_DELAY_k
  ⟨0x50, 32, 2, 0, 0, 0, 0, 0, 0, 0⟩,  -- CAL_ACC_MEAN_k
  ⟨0x54, 32, 2, 0, 0, 0, 0, 0, 0, 0⟩,  -- CAL_ACC_RMS_k
  ⟨0x80, 4, 4, 0, 0, 0, 0, 0, 0, 0⟩,  -- CAL_RAD_PPM_n
  ⟨0x90, 4, 3, 0, 0, 0, 0, 0, 0, 0⟩]  -- CAL_SINK_REF_b

/-- Table 10.12; Table 10.12: the CANn block. -/
def rowsCAN : List RegRow := [
  ⟨0, 4, 1, 0x3FF, 0, 0, 0, 0x1FF, 0, 0⟩,  -- CANn_CTRL
  ⟨4, 4, 1, 0, 0, 0, 0, 0, 0, 0⟩,  -- CANn_STATUS
  ⟨8, 4, 1, 0, 0x1FFFF, 0, 0, 0, 0, 0⟩,  -- CANn_INT_STAT
  ⟨0xC, 4, 1, 0x1FFFF, 0, 0, 0, 0, 0, 0⟩,  -- CANn_INT_EN
  ⟨0x10, 4, 1, 0x7FFFFFFF, 0, 0, 0, 0x7FFFFFFF, 0, 0x20200A0⟩,  -- CANn_ARB_TIMING
  ⟨0x14, 4, 1, 0x7FFFFFFF, 0, 0, 0, 0x7FFFFFFF, 0, 0xA1E28⟩,  -- CANn_DATA_TIMING
  ⟨0x18, 4, 1, 0, 0, 0, 0, 0, 0, 0⟩,  -- CANn_ERR
  ⟨0x1C, 4, 1, 0x701FFFF, 0, 0, 0, 0x701FFFF, 0, 0x2710⟩,  -- CANn_CYCLE_LEN
  ⟨0x20, 4, 1, 0x3F, 0, 0, 0, 0x3F, 0, 1⟩,  -- CANn_COLS
  ⟨0x24, 4, 1, 0, 2, 1, 0, 0, 0, 0⟩,  -- CANn_SCHED_CTRL
  ⟨0x30, 4, 1, 0, 0, 0, 0, 0, 0, 0⟩,  -- CANn_MARK_STAMP
  ⟨0x34, 4, 1, 0, 0, 0, 0, 0, 0, 0xC800000⟩,  -- CANn_MARK_RATE
  ⟨0x40, 4, 1, 0, 0, 0xFFFFFFFF, 0, 0, 0, 0⟩,  -- CANn_TX_REQ_LO
  ⟨0x44, 4, 1, 0, 0, 0xFFFFFFFF, 0, 0, 0, 0⟩,  -- CANn_TX_REQ_HI
  ⟨0x48, 4, 1, 0, 0, 0xFFFFFFFF, 0, 0, 0, 0⟩,  -- CANn_TX_CANCEL_LO
  ⟨0x4C, 4, 1, 0, 0, 0xFFFFFFFF, 0, 0, 0, 0⟩,  -- CANn_TX_CANCEL_HI
  ⟨0x50, 4, 1, 0, 0xFFFFFFFF, 0, 0, 0, 0, 0⟩,  -- CANn_TX_DONE_LO
  ⟨0x54, 4, 1, 0, 0xFFFFFFFF, 0, 0, 0, 0, 0⟩,  -- CANn_TX_DONE_HI
  ⟨0x60, 4, 1, 0, 0, 0, 0, 0, 0, 0⟩,  -- CANn_FIFO0_STAT
  ⟨0x64, 4, 1, 0, 0, 0, 0x7F, 0, 0, 0⟩,  -- CANn_FIFO0_RELEASE
  ⟨0x68, 4, 1, 0, 0, 0, 0, 0, 0, 0⟩,  -- CANn_FIFO1_STAT
  ⟨0x6C, 4, 1, 0, 0, 0, 0x7F, 0x7F, 0, 0⟩,  -- CANn_FIFO1_RELEASE
  ⟨0x70, 4, 1, 0, 0, 0, 0, 0, 0, 0⟩,  -- CANn_FIFO_LOST
  ⟨0x74, 4, 1, 0, 0, 0, 0, 0, 0, 0⟩,  -- CANn_RX_DROP
  ⟨0x78, 4, 1, 0, 0, 0, 0, 0, 0, 0x800⟩,  -- CANn_BELL_STAT
  ⟨0x100, 4, 1, 0x1FFFF, 0, 0, 0, 0x1FFFF, 0, 0x640⟩,  -- CANn_COL_c
  ⟨0x104, 4, 31, 0x1FFFF, 0, 0, 0, 0x1FFFF, 0, 0⟩,  -- CANn_COL_c
  ⟨0x8000, 4, 448, 0xFFFFFFFF, 0, 0, 0, 0, 0, 0⟩,  -- CANn filter elements 0-223
  ⟨0x8700, 4, 64, 0xFFFFFFFF, 0, 0, 0, 0xFFFFFFFF, 0, 0⟩,  -- CANn filter elements 224-255
  ⟨0x8800, 4, 512, 0xFFFFFFFF, 0, 0, 0, 0xFFFFFFFF, 0, 0x80808080⟩,  -- CANn Timetable cells
  ⟨0x9000, 4, 960, 0xFFFFFFFF, 0, 0, 0, 0, 0, 0⟩,  -- CANn buffers 0-47
  ⟨0x9F00, 4, 320, 0xFFFFFFFF, 0, 0, 0, 0xFFFFFFFF, 0, 0⟩,  -- CANn buffers 48-63
  ⟨0xA400, 4, 1280, 0, 0, 0, 0, 0, 0, 0⟩,  -- CANn FIFO 0 elements
  ⟨0xB800, 4, 1280, 0, 0, 0, 0, 0, 0, 0⟩]  -- CANn FIFO 1 elements

/-- Table 11.7: the NET block. -/
def rowsNET : List RegRow := [
  ⟨0, 4, 1, 0x1F, 0, 0, 0, 0x1F, 0, 0x10⟩,  -- NET_CTRL
  ⟨4, 4, 1, 0, 0, 0, 0, 0, 0, 0⟩,  -- NET_STATUS
  ⟨8, 4, 1, 0, 0x1F, 0, 0, 0, 0, 0⟩,  -- NET_INT_STAT
  ⟨0xC, 4, 1, 0x1F, 0, 0, 0, 0x1F, 0, 0⟩,  -- NET_INT_EN
  ⟨0x10, 4, 1, 0xFFFFFFFF, 0, 0, 0, 0xFFFFFFFF, 0, 0⟩,  -- NET_HOST_MAC_LO
  ⟨0x14, 4, 1, 0xFFFF, 0, 0, 0, 0xFFFF, 0, 0⟩,  -- NET_HOST_MAC_HI
  ⟨0x18, 4, 1, 0xFFFFFFFF, 0, 0, 0, 0xFFFFFFFF, 0, 0x2807D000⟩,  -- NET_HSR_CFG
  ⟨0x20, 4, 2, 8, 0, 0, 0, 8, 0, 8⟩,  -- NET_SFP_p
  ⟨0x40, 4, 16, 0x801FFFFF, 0, 0, 0, 0x801FFFFF, 0, 0⟩,  -- NET_CLASS_k
  ⟨0x80, 4, 1, 0xFF, 0, 0, 0, 0xFF, 0, 0⟩,  -- NET_HOST_DEFAULT
  ⟨0x100, 4, 16, 0, 0, 0, 0, 0, 0, 0⟩,  -- NET_CNT_p_c
  ⟨0x140, 4, 16, 0, 0, 0, 0, 0, 0, 0⟩,  -- NET_CNT_p_c
  ⟨0x180, 4, 16, 0, 0, 0, 0, 0, 0, 0⟩]  -- NET_CNT_p_c

/-- Table 11.9: the DMA block. -/
def rowsDMA : List RegRow := [
  ⟨0, 4, 1, 0, 0, 0, 0, 0, 0, 0⟩,  -- DMA_STATUS
  ⟨4, 4, 1, 0, 0xFFFFFFFF, 0, 0, 0, 0, 0⟩,  -- DMA_INT_STAT
  ⟨8, 4, 1, 0xFFFFFFFF, 0, 0, 0, 0, 0, 0⟩,  -- DMA_INT_EN
  ⟨0xC, 4, 1, 0, 0xFFFF, 0, 0, 0, 0, 0⟩,  -- DMA_WARN
  ⟨0x100, 64, 16, 0x1FF003F, 0, 0, 0, 0x1FF003F, 0, 0x40000⟩,  -- DMA_CHc_CFG
  ⟨0x104, 64, 16, 0, 0, 0, 1, 1, 0, 0⟩,  -- DMA_CHc_CTRL
  ⟨0x108, 64, 16, 0, 0, 0, 0, 0, 0, 0⟩,  -- DMA_CHc_STAT
  ⟨0x10C, 64, 16, 0xFFFFFFFF, 0, 0, 0, 0xFFFFFFFF, 0, 0⟩,  -- DMA_CHc_RING_BASE_LO
  ⟨0x110, 64, 16, 0xFF, 0, 0, 0, 0xFF, 0, 0⟩,  -- DMA_CHc_RING_BASE_HI
  ⟨0x114, 64, 16, 0x1FFF, 0, 0, 0, 0x1FFF, 0, 2⟩,  -- DMA_CHc_RING_SIZE
  ⟨0x118, 64, 16, 0xFFFFFFFF, 0, 0, 0, 0xFFFFFFFF, 0, 0⟩,  -- DMA_CHc_HEAD
  ⟨0x11C, 64, 16, 0, 0, 0, 0, 0, 0, 0⟩,  -- DMA_CHc_TAIL
  ⟨0x120, 64, 16, 0, 0, 0, 0, 0, 0, 0⟩,  -- DMA_CHc_BYTES
  ⟨0x124, 64, 16, 0, 0, 0, 0, 0, 0, 0⟩,  -- DMA_CHc_DESCS
  ⟨0x128, 64, 16, 0, 0, 0, 0, 0, 0, 0⟩]  -- DMA_CHc_RX_DROPS

/-- Table 12.3: the SNK block. -/
def rowsSNK : List RegRow := [
  ⟨0, 4, 1, 7, 0, 0, 0, 0, 4, 0⟩,  -- SNK_CTRL
  ⟨4, 4, 1, 0, 0, 0, 0, 0, 0, 0⟩,  -- SNK_STATUS
  ⟨8, 4, 1, 0, 0x3F, 0, 0, 0, 0, 0⟩,  -- SNK_INT_STAT
  ⟨0xC, 4, 1, 0x3F, 0, 0, 0, 0, 0, 0⟩,  -- SNK_INT_EN
  ⟨0x10, 4, 1, 0xFF, 0, 0, 0, 0, 0, 0xFF⟩,  -- SNK_SCALE
  ⟨0x14, 4, 1, 0xFF, 0, 0, 0, 0, 0, 0x6E⟩,  -- SNK_KNEE
  ⟨0x18, 4, 1, 0x3FFFFF, 0, 0, 0, 0, 0, 0x10384⟩,  -- SNK_HDRM_CFG
  ⟨0x1C, 4, 1, 0xFFFFFF, 0, 0, 0, 0, 0, 0xFFFFFF⟩,  -- SNK_HDRM_MASK
  ⟨0x20, 4, 1, 0xFFF0FFF, 0, 0, 0, 0, 0, 0xFFF0000⟩,  -- SNK_HDRM_FB_LIM
  ⟨0x24, 4, 1, 0, 0, 0, 0, 0, 0, 0⟩,  -- SNK_HDRM_STAT
  ⟨0x2C, 4, 1, 0xFFFF, 0, 0, 0, 0, 0, 0x3C0A⟩,  -- SNK_DETECT
  ⟨0x30, 4, 3, 0, 0, 0, 0, 0, 0, 0xFF0000⟩,  -- SNK_TEMP_b
  ⟨0x40, 16, 24, 0x10FFF, 0, 0, 0, 0, 0, 0⟩,  -- SNK_CH_CFG_c
  ⟨0x44, 16, 24, 0, 2, 0, 0, 0, 0, 0⟩,  -- SNK_CH_STAT_c
  ⟨0x48, 16, 24, 0, 0, 0, 0, 0, 0, 0⟩,  -- SNK_CH_MEAS_c
  ⟨0x4C, 16, 24, 0xFFFFFFFF, 0, 0, 0, 0xFFFFFFFF, 0, 0x8000⟩]  -- SNK_CH_TRIM_c

/-- Table 12.5: the HAL block. -/
def rowsHAL : List RegRow := [
  ⟨0, 64, 2, 0xB, 0, 4, 0, 0, 8, 0⟩,  -- HAL_x_CTRL
  ⟨4, 64, 2, 0xFFFF03FF, 0, 0, 0, 0, 0, 0x500200⟩,  -- HAL_x_CFG
  ⟨8, 64, 2, 0, 0, 0, 0, 0, 0, 0⟩,  -- HAL_x_STATUS
  ⟨0xC, 64, 2, 0, 3, 0, 0, 0, 0, 0⟩,  -- HAL_x_INT_STAT
  ⟨0x10, 64, 2, 3, 0, 0, 0, 0, 0, 0⟩,  -- HAL_x_INT_EN
  ⟨0x14, 64, 2, 0, 0, 0, 0, 0, 0, 0⟩,  -- HAL_x_FRAMES
  ⟨0x1000, 8, 512, 0xFFFFFFFF, 0, 0, 0, 0, 0, 0⟩,  -- HAL_x_PEN_d_LO
  ⟨0x2000, 8, 512, 0xFFFFFFFF, 0, 0, 0, 0, 0, 0⟩,  -- HAL_x_PEN_d_LO
  ⟨0x1004, 8, 512, 0xFFFF, 0, 0, 0, 0, 0, 0⟩,  -- HAL_x_PEN_d_HI
  ⟨0x2004, 8, 512, 0xFFFF, 0, 0, 0, 0, 0, 0⟩]  -- HAL_x_PEN_d_HI

/-- Table 14.11: the KEY block. -/
def rowsKEY : List RegRow := [
  ⟨0, 4, 1, 0, 0, 0, 0, 0, 0, 0⟩,  -- KEY_STATUS
  ⟨4, 4, 1, 0, 7, 0, 0, 0, 0, 0⟩,  -- KEY_INT_STAT
  ⟨8, 4, 1, 7, 0, 0, 0, 7, 0, 0⟩,  -- KEY_INT_EN
  ⟨0xC, 4, 1, 0, 0, 0, 0xFFFFFF0F, 0xFFFFFF0F, 0, 0⟩,  -- KEY_CMD
  ⟨0x10, 4, 1, 0x1FFFFFF, 0, 0, 0, 0x1FFFFFF, 0, 0⟩,  -- KEY_CMD_ARG
  ⟨0x14, 4, 1, 0xFFFFFFFF, 0, 0, 0, 0xFFFFFFFF, 0, 0⟩,  -- KEY_CMD_LABEL
  ⟨0x18, 4, 1, 0, 0, 0, 0, 0, 0, 0⟩,  -- KEY_CMD_RESULT
  ⟨0x20, 4, 32, 0, 0, 0, 0xFFFFFFFF, 0xFFFFFFFF, 0, 0⟩,  -- KEY_CMD_DATA_w
  ⟨0x80, 4, 1, 0, 0, 0, 0, 0, 0, 0⟩,  -- KEY_SCRUB
  ⟨0x84, 4, 1, 0, 0, 0, 0, 0, 0, 0⟩,  -- KEY_TAG_FAILS
  ⟨0x100, 4, 256, 0, 0, 0, 0, 0, 0, 0⟩]  -- KEY_SLOT_INFO_s

/-- Table 14.13: the CRY block. -/
def rowsCRY : List RegRow := [
  ⟨0, 4, 1, 0, 0, 0, 0, 0, 0, 0⟩,  -- CRY_STATUS
  ⟨4, 4, 1, 0, 0x3F, 0, 0, 0x37, 0, 0⟩,  -- CRY_INT_STAT
  ⟨8, 4, 1, 0x3F, 0, 0, 0, 0x37, 0, 0⟩,  -- CRY_INT_EN
  ⟨0xC, 4, 1, 0, 0, 0, 0, 0, 0, 0⟩,  -- CRY_TRNG_STAT
  ⟨0x10, 4, 1, 0, 0, 0, 0, 0, 0, 0⟩,  -- CRY_DRBG_STAT
  ⟨0x100, 32, 3, 1, 0, 0, 0, 1, 0, 0⟩,  -- CRY_Qq_CFG
  ⟨0x160, 32, 1, 1, 0, 0, 0, 0, 0, 0⟩,  -- CRY_Qq_CFG
  ⟨0x104, 32, 3, 0xFFFFFFFF, 0, 0, 0, 0xFFFFFFFF, 0, 0⟩,  -- CRY_Qq_RING_BASE_LO
  ⟨0x164, 32, 1, 0xFFFFFFFF, 0, 0, 0, 0, 0, 0⟩,  -- CRY_Qq_RING_BASE_LO
  ⟨0x108, 32, 3, 0xFF, 0, 0, 0, 0xFF, 0, 0⟩,  -- CRY_Qq_RING_BASE_HI
  ⟨0x168, 32, 1, 0xFF, 0, 0, 0, 0, 0, 0⟩,  -- CRY_Qq_RING_BASE_HI
  ⟨0x10C, 32, 3, 0x1FF, 0, 0, 0, 0x1FF, 0, 2⟩,  -- CRY_Qq_RING_SIZE
  ⟨0x16C, 32, 1, 0x1FF, 0, 0, 0, 0, 0, 2⟩,  -- CRY_Qq_RING_SIZE
  ⟨0x110, 32, 3, 0xFFFFFFFF, 0, 0, 0, 0xFFFFFFFF, 0, 0⟩,  -- CRY_Qq_HEAD
  ⟨0x170, 32, 1, 0xFFFFFFFF, 0, 0, 0, 0, 0, 0⟩,  -- CRY_Qq_HEAD
  ⟨0x114, 32, 3, 0, 0, 0, 0, 0, 0, 0⟩,  -- CRY_Qq_TAIL
  ⟨0x174, 32, 1, 0, 0, 0, 0, 0, 0, 0⟩,  -- CRY_Qq_TAIL
  ⟨0x118, 32, 3, 0, 0, 0, 0, 0, 0, 0⟩,  -- CRY_Qq_JOBS
  ⟨0x178, 32, 1, 0, 0, 0, 0, 0, 0, 0⟩]  -- CRY_Qq_JOBS

/-- Table 16.6: the EVR block. -/
def rowsEVR : List RegRow := [
  ⟨0, 4, 1, 5, 0, 2, 0, 5, 0, 1⟩,  -- EVR_CTRL
  ⟨4, 4, 1, 0, 0, 0, 0, 0, 0, 0⟩,  -- EVR_STATUS
  ⟨8, 4, 1, 0, 0x3F, 0, 0, 0, 0, 0⟩,  -- EVR_INT_STAT
  ⟨0xC, 4, 1, 0x3F, 0, 0, 0, 0x3F, 0, 0⟩,  -- EVR_INT_EN
  ⟨0x10, 4, 1, 0, 0, 0, 0, 0, 0, 0⟩,  -- EVR_BUF_COUNT
  ⟨0x14, 4, 1, 0, 0, 0, 0, 0, 0, 0⟩,  -- EVR_LOG_COUNT
  ⟨0x18, 4, 1, 0, 0, 0, 0, 0, 0, 0⟩,  -- EVR_NEXT_SEQ
  ⟨0x1C, 4, 1, 0, 0, 0, 0, 0, 0, 0⟩,  -- EVR_LOG_LAST_SEQ
  ⟨0x20, 4, 1, 0, 0, 0, 0, 0, 0, 0⟩,  -- EVR_DROPPED
  ⟨0x24, 4, 1, 0, 0, 0, 0, 0, 0, 0⟩,  -- EVR_BUF_DROPS
  ⟨0x28, 4, 1, 0, 0, 0, 0, 0, 0, 0⟩,  -- EVR_RESERVE_USED
  ⟨0x2C, 4, 1, 0x7FFFF, 0, 0, 0, 0x7FFFF, 0, 0x39999⟩,  -- EVR_HIGH_WATER
  ⟨0x40, 4, 7, 0, 0, 0, 0xFFFFFFFF, 0xFFFFFFFF, 0, 0⟩]  -- EVR_SUB_w

/-- Table 15.8: the UPD block. -/
def rowsUPD : List RegRow := [
  ⟨0, 4, 1, 0, 0, 0, 0, 0, 0, 0⟩,  -- UPD_STATUS
  ⟨4, 4, 1, 0, 0x1F, 0, 0, 0, 0, 0⟩,  -- UPD_INT_STAT
  ⟨8, 4, 1, 0x1F, 0, 0, 0, 0x1F, 0, 0⟩,  -- UPD_INT_EN
  ⟨0xC, 4, 1, 0, 0, 0, 0xFFFFFFFF, 0xFFFFFFFF, 0, 0⟩,  -- UPD_CONFIRM
  ⟨0x10, 4, 1, 0xFFFF, 0, 0, 0, 0xFFFF, 0, 0x384⟩,  -- UPD_PROB_LIMIT
  ⟨0x14, 4, 1, 0, 0, 0, 0, 0, 0, 0⟩,  -- UPD_PROB_ELAPSED
  ⟨0x18, 4, 1, 0, 0, 0, 0, 0, 0, 0⟩,  -- UPD_ACTIVE_SEQ
  ⟨0x1C, 4, 1, 0, 0, 0, 0, 0, 0, 0⟩,  -- UPD_STAGED_SEQ
  ⟨0x20, 4, 1, 0, 0, 0, 0, 0, 0, 0⟩,  -- UPD_REFUSE
  ⟨0x24, 4, 1, 0, 0, 0, 0, 0, 0, 0⟩]  -- UPD_BOOT

/-- Table 17.8: the SUP block. -/
def rowsSUP : List RegRow := [
  ⟨0, 4, 1, 0, 0, 0, 0, 0, 0, 2⟩,  -- SUP_STATUS
  ⟨4, 4, 1, 0, 3, 0, 0, 0, 0, 0⟩,  -- SUP_INT_STAT
  ⟨8, 4, 1, 3, 0, 0, 0, 0, 3, 0⟩,  -- SUP_INT_EN
  ⟨0x10, 4, 1, 0, 0, 0, 0, 0, 0, 0⟩,  -- SUP_HOIST
  ⟨0x14, 4, 1, 0, 0, 0, 0, 0, 0, 0⟩,  -- SUP_ACTIVE
  ⟨0x18, 4, 1, 0, 0, 0, 0, 0, 0, 0⟩,  -- SUP_DRILLMARK
  ⟨0x1C, 4, 1, 0, 0, 0, 0xFFFFFFFF, 0, 0xFFFFFFFF, 0⟩,  -- SUP_HOIST_CLR
  ⟨0x30, 4, 1, 0, 0, 0, 0, 0, 0, 0⟩,  -- SUP_WDT_STAT
  ⟨0x40, 4, 4, 0, 0, 0, 0xFF, 0, 0, 0⟩,  -- SUP_WDT_KICK_c
  ⟨0x50, 4, 1, 0, 0, 0, 0, 0, 0, 0⟩,  -- SUP_ECC_CORR
  ⟨0x54, 4, 1, 0, 0, 0, 0, 0, 0, 0⟩,  -- SUP_ECC_ADDR_LO
  ⟨0x58, 4, 1, 0, 0, 0, 0, 0, 0, 0⟩,  -- SUP_ECC_ADDR_HI
  ⟨0x60, 4, 3, 0, 0, 0, 0, 0, 0, 0⟩,  -- SUP_SCRUB_m
  ⟨0x70, 4, 1, 0, 0, 0, 0, 0, 0, 0⟩,  -- SUP_RESET_HIST
  ⟨0x74, 4, 1, 1, 0, 0, 0, 0, 1, 0⟩]  -- SUP_CONT_FORCE

/-- Table 17.10: the DRL block. -/
def rowsDRL : List RegRow := [
  ⟨0, 4, 1, 1, 0, 0, 2, 3, 0, 0⟩,  -- DRL_CTRL
  ⟨4, 4, 1, 0, 8, 0, 0, 0, 0, 0⟩,  -- DRL_STATUS
  ⟨0x10, 4, 1, 0xFFFF7F, 0, 0x80000000, 0, 0x80FFFF7F, 0, 0⟩,  -- DRL_QSTALL
  ⟨0x14, 4, 1, 0x7FF, 0, 0, 0, 0x7FF, 0, 0⟩,  -- DRL_SYNC
  ⟨0x20, 4, 4, 0xFFFFFFFF, 0, 0, 0, 0xFFFFFFFF, 0, 0⟩,  -- DRL_RADIO_n
  ⟨0x30, 4, 1, 0xFFF, 0, 0x80000000, 0, 0x80000FFF, 0, 0⟩,  -- DRL_INJECT
  ⟨0x34, 4, 1, 0xFFFFFFFF, 0, 0, 0, 0xFFFFFFFF, 0, 0⟩,  -- DRL_INJECT_ADDR_LO
  ⟨0x38, 4, 1, 0xFF, 0, 0, 0, 0xFF, 0, 0⟩,  -- DRL_INJECT_ADDR_HI
  ⟨0x40, 4, 1, 0xFFF0F, 0, 0, 0, 0xFFF0F, 0, 0⟩,  -- DRL_DMA
  ⟨0x50, 4, 1, 0, 0, 1, 0, 1, 0, 0⟩,  -- DRL_AON_TEST
  ⟨0x60, 4, 1, 0, 0, 0, 0, 0, 0, 0⟩]  -- DRL_COUNT

/-- Table 1.3: the register map of each slot; slot 3 holds no block (R14). -/
def rows (slot : Nat) : List RegRow :=
  match slot with
  | 0 => rowsSYS
  | 1 => rowsAON
  | 2 => rowsTIME
  | 4 => rowsMAC
  | 5 => rowsMAC
  | 6 => rowsMAC
  | 7 => rowsMAC
  | 8 => rowsSCAN
  | 9 => rowsCTL
  | 10 => rowsMTR
  | 11 => rowsCAL
  | 12 => rowsCAN
  | 13 => rowsCAN
  | 14 => rowsNET
  | 15 => rowsDMA
  | 16 => rowsSNK
  | 17 => rowsHAL
  | 18 => rowsKEY
  | 19 => rowsCRY
  | 20 => rowsEVR
  | 21 => rowsUPD
  | 22 => rowsSUP
  | 23 => rowsDRL
  | _ => []

/-! ## Register addresses, under the manual's names -/

def SYS_ID : Nat := 0x40000000
def SYS_VARIANT : Nat := 0x40000004
def SYS_BUS_ERR : Nat := 0x40000010
def SYS_BUS_ERR_ADDR : Nat := 0x40000014
def SYS_PERM_LO : Nat := 0x40000020
def SYS_PERM_HI : Nat := 0x40000024
def SYS_PERM_DMA : Nat := 0x40000028
def SYS_PERM_VIOL : Nat := 0x4000002C
def SYS_CORE3_CTRL : Nat := 0x40000030
def SYS_L2_PART : Nat := 0x40000040
def SYS_CLKMON : Nat := 0x40000100
def SYS_QFAULT_LO : Nat := 0x40000200
def SYS_QFAULT_HI : Nat := 0x40000204
def SYS_Q_WCNT (i : Nat) : Nat := 0x40000400 + 8 * i
def SYS_Q_RCNT (i : Nat) : Nat := 0x40000404 + 8 * i
def AON_STATUS : Nat := 0x40010000
def AON_PHOTO_CFG : Nat := 0x40010004
def AON_BAT_CFG : Nat := 0x40010008
def AON_CONT_CTRL : Nat := 0x40010010
def AON_CONT_STAT : Nat := 0x40010014
def AON_HEARTBEAT : Nat := 0x40010018
def AON_TAMPER_STAT : Nat := 0x40010024
def AON_TAMPER_CLEAR : Nat := 0x40010028
def AON_TAMPER_DAY (i : Nat) : Nat := 0x40010030 + 8 * i
def AON_TAMPER_SEC (i : Nat) : Nat := 0x40010034 + 8 * i
def AON_WAKE_CFG : Nat := 0x40010048
def AON_WAKE_CAUSE : Nat := 0x4001004C
def AON_PWR_CTRL : Nat := 0x40010050
def AON_RTC_CTRL : Nat := 0x40010100
def AON_RTC_TALLY : Nat := 0x40010104
def AON_RTC_TICK : Nat := 0x40010108
def AON_RTC_SEC : Nat := 0x4001010C
def AON_RTC_MIN : Nat := 0x40010110
def AON_RTC_HOUR : Nat := 0x40010114
def AON_RTC_DAY : Nat := 0x40010118
def AON_RTC_WEEKDAY : Nat := 0x4001011C
def AON_RTC_MONTH : Nat := 0x40010120
def AON_RTC_YEAR : Nat := 0x40010124
def AON_RTC_ALARM_DAY : Nat := 0x40010130
def AON_RTC_ALARM_SEC : Nat := 0x40010134
def AON_RTC_TEMP : Nat := 0x40010140
def AON_RTC_CORR : Nat := 0x40010144
def AON_RTC_TRIM : Nat := 0x40010148
def AON_RTC_CURVE (i : Nat) : Nat := 0x40010180 + 4 * i
def TIME_STATUS : Nat := 0x40020000
def TIME_INT_STAT : Nat := 0x40020004
def TIME_INT_EN : Nat := 0x40020008
def TIME_NOW_NS : Nat := 0x40020010
def TIME_NOW_SEC_LO : Nat := 0x40020014
def TIME_NOW_SEC_HI : Nat := 0x40020018
def TIME_NOW_STAMP : Nat := 0x4002001C
def TIME_STAMP_LIVE : Nat := 0x40020020
def TIME_SET_SEC_HI : Nat := 0x40020030
def TIME_SET_SEC_LO : Nat := 0x40020034
def TIME_SET_NS : Nat := 0x40020038
def TIME_CMD : Nat := 0x4002003C
def TIME_STEP_SEC : Nat := 0x40020040
def TIME_STEP_NS : Nat := 0x40020044
def TIME_STEP_LAST_SEC : Nat := 0x40020048
def TIME_STEP_LAST_NS : Nat := 0x4002004C
def TIME_FREQ_ADJ : Nat := 0x40020050
def TIME_SERVO_CTRL : Nat := 0x40020060
def TIME_SERVO_OFFSET : Nat := 0x40020064
def TIME_SERVO_GAIN : Nat := 0x40020068
def TIME_SERVO_LIMIT : Nat := 0x4002006C
def TIME_SERVO_LOCK : Nat := 0x40020070
def TIME_SERVO_INTEG : Nat := 0x40020074
def TIME_SERVO_LAST : Nat := 0x40020078
def TIME_CAPT_CTRL : Nat := 0x40020100
def TIME_CAPT_DROP : Nat := 0x40020104
def TIME_CAPT_FAST : Nat := 0x40020108
def TIME_CAPT_REC (i : Nat) : Nat := 0x40020110 + 4 * i
def TIME_ICAP_STAMP (i : Nat) : Nat := 0x40020140 + 8 * i
def TIME_ICAP_SEQ (i : Nat) : Nat := 0x40020144 + 8 * i
def TIME_NET_ADJ_A : Nat := 0x40020180
def TIME_NET_ADJ_B : Nat := 0x40020184
def TIME_NET_ADJ_M : Nat := 0x40020188
def TIME_TRIG_CTRL (i : Nat) : Nat := 0x40020200 + 32 * i
def TIME_TRIG_SEC_HI (i : Nat) : Nat := 0x40020204 + 32 * i
def TIME_TRIG_SEC_LO (i : Nat) : Nat := 0x40020208 + 32 * i
def TIME_TRIG_NS (i : Nat) : Nat := 0x4002020C + 32 * i
def TIME_TRIG_PERIOD (i : Nat) : Nat := 0x40020210 + 32 * i
def TIME_TRIG_WIDTH (i : Nat) : Nat := 0x40020214 + 32 * i
def TIME_TRIG_STAT (i : Nat) : Nat := 0x40020218 + 32 * i
def TIME_TSQ_STAT : Nat := 0x40020400
def TIME_TSQ_ID : Nat := 0x40020404
def TIME_TSQ_SEC : Nat := 0x40020408
def TIME_TSQ_NS : Nat := 0x4002040C
def MAC_CTRL (n : Nat) : Nat := 0x40040000 + 0x10000 * n
def MAC_STATUS (n : Nat) : Nat := 0x40040004 + 0x10000 * n
def MAC_INT_STAT (n : Nat) : Nat := 0x40040008 + 0x10000 * n
def MAC_INT_EN (n : Nat) : Nat := 0x4004000C + 0x10000 * n
def MAC_PHY (n : Nat) : Nat := 0x40040010 + 0x10000 * n
def MAC_ADDR (n : Nat) : Nat := 0x40040014 + 0x10000 * n
def MAC_SLOTFRAME (n : Nat) : Nat := 0x40040018 + 0x10000 * n
def MAC_HOP (n : Nat) : Nat := 0x4004001C + 0x10000 * n
def MAC_DISC (n : Nat) : Nat := 0x40040020 + 0x10000 * n
def MAC_TIMING (n : Nat) : Nat := 0x40040024 + 0x10000 * n
def MAC_RETRY (n : Nat) : Nat := 0x40040028 + 0x10000 * n
def MAC_SCHED_CTRL (n : Nat) : Nat := 0x40040030 + 0x10000 * n
def MAC_ASN_LO (n : Nat) : Nat := 0x40040038 + 0x10000 * n
def MAC_ASN_HI (n : Nat) : Nat := 0x4004003C + 0x10000 * n
def MAC_ASN_SET_LO (n : Nat) : Nat := 0x40040040 + 0x10000 * n
def MAC_ASN_SET_HI (n : Nat) : Nat := 0x40040044 + 0x10000 * n
def MAC_KEY (n : Nat) : Nat := 0x40040048 + 0x10000 * n
def MAC_TXR_BASE_LO (n : Nat) : Nat := 0x40040050 + 0x10000 * n
def MAC_TXR_BASE_HI (n : Nat) : Nat := 0x40040054 + 0x10000 * n
def MAC_TXR_SIZE (n : Nat) : Nat := 0x40040058 + 0x10000 * n
def MAC_TXR_HEAD (n : Nat) : Nat := 0x4004005C + 0x10000 * n
def MAC_TXR_TAIL (n : Nat) : Nat := 0x40040060 + 0x10000 * n
def MAC_RXR_BASE_LO (n : Nat) : Nat := 0x40040070 + 0x10000 * n
def MAC_RXR_BASE_HI (n : Nat) : Nat := 0x40040074 + 0x10000 * n
def MAC_RXR_SIZE (n : Nat) : Nat := 0x40040078 + 0x10000 * n
def MAC_RXR_HEAD (n : Nat) : Nat := 0x4004007C + 0x10000 * n
def MAC_RXR_TAIL (n : Nat) : Nat := 0x40040080 + 0x10000 * n
def MAC_HOPCH (n : Nat) (i : Nat) : Nat := 0x400400C0 + 0x10000 * n + 4 * i
def MAC_COUNTER (n : Nat) (i : Nat) : Nat := 0x40040100 + 0x10000 * n + 4 * i
def MAC_CELL (n : Nat) (i : Nat) : Nat := 0x40049000 + 0x10000 * n + 4 * i
def SCAN_CTRL : Nat := 0x40080000
def SCAN_STATUS : Nat := 0x40080004
def SCAN_INT_STAT : Nat := 0x40080008
def SCAN_INT_EN : Nat := 0x4008000C
def SCAN_RXR_BASE_LO : Nat := 0x40080070
def SCAN_RXR_BASE_HI : Nat := 0x40080074
def SCAN_RXR_SIZE : Nat := 0x40080078
def SCAN_RXR_HEAD : Nat := 0x4008007C
def SCAN_RXR_TAIL : Nat := 0x40080080
def SCAN_COUNTER (i : Nat) : Nat := 0x40080100 + 4 * i
def CTL_CTRL : Nat := 0x40090000
def CTL_STATUS : Nat := 0x40090004
def CTL_INT_STAT : Nat := 0x40090008
def CTL_INT_EN : Nat := 0x4009000C
def CTL_PERIOD : Nat := 0x40090010
def CTL_DEADLINE : Nat := 0x40090014
def CTL_SAMPLE_SEQ : Nat := 0x40090018
def CTL_MISS_COUNT : Nat := 0x4009001C
def CTL_LAST_START : Nat := 0x40090020
def CTL_DURATION : Nat := 0x40090024
def CTL_DURATION_MAX : Nat := 0x40090028
def CTL_LAW : Nat := 0x4009002C
def CTL_RAMP_LIMIT : Nat := 0x40090030
def CTL_HO_BAND : Nat := 0x40090034
def CTL_STAGE_SAT : Nat := 0x40090040
def CTL_COUNTS_A : Nat := 0x40090044
def CTL_COUNTS_B : Nat := 0x40090048
def CTL_BANK_BASE_LO : Nat := 0x40090050
def CTL_BANK_BASE_HI : Nat := 0x40090054
def CTL_OUT_BASE_LO : Nat := 0x40090058
def CTL_OUT_BASE_HI : Nat := 0x4009005C
def CTL_IN_BASE_LO : Nat := 0x40090060
def CTL_IN_BASE_HI : Nat := 0x40090064
def CTL_UCODE_VER : Nat := 0x40090070
def MTR_CTRL : Nat := 0x400A0000
def MTR_STATUS : Nat := 0x400A0004
def MTR_INT_STAT : Nat := 0x400A0008
def MTR_INT_EN : Nat := 0x400A000C
def MTR_LATCH_CTRL : Nat := 0x400A0010
def MTR_ROUTE : Nat := 0x400A0014
def MTR_ROUTE_NEXT : Nat := 0x400A0018
def MTR_ROUTE_STAT : Nat := 0x400A001C
def MTR_IN_CFG (i : Nat) : Nat := 0x400A0020 + 4 * i
def MTR_IN_STAT (i : Nat) : Nat := 0x400A0060 + 4 * i
def MTR_CORR_GAIN (i : Nat) : Nat := 0x400A0100 + 16 * i
def MTR_CORR_OFFSET (i : Nat) : Nat := 0x400A0104 + 16 * i
def MTR_CORR_DELAY (i : Nat) : Nat := 0x400A0108 + 16 * i
def MTR_CYCLE_SEQ : Nat := 0x400A0200
def MTR_CYCLE_STAMP : Nat := 0x400A0204
def MTR_CYCLE_PERIOD : Nat := 0x400A0208
def MTR_FLYWHEEL : Nat := 0x400A020C
def MTR_LATCH_SEQ : Nat := 0x400A0210
def MTR_LATCH_STAMP : Nat := 0x400A0214
def MTR_LATCH_INFO : Nat := 0x400A0218
def MTR_LATCH_E_LO (i : Nat) : Nat := 0x400A0220 + 8 * i
def MTR_LATCH_E_HI (i : Nat) : Nat := 0x400A0224 + 8 * i
def MTR_EVENT_STAT : Nat := 0x400A0300
def MTR_AH_LO (i : Nat) : Nat := 0x400A0310 + 8 * i
def MTR_AH_HI (i : Nat) : Nat := 0x400A0314 + 8 * i
def CAL_CTRL : Nat := 0x400B0000
def CAL_STATUS : Nat := 0x400B0004
def CAL_INT_STAT : Nat := 0x400B0008
def CAL_INT_EN : Nat := 0x400B000C
def CAL_SEL : Nat := 0x400B0010
def CAL_REF_CTRL : Nat := 0x400B0014
def CAL_REF_CHECK : Nat := 0x400B0018
def CAL_ACC_CTRL (i : Nat) : Nat := 0x400B0040 + 32 * i
def CAL_ACC_STAT (i : Nat) : Nat := 0x400B0044 + 32 * i
def CAL_ACC_RATIO (i : Nat) : Nat := 0x400B0048 + 32 * i
def CAL_ACC_DELAY (i : Nat) : Nat := 0x400B004C + 32 * i
def CAL_ACC_MEAN (i : Nat) : Nat := 0x400B0050 + 32 * i
def CAL_ACC_RMS (i : Nat) : Nat := 0x400B0054 + 32 * i
def CAL_RAD_PPM (i : Nat) : Nat := 0x400B0080 + 4 * i
def CAL_SINK_REF (i : Nat) : Nat := 0x400B0090 + 4 * i
def CAN_CTRL (n : Nat) : Nat := 0x400C0000 + 0x10000 * n
def CAN_STATUS (n : Nat) : Nat := 0x400C0004 + 0x10000 * n
def CAN_INT_STAT (n : Nat) : Nat := 0x400C0008 + 0x10000 * n
def CAN_INT_EN (n : Nat) : Nat := 0x400C000C + 0x10000 * n
def CAN_ARB_TIMING (n : Nat) : Nat := 0x400C0010 + 0x10000 * n
def CAN_DATA_TIMING (n : Nat) : Nat := 0x400C0014 + 0x10000 * n
def CAN_ERR (n : Nat) : Nat := 0x400C0018 + 0x10000 * n
def CAN_CYCLE_LEN (n : Nat) : Nat := 0x400C001C + 0x10000 * n
def CAN_COLS (n : Nat) : Nat := 0x400C0020 + 0x10000 * n
def CAN_SCHED_CTRL (n : Nat) : Nat := 0x400C0024 + 0x10000 * n
def CAN_MARK_STAMP (n : Nat) : Nat := 0x400C0030 + 0x10000 * n
def CAN_MARK_RATE (n : Nat) : Nat := 0x400C0034 + 0x10000 * n
def CAN_TX_REQ_LO (n : Nat) : Nat := 0x400C0040 + 0x10000 * n
def CAN_TX_REQ_HI (n : Nat) : Nat := 0x400C0044 + 0x10000 * n
def CAN_TX_CANCEL_LO (n : Nat) : Nat := 0x400C0048 + 0x10000 * n
def CAN_TX_CANCEL_HI (n : Nat) : Nat := 0x400C004C + 0x10000 * n
def CAN_TX_DONE_LO (n : Nat) : Nat := 0x400C0050 + 0x10000 * n
def CAN_TX_DONE_HI (n : Nat) : Nat := 0x400C0054 + 0x10000 * n
def CAN_FIFO0_STAT (n : Nat) : Nat := 0x400C0060 + 0x10000 * n
def CAN_FIFO0_RELEASE (n : Nat) : Nat := 0x400C0064 + 0x10000 * n
def CAN_FIFO1_STAT (n : Nat) : Nat := 0x400C0068 + 0x10000 * n
def CAN_FIFO1_RELEASE (n : Nat) : Nat := 0x400C006C + 0x10000 * n
def CAN_FIFO_LOST (n : Nat) : Nat := 0x400C0070 + 0x10000 * n
def CAN_RX_DROP (n : Nat) : Nat := 0x400C0074 + 0x10000 * n
def CAN_BELL_STAT (n : Nat) : Nat := 0x400C0078 + 0x10000 * n
def CAN_COL (n : Nat) (i : Nat) : Nat := 0x400C0100 + 0x10000 * n + 4 * i
def NET_CTRL : Nat := 0x400E0000
def NET_STATUS : Nat := 0x400E0004
def NET_INT_STAT : Nat := 0x400E0008
def NET_INT_EN : Nat := 0x400E000C
def NET_HOST_MAC_LO : Nat := 0x400E0010
def NET_HOST_MAC_HI : Nat := 0x400E0014
def NET_HSR_CFG : Nat := 0x400E0018
def NET_SFP (i : Nat) : Nat := 0x400E0020 + 4 * i
def NET_CLASS (i : Nat) : Nat := 0x400E0040 + 4 * i
def NET_HOST_DEFAULT : Nat := 0x400E0080
def NET_CNT (p c : Nat) : Nat := 0x400E0100 + 0x40 * p + 4 * c
def DMA_STATUS : Nat := 0x400F0000
def DMA_INT_STAT : Nat := 0x400F0004
def DMA_INT_EN : Nat := 0x400F0008
def DMA_WARN : Nat := 0x400F000C
def DMA_CH_CFG (i : Nat) : Nat := 0x400F0100 + 64 * i
def DMA_CH_CTRL (i : Nat) : Nat := 0x400F0104 + 64 * i
def DMA_CH_STAT (i : Nat) : Nat := 0x400F0108 + 64 * i
def DMA_CH_RING_BASE_LO (i : Nat) : Nat := 0x400F010C + 64 * i
def DMA_CH_RING_BASE_HI (i : Nat) : Nat := 0x400F0110 + 64 * i
def DMA_CH_RING_SIZE (i : Nat) : Nat := 0x400F0114 + 64 * i
def DMA_CH_HEAD (i : Nat) : Nat := 0x400F0118 + 64 * i
def DMA_CH_TAIL (i : Nat) : Nat := 0x400F011C + 64 * i
def DMA_CH_BYTES (i : Nat) : Nat := 0x400F0120 + 64 * i
def DMA_CH_DESCS (i : Nat) : Nat := 0x400F0124 + 64 * i
def DMA_CH_RX_DROPS (i : Nat) : Nat := 0x400F0128 + 64 * i
def SNK_CTRL : Nat := 0x40100000
def SNK_STATUS : Nat := 0x40100004
def SNK_INT_STAT : Nat := 0x40100008
def SNK_INT_EN : Nat := 0x4010000C
def SNK_SCALE : Nat := 0x40100010
def SNK_KNEE : Nat := 0x40100014
def SNK_HDRM_CFG : Nat := 0x40100018
def SNK_HDRM_MASK : Nat := 0x4010001C
def SNK_HDRM_FB_LIM : Nat := 0x40100020
def SNK_HDRM_STAT : Nat := 0x40100024
def SNK_DETECT : Nat := 0x4010002C
def SNK_TEMP (i : Nat) : Nat := 0x40100030 + 4 * i
def SNK_CH_CFG (i : Nat) : Nat := 0x40100040 + 16 * i
def SNK_CH_STAT (i : Nat) : Nat := 0x40100044 + 16 * i
def SNK_CH_MEAS (i : Nat) : Nat := 0x40100048 + 16 * i
def SNK_CH_TRIM (i : Nat) : Nat := 0x4010004C + 16 * i
def HAL_CTRL (x : Nat) : Nat := 0x40110000 + 0x40 * x
def HAL_CFG (x : Nat) : Nat := 0x40110004 + 0x40 * x
def HAL_STATUS (x : Nat) : Nat := 0x40110008 + 0x40 * x
def HAL_INT_STAT (x : Nat) : Nat := 0x4011000C + 0x40 * x
def HAL_INT_EN (x : Nat) : Nat := 0x40110010 + 0x40 * x
def HAL_FRAMES (x : Nat) : Nat := 0x40110014 + 0x40 * x
def HAL_PEN_LO (x d : Nat) : Nat := 0x40111000 + 0x1000 * x + 8 * d
def HAL_PEN_HI (x d : Nat) : Nat := 0x40111004 + 0x1000 * x + 8 * d
def KEY_STATUS : Nat := 0x40120000
def KEY_INT_STAT : Nat := 0x40120004
def KEY_INT_EN : Nat := 0x40120008
def KEY_CMD : Nat := 0x4012000C
def KEY_CMD_ARG : Nat := 0x40120010
def KEY_CMD_LABEL : Nat := 0x40120014
def KEY_CMD_RESULT : Nat := 0x40120018
def KEY_CMD_DATA (i : Nat) : Nat := 0x40120020 + 4 * i
def KEY_SCRUB : Nat := 0x40120080
def KEY_TAG_FAILS : Nat := 0x40120084
def KEY_SLOT_INFO (i : Nat) : Nat := 0x40120100 + 4 * i
def CRY_STATUS : Nat := 0x40130000
def CRY_INT_STAT : Nat := 0x40130004
def CRY_INT_EN : Nat := 0x40130008
def CRY_TRNG_STAT : Nat := 0x4013000C
def CRY_DRBG_STAT : Nat := 0x40130010
def CRY_Q_CFG (i : Nat) : Nat := 0x40130100 + 32 * i
def CRY_Q_RING_BASE_LO (i : Nat) : Nat := 0x40130104 + 32 * i
def CRY_Q_RING_BASE_HI (i : Nat) : Nat := 0x40130108 + 32 * i
def CRY_Q_RING_SIZE (i : Nat) : Nat := 0x4013010C + 32 * i
def CRY_Q_HEAD (i : Nat) : Nat := 0x40130110 + 32 * i
def CRY_Q_TAIL (i : Nat) : Nat := 0x40130114 + 32 * i
def CRY_Q_JOBS (i : Nat) : Nat := 0x40130118 + 32 * i
def EVR_CTRL : Nat := 0x40140000
def EVR_STATUS : Nat := 0x40140004
def EVR_INT_STAT : Nat := 0x40140008
def EVR_INT_EN : Nat := 0x4014000C
def EVR_BUF_COUNT : Nat := 0x40140010
def EVR_LOG_COUNT : Nat := 0x40140014
def EVR_NEXT_SEQ : Nat := 0x40140018
def EVR_LOG_LAST_SEQ : Nat := 0x4014001C
def EVR_DROPPED : Nat := 0x40140020
def EVR_BUF_DROPS : Nat := 0x40140024
def EVR_RESERVE_USED : Nat := 0x40140028
def EVR_HIGH_WATER : Nat := 0x4014002C
def EVR_SUB (i : Nat) : Nat := 0x40140040 + 4 * i
def UPD_STATUS : Nat := 0x40150000
def UPD_INT_STAT : Nat := 0x40150004
def UPD_INT_EN : Nat := 0x40150008
def UPD_CONFIRM : Nat := 0x4015000C
def UPD_PROB_LIMIT : Nat := 0x40150010
def UPD_PROB_ELAPSED : Nat := 0x40150014
def UPD_ACTIVE_SEQ : Nat := 0x40150018
def UPD_STAGED_SEQ : Nat := 0x4015001C
def UPD_REFUSE : Nat := 0x40150020
def UPD_BOOT : Nat := 0x40150024
def SUP_STATUS : Nat := 0x40160000
def SUP_INT_STAT : Nat := 0x40160004
def SUP_INT_EN : Nat := 0x40160008
def SUP_HOIST : Nat := 0x40160010
def SUP_ACTIVE : Nat := 0x40160014
def SUP_DRILLMARK : Nat := 0x40160018
def SUP_HOIST_CLR : Nat := 0x4016001C
def SUP_WDT_STAT : Nat := 0x40160030
def SUP_WDT_KICK (i : Nat) : Nat := 0x40160040 + 4 * i
def SUP_ECC_CORR : Nat := 0x40160050
def SUP_ECC_ADDR_LO : Nat := 0x40160054
def SUP_ECC_ADDR_HI : Nat := 0x40160058
def SUP_SCRUB (i : Nat) : Nat := 0x40160060 + 4 * i
def SUP_RESET_HIST : Nat := 0x40160070
def SUP_CONT_FORCE : Nat := 0x40160074
def DRL_CTRL : Nat := 0x40170000
def DRL_STATUS : Nat := 0x40170004
def DRL_QSTALL : Nat := 0x40170010
def DRL_SYNC : Nat := 0x40170014
def DRL_RADIO (i : Nat) : Nat := 0x40170020 + 4 * i
def DRL_INJECT : Nat := 0x40170030
def DRL_INJECT_ADDR_LO : Nat := 0x40170034
def DRL_INJECT_ADDR_HI : Nat := 0x40170038
def DRL_DMA : Nat := 0x40170040
def DRL_AON_TEST : Nat := 0x40170050
def DRL_COUNT : Nat := 0x40170060
def MAC_NB (n i w : Nat) : Nat := 0x40041000 + 0x10000 * n + 32 * i + 4 * w
def CAN_FILTER (n e w : Nat) : Nat := 0x400C8000 + 0x10000 * n + 8 * e + 4 * w
def CAN_CELLS (n k : Nat) : Nat := 0x400C8800 + 0x10000 * n + 4 * k
def CAN_BUFFER (n m w : Nat) : Nat := 0x400C9000 + 0x10000 * n + 80 * m + 4 * w
def CAN_FIFO0 (n i w : Nat) : Nat := 0x400CA400 + 0x10000 * n + 80 * i + 4 * w
def CAN_FIFO1 (n i w : Nat) : Nat := 0x400CB800 + 0x10000 * n + 80 * i + 4 * w

end Reg

/-- Does the row hold the offset? -/
def RegRow.covers (r : RegRow) (off : Nat) : Bool :=
  Nat.ble r.off off && Nat.beq ((off - r.off) % r.stride) 0 && Nat.blt ((off - r.off) / r.stride) r.count

/-- R14: the row that lists the offset in its slot, if the register map lists it. -/
def Reg.find (slot off : Nat) : Option RegRow := (Reg.rows slot).find? (fun r => r.covers off)

/-- The slot of a register address (Table 1.3). -/
def Reg.slotOf (a : Nat) : Nat := a / 0x10000 % 0x4000

/-- The offset of a register address within its slot (Table 1.3). -/
def Reg.offOf (a : Nat) : Nat := a % 0x10000

/-- The reset value of the register at an address. MACn_ADDR and MACn_HOP reset to their radio's number (Table 5.16). -/
def Reg.reset (a : Nat) : Word :=
  match Reg.find (Reg.slotOf a) (Reg.offOf a) with
  | none => 0
  | some r =>
    if Nat.beq (Reg.slotOf a / 4) 1 && Nat.beq (Reg.offOf a) 0x14 then BitVec.ofNat 32 ((Reg.slotOf a - 4) * 0x10000)
    else if Nat.beq (Reg.slotOf a / 4) 1 && Nat.beq (Reg.offOf a) 0x1C then BitVec.ofNat 32 ((Reg.slotOf a - 4) * 0x100)
    else r.reset

end Sys2Proof.Machine
end

