-- ==== Sys2Proof/Machine/Flags.lean ====
section
/-! DEFINITION. What a register write does to the bits of each access code (R8, Table 0.4). -/

namespace Sys2Proof.Machine

/-- R8: the register after a write of v, over the bits `may` that the initiator may write: RW bits take the value, W1C bits
written 1 clear, W1S bits written 1 set; RO, WO and reserved bits keep what they hold. -/
def RegRow.apply (r : RegRow) (may old v : Word) : Word :=
  let stored := (old &&& ~~~ (r.rw &&& may)) ||| (v &&& (r.rw &&& may))
  (stored &&& ~~~ (v &&& (r.w1c &&& may))) ||| (v &&& (r.w1s &&& may))

/-- R8: what a read returns: WO and unlisted bits read 0, every other bit its current value. -/
def RegRow.readMask (r : RegRow) (v : Word) : Word := v &&& ~~~ (r.wo)

/-- The bits a write may act on at all. -/
def RegRow.writable (r : RegRow) : Word := r.rw ||| r.w1c ||| r.w1s ||| r.wo

end Sys2Proof.Machine
end

