-- ==== Sys2Proof/Machine/ObjMap.lean ====
section
/-! DEFINITION. The object dictionary's tables: one row per object or family of objects, with its type, access, length,
persistence, modes and authorisation, range and default (R79 to R93, Tables 2.5, 3.13, 4.6, 5.15, 6.14, 6.15, 7.7, 7.8,
8.8 to 8.11, 9.9, 9.10, 10.10, 10.11, 11.6, 12.2, 13.5, 13.6, 14.10, 15.6, 15.7, 16.5 and 17.7). -/

namespace Sys2Proof.Machine

/-- Table 3.2: object types; I8 is the type of TX_POWER_n and PROBE_RSSI. -/
inductive ObjType where
  | u8 | u16 | u32 | u64 | i8 | i16 | i32 | bf24 | time80 | stamp32 | octets | text
  deriving DecidableEq, Repr

/-- Table 0.4: the access codes an object may have. -/
inductive ObjAccess where
  | ro | rw | wo | w1c | w1s | rwl
  deriving DecidableEq, Repr

/-- Table 3.12: what a write needs beside the level OPERATOR (R87). -/
inductive ObjAuth where
  | none | owner | seal
  deriving DecidableEq, Repr

/-- One object, or a family of objects at consecutive indices and subindices. `modes` has bit m set where mode code m
admits a write (R84); `lo` and `hi` bound a number; the default is `defLen` bytes of the little-endian number `defVal`. -/
structure ObjRow where
  idx : Nat
  idxCount : Nat
  sub : Nat
  subCount : Nat
  type : ObjType
  minLen : Nat
  maxLen : Nat
  access : ObjAccess
  stored : Bool
  modes : Nat
  auth : ObjAuth
  lo : Int
  hi : Int
  defLen : Nat
  defVal : Nat
  deriving DecidableEq, Repr

namespace Obj

/-- Table 2.5. -/
def tab2_5 : List ObjRow := [
  ⟨0x2000, 1, 0x1, 1, .u8, 1, 1, .ro, false, 0x0, .none, 0, 255, 1, 0⟩,  -- MODE
  ⟨0x2000, 1, 0x2, 1, .u8, 1, 1, .wo, false, 0x806, .owner, 0, 255, 1, 0⟩,  -- MODE_REQUEST
  ⟨0x2000, 1, 0x3, 1, .u8, 1, 1, .ro, false, 0x0, .none, 0, 255, 1, 0⟩,  -- MODE_REASON
  ⟨0x2000, 1, 0x4, 1, .time80, 10, 10, .ro, false, 0x0, .none, 0, 0, 10, 0⟩,  -- MODE_ENTERED
  ⟨0x2000, 1, 0x5, 1, .u8, 1, 1, .ro, false, 0x0, .none, 0, 255, 1, 0⟩,  -- LIGHTING_PHASE
  ⟨0x2000, 1, 0x6, 1, .u8, 1, 1, .rw, true, 0x6, .none, 0, 2, 1, 2⟩,  -- DUSK_DAWN_SOURCE
  ⟨0x2000, 1, 0x7, 1, .u8, 1, 1, .rw, true, 0x7E, .none, 4, 5, 1, 5⟩,  -- NIGHT_LAW
  ⟨0x2000, 1, 0x8, 1, .u8, 1, 1, .ro, true, 0x0, .none, 0, 255, 1, 0⟩,  -- COMMISSIONED
  ⟨0x2000, 1, 0x9, 1, .u16, 2, 2, .rw, true, 0x6, .none, 0, 65535, 2, 0⟩,  -- BATTERY_WATCH_LIMIT
  ⟨0x2000, 1, 0xA, 1, .u8, 1, 1, .ro, false, 0x0, .none, 0, 255, 1, 0⟩,  -- LAST_RESET_CAUSE
  ⟨0x2000, 1, 0xB, 1, .u8, 1, 1, .ro, false, 0x0, .none, 0, 255, 1, 0⟩,  -- TAMPER_STATE
  ⟨0x2000, 1, 0xC, 1, .u8, 1, 1, .wo, false, 0x9FE, .owner, 0, 7, 1, 0⟩,  -- TAMPER_CLEAR
  ⟨0x2000, 1, 0xD, 1, .u8, 1, 1, .rw, true, 0x6, .none, 0, 1, 1, 0⟩,  -- TAMPER_WAKE
  ⟨0x2000, 1, 0xE, 1, .u16, 2, 2, .rw, true, 0x6, .none, 1, 600, 2, 0x3C⟩,  -- TRANSITION_TIME
  ⟨0x2000, 1, 0xF, 1, .u8, 1, 1, .rw, true, 0x6, .none, 0, 15, 1, 0xF⟩,  -- CONT_MASK
  ⟨0x2000, 1, 0x10, 1, .u64, 8, 8, .rw, true, 0x6, .owner, 0, 18446744073709551615, 8, 0⟩,  -- INTEGRATOR_PERMISSIONS
  ⟨0x2010, 1, 0x1, 1, .u16, 2, 2, .ro, true, 0x0, .none, 1, 1000, 2, 0⟩,  -- SAMPLE_PERIOD_0
  ⟨0x2010, 1, 0x2, 1, .u16, 2, 2, .ro, true, 0x0, .none, 1, 1000, 2, 0x14⟩,  -- SAMPLE_PERIOD_1
  ⟨0x2010, 1, 0x3, 1, .u16, 2, 2, .ro, true, 0x0, .none, 1, 1000, 2, 0x3E8⟩,  -- SAMPLE_PERIOD_2
  ⟨0x2010, 1, 0x4, 1, .u16, 2, 2, .ro, true, 0x0, .none, 1, 1000, 2, 0x14⟩,  -- SAMPLE_PERIOD_3
  ⟨0x2010, 1, 0x5, 1, .u16, 2, 2, .rw, true, 0x6, .none, 1, 1000, 2, 0x64⟩,  -- SAMPLE_PERIOD_4
  ⟨0x2010, 1, 0x6, 1, .u16, 2, 2, .rw, true, 0x6, .none, 1, 1000, 2, 0x14⟩,  -- SAMPLE_PERIOD_5
  ⟨0x2010, 1, 0x7, 1, .u16, 2, 2, .rw, true, 0x6, .none, 1, 1000, 2, 0x14⟩,  -- SAMPLE_PERIOD_6
  ⟨0x2010, 1, 0x8, 1, .u16, 2, 2, .ro, true, 0x0, .none, 1, 1000, 2, 0x14⟩,  -- SAMPLE_PERIOD_7
  ⟨0x2010, 1, 0x9, 1, .u16, 2, 2, .ro, true, 0x0, .none, 1, 1000, 2, 0x3E8⟩,  -- SAMPLE_PERIOD_8
  ⟨0x2010, 1, 0xA, 1, .u16, 2, 2, .ro, true, 0x0, .none, 1, 1000, 2, 0⟩,  -- SAMPLE_PERIOD_9
  ⟨0x2010, 1, 0xB, 1, .u16, 2, 2, .ro, true, 0x0, .none, 1, 1000, 2, 0⟩,  -- SAMPLE_PERIOD_10
  ⟨0x2010, 1, 0xC, 1, .u16, 2, 2, .ro, true, 0x0, .none, 1, 1000, 2, 0x14⟩,  -- SAMPLE_PERIOD_11
  ⟨0x2020, 1, 0x1, 1, .u8, 1, 1, .rw, true, 0x6, .owner, 0, 2, 1, 0⟩,  -- PAIR_ROLE
  ⟨0x2020, 1, 0x2, 1, .octets, 8, 8, .rw, true, 0x6, .owner, 0, 0, 8, 0⟩,  -- PAIR_PARTNER
  ⟨0x2020, 1, 0x3, 1, .u8, 1, 1, .ro, false, 0x0, .none, 0, 255, 1, 0⟩]  -- PAIR_STATE

/-- Table 3.13. -/
def tab3_13 : List ObjRow := [
  ⟨0x1000, 1, 0x1, 1, .text, 0, 16, .ro, true, 0x0, .none, 0, 0, 10, 0x452D303432382D4D534C⟩,  -- PART_NUMBER
  ⟨0x1000, 1, 0x2, 1, .text, 0, 16, .ro, true, 0x0, .none, 0, 0, 0, 0⟩,  -- SERIAL_NUMBER
  ⟨0x1000, 1, 0x3, 1, .u8, 1, 1, .ro, true, 0x0, .none, 0, 255, 1, 0x45⟩,  -- VARIANT_CODE
  ⟨0x1000, 1, 0x4, 1, .octets, 8, 8, .ro, true, 0x0, .none, 0, 0, 8, 0⟩,  -- EUI64
  ⟨0x1000, 1, 0x5, 1, .u16, 2, 2, .ro, false, 0x0, .none, 0, 65535, 2, 1⟩,  -- SILICON_REV
  ⟨0x1010, 1, 0x1, 1, .octets, 97, 97, .rw, true, 0x6, .owner, 0, 0, 97, 0⟩,  -- OWNER_KEY
  ⟨0x1010, 1, 0x2, 1, .u8, 1, 1, .rw, true, 0x6, .owner, 0, 1, 1, 0⟩,  -- OWNER_LOCK
  ⟨0x1010, 1, 0x3, 1, .u64, 8, 8, .ro, true, 0x0, .none, 0, 18446744073709551615, 8, 0⟩,  -- OWNER_COUNTER
  ⟨0x1011, 1, 0x1, 1, .octets, 97, 97, .rw, true, 0x6, .seal, 0, 0, 97, 0⟩,  -- SEAL_KEY
  ⟨0x1011, 1, 0x2, 1, .u64, 8, 8, .ro, true, 0x0, .none, 0, 18446744073709551615, 8, 0⟩,  -- SEAL_COUNTER
  ⟨0x1020, 1, 0x1, 8, .u16, 2, 2, .rw, true, 0x6, .owner, 0, 65535, 2, 0xFFFF⟩,  -- TRUST_ANCHOR_n
  ⟨0x1021, 1, 0x1, 8, .u8, 1, 1, .rw, true, 0x6, .owner, 1, 2, 1, 1⟩,  -- ANCHOR_LEVEL_n
  ⟨0x1022, 1, 0x1, 1, .u8, 1, 1, .ro, false, 0x0, .none, 0, 255, 1, 0x10⟩,  -- RING_SESSION_MAX
  ⟨0x1022, 1, 0x2, 1, .u16, 2, 2, .rw, true, 0x6, .none, 30, 3600, 2, 0x12C⟩,  -- SESSION_IDLE_TIMEOUT
  ⟨0x1022, 1, 0x3, 1, .u8, 1, 1, .ro, false, 0x0, .none, 0, 255, 1, 0⟩,  -- SESSIONS_OPEN
  ⟨0x1022, 1, 0x4, 1, .u32, 4, 4, .ro, false, 0x0, .none, 0, 4294967295, 4, 0⟩,  -- DUPLICATES_SERVED
  ⟨0x1022, 1, 0x5, 1, .u32, 4, 4, .ro, false, 0x0, .none, 0, 4294967295, 4, 0⟩,  -- AUTH_FAILURES
  ⟨0x1022, 1, 0x6, 1, .u32, 4, 4, .ro, false, 0x0, .none, 0, 4294967295, 4, 0⟩,  -- SESSION_DROPS
  ⟨0x1022, 1, 0x7, 1, .u32, 4, 4, .ro, false, 0x0, .none, 0, 4294967295, 4, 0⟩,  -- MALFORMED
  ⟨0x1030, 1, 0x1, 1, .u8, 1, 1, .rw, true, 0x6, .none, 1, 2, 1, 1⟩,  -- CANBUS_LEVEL
  ⟨0x1030, 1, 0x2, 1, .u32, 4, 4, .ro, false, 0x0, .none, 0, 4294967295, 4, 0⟩,  -- ENVELOPE_REJECTS
  ⟨0x1031, 1, 0x1, 1, .u8, 1, 1, .ro, false, 0x0, .none, 0, 255, 1, 0⟩]  -- MAILBOX_STATE

/-- Table 4.6. -/
def tab4_6 : List ObjRow := [
  ⟨0x2100, 1, 0x1, 1, .time80, 10, 10, .ro, false, 0x0, .none, 0, 0, 10, 0⟩,  -- LOCAL_TIME
  ⟨0x2100, 1, 0x2, 1, .i16, 2, 2, .rw, true, 0x46, .none, (-10), 100, 2, 0x25⟩,  -- UTC_OFFSET
  ⟨0x2100, 1, 0x3, 1, .u8, 1, 1, .ro, false, 0x0, .none, 0, 255, 1, 0⟩,  -- SERVO_STATE
  ⟨0x2100, 1, 0x4, 1, .i32, 4, 4, .ro, false, 0x0, .none, (-2147483648), 2147483647, 4, 0⟩,  -- SERVO_OFFSET
  ⟨0x2100, 1, 0x5, 1, .i32, 4, 4, .ro, false, 0x0, .none, (-2147483648), 2147483647, 4, 0⟩,  -- FREQ_ADJ
  ⟨0x2100, 1, 0x6, 1, .u16, 2, 2, .rw, true, 0x6, .none, 1, 65535, 2, 0x3E8⟩,  -- STEP_THRESHOLD
  ⟨0x2100, 1, 0x7, 1, .u16, 2, 2, .rw, true, 0x6, .none, 1, 65535, 2, 0x64⟩,  -- LOCK_THRESHOLD
  ⟨0x2100, 1, 0x8, 1, .u8, 1, 1, .rw, true, 0x6, .none, 1, 255, 1, 5⟩,  -- HOLDOVER_TIMEOUT
  ⟨0x2100, 1, 0x9, 1, .u32, 4, 4, .ro, false, 0x0, .none, 0, 4294967295, 4, 0⟩,  -- STEPS
  ⟨0x2110, 1, 0x1, 1, .u8, 1, 1, .rw, true, 0x6, .none, 0, 2, 1, 0⟩,  -- PTP_ROLE
  ⟨0x2110, 1, 0x2, 1, .u8, 1, 1, .rw, true, 0x6, .none, 0, 255, 1, 0⟩,  -- PTP_DOMAIN
  ⟨0x2110, 1, 0x3, 1, .u8, 1, 1, .rw, true, 0x6, .none, 0, 255, 1, 0xF8⟩,  -- PRIORITY1
  ⟨0x2110, 1, 0x4, 1, .u8, 1, 1, .rw, true, 0x6, .none, 0, 255, 1, 0xF8⟩,  -- PRIORITY2
  ⟨0x2110, 1, 0x5, 1, .i16, 2, 2, .rw, true, 0x6, .none, (-3), 0, 2, 0⟩,  -- SYNC_LOG_INTERVAL
  ⟨0x2110, 1, 0x6, 1, .i16, 2, 2, .rw, true, 0x6, .none, (-3), 2, 2, 0⟩,  -- PDELAY_LOG_INTERVAL
  ⟨0x2110, 1, 0x7, 1, .u32, 4, 4, .ro, false, 0x0, .none, 0, 4294967295, 4, 0⟩,  -- PEER_DELAY_A
  ⟨0x2110, 1, 0x8, 1, .u32, 4, 4, .ro, false, 0x0, .none, 0, 4294967295, 4, 0⟩,  -- PEER_DELAY_B
  ⟨0x2110, 1, 0x9, 1, .octets, 8, 8, .ro, false, 0x0, .none, 0, 0, 8, 0⟩,  -- GRANDMASTER_ID
  ⟨0x2110, 1, 0xA, 1, .u16, 2, 2, .ro, false, 0x0, .none, 0, 65535, 2, 0⟩,  -- STEPS_REMOVED
  ⟨0x2110, 1, 0xB, 1, .u8, 1, 1, .ro, false, 0x0, .none, 0, 255, 1, 0⟩,  -- SLAVE_PORT
  ⟨0x2110, 1, 0xC, 1, .i16, 2, 2, .rw, true, 0x6, .none, (-32768), 32767, 2, 0⟩,  -- LAT_ADJ_RX_A
  ⟨0x2110, 1, 0xD, 1, .i16, 2, 2, .rw, true, 0x6, .none, (-32768), 32767, 2, 0⟩,  -- LAT_ADJ_TX_A
  ⟨0x2110, 1, 0xE, 1, .i16, 2, 2, .rw, true, 0x6, .none, (-32768), 32767, 2, 0⟩,  -- LAT_ADJ_RX_B
  ⟨0x2110, 1, 0xF, 1, .i16, 2, 2, .rw, true, 0x6, .none, (-32768), 32767, 2, 0⟩,  -- LAT_ADJ_TX_B
  ⟨0x2120, 1, 0x1, 1, .u8, 1, 1, .rw, true, 0x6, .none, 0, 1, 1, 1⟩,  -- PPS_ENABLE
  ⟨0x2120, 1, 0x2, 1, .u32, 4, 4, .rw, true, 0x6, .none, 1000, 999000000, 4, 0x5F5E100⟩,  -- PPS_WIDTH
  ⟨0x2120, 1, 0x3, 1, .u8, 1, 1, .rw, true, 0x6, .none, 0, 8, 1, 0⟩,  -- SERVO_REFERENCE
  ⟨0x2120, 1, 0x4, 1, .u32, 4, 4, .ro, false, 0x0, .none, 0, 4294967295, 4, 0⟩,  -- CAPT_DROPS
  ⟨0x2120, 1, 0x5, 1, .u32, 4, 4, .ro, false, 0x0, .none, 0, 4294967295, 4, 0⟩,  -- TSQ_OVERFLOWS
  ⟨0x2120, 1, 0x6, 1, .u32, 4, 4, .ro, false, 0x0, .none, 0, 4294967295, 4, 0⟩,  -- LATE_TRIGGERS
  ⟨0x2130, 1, 0x1, 1, .octets, 8, 8, .ro, false, 0x0, .none, 0, 0, 8, 0⟩,  -- RTC_NOW
  ⟨0x2130, 1, 0x2, 1, .octets, 8, 8, .wo, false, 0x46, .none, 0, 0, 8, 0⟩,  -- RTC_SET
  ⟨0x2130, 1, 0x3, 1, .octets, 8, 8, .rw, true, 0x6, .none, 0, 0, 8, 0⟩,  -- RTC_ALARM
  ⟨0x2130, 1, 0x4, 1, .i16, 2, 2, .ro, false, 0x0, .none, (-32768), 32767, 2, 0⟩,  -- RTC_TEMPERATURE
  ⟨0x2130, 1, 0x5, 1, .i32, 4, 4, .ro, false, 0x0, .none, (-2147483648), 2147483647, 4, 0⟩,  -- RTC_CORRECTION
  ⟨0x2130, 1, 0x6, 1, .i16, 2, 2, .rw, true, 0x6, .none, (-10000), 10000, 2, 0⟩,  -- RTC_TRIM
  ⟨0x2130, 1, 0x7, 1, .octets, 66, 66, .rw, true, 0x6, .owner, 0, 0, 66, 0⟩,  -- RTC_CURVE
  ⟨0x2130, 1, 0x8, 1, .i32, 4, 4, .ro, false, 0x0, .none, (-2147483648), 2147483647, 4, 0⟩]  -- RTC_ERROR

/-- Table 5.15. -/
def tab5_15 : List ObjRow := [
  ⟨0x2200, 1, 0x1, 1, .u16, 2, 2, .rw, true, 0x2, .none, 0, 65535, 2, 0⟩,  -- SEGMENT_ID
  ⟨0x2200, 1, 0x2, 1, .octets, 4, 64, .rw, true, 0x2, .none, 0, 0, 0, 0⟩,  -- HOP_CHANNELS
  ⟨0x2200, 1, 0x3, 1, .u16, 2, 2, .rw, true, 0x2, .none, 0, 65535, 2, 1⟩,  -- HOP_SEED
  ⟨0x2200, 1, 0x4, 1, .octets, 1, 4, .rw, true, 0x2, .none, 0, 0, 1, 0x20⟩,  -- DISCOVERY_CHANNELS
  ⟨0x2200, 1, 0x5, 1, .u16, 2, 2, .rw, true, 0x2, .none, 1500, 3000, 2, 0x7D0⟩,  -- TX_OFFSET
  ⟨0x2200, 1, 0x6, 1, .u16, 2, 2, .rw, true, 0x6, .none, 500, 2000, 2, 0x3E8⟩,  -- GUARD
  ⟨0x2200, 1, 0x7, 1, .u8, 1, 1, .rw, true, 0x6, .none, 0, 15, 1, 3⟩,  -- TX_RETRIES
  ⟨0x2200, 1, 0x8, 1, .u8, 1, 1, .rw, true, 0x6, .none, 60, 110, 1, 0x55⟩,  -- CCA_LEVEL
  ⟨0x2200, 1, 0x9, 1, .u8, 1, 1, .rw, true, 0x6, .none, 0, 255, 1, 0x1E⟩,  -- KEY_OVERLAP
  ⟨0x2200, 1, 0xA, 1, .u64, 8, 8, .ro, false, 0x0, .none, 0, 18446744073709551615, 8, 0⟩,  -- ASN
  ⟨0x2210, 1, 0x1, 4, .u16, 2, 2, .rw, true, 0x2, .none, 0, 65535, 2, 4⟩,  -- PHY_MODE_n
  ⟨0x2211, 1, 0x1, 4, .i8, 1, 1, .rw, true, 0x6, .none, (-20), 54, 1, 0x1C⟩,  -- TX_POWER_n
  ⟨0x2240, 4, 0x1, 16, .u32, 4, 4, .ro, false, 0x0, .none, 0, 4294967295, 4, 0⟩,  -- MAC_COUNTER_c
  ⟨0x2244, 1, 0x1, 5, .u32, 4, 4, .ro, false, 0x0, .none, 0, 4294967295, 4, 0⟩]  -- SCAN_COUNTER_c

/-- Table 6.14. -/
def tab6_14 : List ObjRow := [
  ⟨0x6000, 4096, 0x1, 1, .octets, 8, 8, .rw, true, 0x6, .none, 0, 0, 8, 0⟩,  -- EUI64
  ⟨0x6000, 4096, 0x2, 1, .octets, 16, 16, .wo, true, 0x6, .owner, 0, 0, 0, 0⟩,  -- ENROL_CODE
  ⟨0x6000, 4096, 0x3, 1, .u8, 1, 1, .ro, true, 0x0, .none, 0, 255, 1, 0⟩,  -- STATE
  ⟨0x6000, 4096, 0x4, 1, .u8, 1, 1, .rw, true, 0x6, .none, 0, 255, 1, 0⟩,  -- REGISTRATION
  ⟨0x6000, 4096, 0x5, 1, .u8, 1, 1, .ro, true, 0x0, .none, 0, 255, 1, 0xFF⟩,  -- COHORT
  ⟨0x6000, 4096, 0x6, 1, .u8, 1, 1, .rw, true, 0x6, .none, 0, 255, 1, 0xFF⟩,  -- COHORT_PIN
  ⟨0x6000, 4096, 0x7, 1, .u16, 2, 2, .ro, true, 0x0, .none, 0, 65535, 2, 0⟩,  -- HW_CLASS
  ⟨0x6000, 4096, 0x8, 1, .u16, 2, 2, .ro, true, 0x0, .none, 0, 65535, 2, 0⟩,  -- FW_VERSION
  ⟨0x6000, 4096, 0x9, 1, .u8, 1, 1, .ro, true, 0x0, .none, 0, 255, 1, 0⟩,  -- FEED
  ⟨0x6000, 4096, 0xA, 1, .u16, 2, 2, .ro, true, 0x0, .none, 0, 65535, 2, 0xFFFF⟩,  -- PARENT
  ⟨0x6000, 4096, 0xB, 1, .time80, 10, 10, .ro, true, 0x0, .none, 0, 0, 10, 0⟩,  -- ENROLLED_AT
  ⟨0x6000, 4096, 0xC, 1, .time80, 10, 10, .ro, false, 0x0, .none, 0, 0, 10, 0⟩,  -- LAST_HEARD
  ⟨0x6000, 4096, 0xD, 1, .u16, 2, 2, .ro, true, 0x0, .none, 0, 65535, 2, 0⟩,  -- ENROL_COUNTER
  ⟨0x6000, 4096, 0xE, 1, .u32, 4, 4, .ro, true, 0x0, .none, 0, 4294967295, 4, 0⟩,  -- RX_COUNTER
  ⟨0x6000, 4096, 0xF, 1, .u32, 4, 4, .ro, true, 0x0, .none, 0, 4294967295, 4, 0⟩,  -- TX_COUNTER
  ⟨0x6000, 4096, 0x10, 1, .u16, 2, 2, .ro, true, 0x0, .none, 0, 65535, 2, 0⟩,  -- DEMOTIONS
  ⟨0x6000, 4096, 0x11, 1, .octets, 16, 16, .ro, false, 0x0, .none, 0, 0, 16, 0⟩,  -- HEALTH
  ⟨0x6000, 4096, 0x12, 1, .time80, 10, 10, .ro, false, 0x0, .none, 0, 0, 10, 0⟩,  -- HEALTH_TIME
  ⟨0x6000, 4096, 0x13, 1, .octets, 16, 16, .ro, false, 0x0, .none, 0, 0, 16, 0⟩,  -- ENERGY
  ⟨0x6000, 4096, 0x14, 1, .time80, 10, 10, .ro, false, 0x0, .none, 0, 0, 10, 0⟩,  -- ENERGY_TIME
  ⟨0x6000, 4096, 0x15, 1, .i32, 4, 4, .ro, false, 0x0, .none, (-2147483648), 2147483647, 4, 0⟩,  -- OFFSET
  ⟨0x6000, 4096, 0x16, 1, .u8, 1, 1, .ro, true, 0x0, .none, 0, 255, 1, 0⟩,  -- HEARD
  ⟨0x6000, 4096, 0x17, 1, .octets, 8, 8, .rw, true, 0x6, .none, 0, 0, 8, 0⟩,  -- GEO
  ⟨0x6000, 4096, 0x18, 1, .u8, 1, 1, .rw, true, 0x6, .none, 0, 255, 1, 0⟩,  -- BOUNDARY
  ⟨0x6000, 4096, 0x19, 1, .i8, 1, 1, .ro, false, 0x0, .none, (-128), 127, 1, 0x80⟩,  -- PROBE_RSSI
  ⟨0x6000, 4096, 0x1A, 1, .u8, 1, 1, .ro, true, 0x0, .none, 0, 255, 1, 0⟩]  -- RELAY_ROLE

/-- Table 6.15. -/
def tab6_15 : List ObjRow := [
  ⟨0x7000, 1, 0x1, 1, .u16, 2, 2, .rw, true, 0x6, .none, 101, 4099, 2, 0x407⟩,  -- SLOTFRAME_LEN
  ⟨0x7000, 1, 0x2, 1, .u16, 2, 2, .rw, true, 0x6, .none, 0, 65535, 2, 6⟩,  -- ENROL_MODES
  ⟨0x7000, 1, 0x3, 1, .u16, 2, 2, .rw, true, 0x6, .none, 16, 1024, 2, 0x40⟩,  -- REQ_WINDOW
  ⟨0x7000, 1, 0x4, 1, .u8, 1, 1, .rw, true, 0x6, .none, 1, 8, 1, 4⟩,  -- DISC_CELLS
  ⟨0x7000, 1, 0x5, 1, .u8, 1, 1, .rw, true, 0x6, .none, 2, 64, 1, 8⟩,  -- SHARED_CELLS
  ⟨0x7000, 1, 0x6, 1, .u8, 1, 1, .rw, true, 0x6, .none, 1, 32, 1, 6⟩,  -- WAKE_INTERVAL
  ⟨0x7000, 1, 0x7, 1, .u8, 1, 1, .rw, true, 0x6, .none, 2, 16, 1, 4⟩,  -- JOIN_TIMEOUT
  ⟨0x7000, 1, 0x8, 1, .u16, 2, 2, .rw, true, 0x6, .none, 1, 8760, 2, 0xA8⟩,  -- LOST_AFTER
  ⟨0x7000, 1, 0x9, 1, .u16, 2, 2, .rw, true, 0x6, .none, 0, 3650, 2, 0x1E⟩,  -- KEY_RENEWAL
  ⟨0x7000, 1, 0xA, 1, .u16, 2, 2, .rw, true, 0x6, .none, 60, 65535, 2, 0x384⟩,  -- PROBE_INTERVAL
  ⟨0x7000, 1, 0xB, 1, .octets, 0, 32, .rw, true, 0x6, .none, 0, 0, 0, 0⟩,  -- HANDOVER_PEERS
  ⟨0x7000, 1, 0xC, 1, .octets, 0, 4096, .ro, false, 0x0, .none, 0, 0, 0, 0⟩,  -- PROBES_HEARD
  ⟨0x7000, 1, 0xD, 1, .u8, 1, 1, .wo, false, 0x4, .none, 0, 255, 1, 0⟩,  -- REBALANCE
  ⟨0x7000, 1, 0xE, 1, .u8, 1, 1, .rw, true, 0x6, .none, 0, 255, 1, 6⟩,  -- HANDOVER_MARGIN
  ⟨0x7000, 1, 0xF, 1, .u8, 1, 1, .rw, true, 0x6, .none, 0, 255, 1, 3⟩,  -- HANDOVER_COUNT
  ⟨0x7000, 1, 0x10, 1, .octets, 12, 12, .ro, false, 0x0, .none, 0, 0, 12, 0⟩,  -- ENROL_COUNTERS
  ⟨0x7001, 4, 0x1, 1, .u16, 2, 2, .ro, false, 0x0, .none, 0, 65535, 2, 0⟩,  -- MEMBERS
  ⟨0x7001, 4, 0x2, 1, .u16, 2, 2, .rw, true, 0x6, .none, 0, 1024, 2, 0x400⟩,  -- LIMIT
  ⟨0x7001, 4, 0x3, 1, .u8, 1, 1, .rw, true, 0x2, .owner, 0, 255, 1, 0x10⟩,  -- KEY_SLOT_A
  ⟨0x7001, 4, 0x4, 1, .u8, 1, 1, .rw, true, 0x2, .owner, 0, 255, 1, 0x11⟩,  -- KEY_SLOT_B
  ⟨0x7001, 4, 0x5, 1, .u8, 1, 1, .ro, true, 0x0, .none, 0, 255, 1, 0⟩,  -- ACTIVE_KEY
  ⟨0x7001, 4, 0x6, 1, .u8, 1, 1, .ro, true, 0x0, .none, 0, 255, 1, 0⟩,  -- KEY_GEN
  ⟨0x7001, 4, 0x7, 1, .u8, 1, 1, .ro, true, 0x0, .none, 0, 255, 1, 0⟩,  -- SCHED_VERSION
  ⟨0x7001, 4, 0x8, 1, .octets, 0, 16396, .ro, false, 0x0, .none, 0, 0, 0, 0⟩,  -- CELLS
  ⟨0x7001, 4, 0x9, 1, .u16, 2, 2, .ro, false, 0x0, .none, 0, 65535, 2, 0⟩,  -- DIRECT
  ⟨0x7001, 4, 0xA, 1, .u16, 2, 2, .ro, false, 0x0, .none, 0, 65535, 2, 0⟩,  -- PARKED
  ⟨0x7001, 4, 0xB, 1, .u16, 2, 2, .ro, false, 0x0, .none, 0, 65535, 2, 0⟩]  -- DEMOTED

/-- Table 7.7. -/
def tab7_7 : List ObjRow := [
  ⟨0x2400, 1, 0x1, 1, .u16, 2, 2, .rw, true, 0x6, .none, 1, 3600, 2, 0x3C⟩,  -- COUNT_WINDOW
  ⟨0x2400, 1, 0x2, 1, .u16, 2, 2, .rw, true, 0x6, .none, 1, 120, 2, 0xF⟩,  -- LATE_ALLOWANCE
  ⟨0x2400, 1, 0x3, 1, .u16, 2, 2, .rw, true, 0x6, .none, 10, 600, 2, 0x3C⟩,  -- MAX_EVENT_AGE
  ⟨0x2400, 1, 0x4, 1, .u16, 2, 2, .rw, true, 0x6, .none, 6554, 65535, 2, 0x8000⟩,  -- EFF_FLOOR
  ⟨0x2400, 1, 0x5, 1, .u16, 2, 2, .rw, true, 0x6, .none, 20, 1000, 2, 0x64⟩,  -- PRED_STEP
  ⟨0x2400, 1, 0x6, 1, .u16, 2, 2, .rw, true, 0x6, .none, 0, 60000, 2, 0x1F40⟩,  -- HORIZON
  ⟨0x2400, 1, 0x7, 1, .u16, 2, 2, .rw, true, 0x6, .none, 1000, 60000, 2, 0x3A98⟩,  -- CREDIT_TAU
  ⟨0x2400, 1, 0x8, 1, .u16, 2, 2, .rw, true, 0x6, .none, 1, 60, 2, 0x14⟩,  -- MAX_CATCHUP
  ⟨0x2400, 1, 0x9, 1, .u16, 2, 2, .rw, true, 0x6, .none, 100, 1000, 2, 0x64⟩,  -- EDGE_PERIOD
  ⟨0x2400, 1, 0xA, 1, .u8, 1, 1, .rw, true, 0x6, .none, 2, 50, 1, 3⟩,  -- EDGE_STALE
  ⟨0x2400, 1, 0xB, 1, .u16, 2, 2, .rw, true, 0x6, .none, 1000, 60000, 2, 0x2710⟩,  -- EXIT_DWELL
  ⟨0x2400, 1, 0xC, 1, .u8, 1, 1, .wo, false, 0x6, .none, 0, 255, 1, 0⟩,  -- GRAPH_COMMIT
  ⟨0x2400, 1, 0xD, 1, .u32, 4, 4, .ro, false, 0x0, .none, 0, 4294967295, 4, 0⟩,  -- GRAPH_STATUS
  ⟨0x2400, 1, 0xE, 1, .octets, 48, 48, .ro, false, 0x0, .none, 0, 0, 48, 0⟩,  -- TRAFFIC_COUNTERS
  ⟨0x2410, 64, 0x1, 1, .text, 0, 16, .rw, true, 0x6, .none, 0, 0, 0, 0⟩,  -- ZONE_NAME
  ⟨0x2410, 64, 0x2, 1, .u16, 2, 2, .rw, true, 0x6, .none, 10, 5000, 2, 0x8C⟩,  -- SPEED_PED
  ⟨0x2410, 64, 0x3, 1, .u16, 2, 2, .rw, true, 0x6, .none, 10, 5000, 2, 0x1F4⟩,  -- SPEED_CYCLE
  ⟨0x2410, 64, 0x4, 1, .u16, 2, 2, .rw, true, 0x6, .none, 10, 5000, 2, 0x56D⟩,  -- SPEED_MOTOR
  ⟨0x2410, 64, 0x5, 1, .octets, 62, 62, .ro, false, 0x0, .none, 0, 0, 62, 0⟩,  -- LAST_WINDOW
  ⟨0x2450, 64, 0x1, 1, .octets, 8, 8, .rw, true, 0x6, .none, 0, 0, 8, 0⟩,  -- PEER_EUI64
  ⟨0x2450, 64, 0x2, 1, .u8, 1, 1, .rw, true, 0x6, .none, 0, 255, 1, 0⟩,  -- PEER_PORT
  ⟨0x2450, 64, 0x3, 1, .u16, 2, 2, .rw, true, 0x6, .none, 0, 65535, 2, 0xFFFF⟩,  -- ENTRY_LANTERN
  ⟨0x2450, 64, 0x4, 1, .u8, 1, 1, .ro, false, 0x0, .none, 0, 255, 1, 0⟩,  -- PORT_STATE
  ⟨0x2450, 64, 0x5, 1, .u16, 2, 2, .ro, false, 0x0, .none, 0, 65535, 2, 0⟩,  -- LAST_SEQ
  ⟨0x2490, 1, 0x1, 1, .octets, 80, 920, .wo, false, 0x93C, .none, 0, 0, 0, 0⟩]  -- EDGE_IN

/-- Table 7.8. -/
def tab7_8 : List ObjRow := [
  ⟨0x6000, 4096, 0x20, 1, .u8, 1, 1, .rw, true, 0x6, .none, 0, 255, 1, 0xFF⟩,  -- ZONE
  ⟨0x6000, 4096, 0x21, 1, .u16, 2, 2, .rw, true, 0x6, .none, 0, 65535, 2, 0xFFFF⟩,  -- SENSOR_AXIS
  ⟨0x6000, 4096, 0x22, 1, .u8, 1, 1, .rw, true, 0x6, .none, 0, 3, 1, 0⟩,  -- ROLE
  ⟨0x6000, 4096, 0x23, 4, .u32, 4, 4, .rw, true, 0x6, .none, 0, 4294967295, 4, 0⟩,  -- EDGE_0 to EDGE_3
  ⟨0x6000, 4096, 0x27, 1, .u16, 2, 2, .ro, false, 0x0, .none, 0, 65535, 2, 0xFFFF⟩,  -- EFFICIENCY_APPLIED
  ⟨0x6000, 4096, 0x28, 1, .u8, 1, 1, .ro, true, 0x0, .none, 0, 255, 1, 0⟩,  -- LAST_REPORT_SEQ
  ⟨0x6000, 4096, 0x29, 1, .u32, 4, 4, .ro, false, 0x0, .none, 0, 4294967295, 4, 0⟩,  -- EVENTS
  ⟨0x6000, 4096, 0x2A, 1, .octets, 12, 12, .ro, false, 0x0, .none, 0, 0, 12, 0⟩]  -- OCCUPANCY

/-- Table 8.8. -/
def tab8_8 : List ObjRow := [
  ⟨0x2500, 1, 0x1, 1, .u16, 2, 2, .rw, true, 0x76, .none, 0, 65535, 2, 0⟩,  -- LAW_SELECT
  ⟨0x2500, 1, 0x2, 1, .u16, 2, 2, .rw, true, 0x6, .none, 10, 10000, 2, 0x1F4⟩,  -- RAMP_LIMIT
  ⟨0x2500, 1, 0x3, 1, .u16, 2, 2, .rw, true, 0x6, .none, 1, 200, 2, 0x14⟩,  -- HANDOVER_BAND
  ⟨0x2500, 1, 0x4, 1, .u8, 1, 1, .rw, true, 0x6, .none, 1, 8, 1, 4⟩,  -- LM_LEN
  ⟨0x2500, 1, 0x5, 1, .u8, 1, 1, .rw, true, 0x6, .none, 0, 9, 1, 2⟩,  -- LM_PHASE
  ⟨0x2500, 1, 0x6, 1, .u8, 1, 1, .wo, false, 0x76, .none, 1, 1, 1, 0⟩,  -- COEFF_SWAP
  ⟨0x2500, 1, 0x7, 1, .u8, 1, 1, .ro, true, 0x0, .none, 0, 255, 1, 0⟩,  -- ACTIVE_BANK
  ⟨0x2500, 1, 0x8, 1, .octets, 8, 8, .rw, true, 0x6, .none, 0, 0, 8, 0⟩,  -- CIVIL_TIME
  ⟨0x2500, 1, 0x9, 1, .octets, 8, 8, .rw, true, 0x2, .none, 0, 0, 8, 0⟩,  -- SITE_GEO
  ⟨0x2500, 1, 0xA, 1, .i16, 2, 2, .rw, true, 0x6, .none, (-1800), 0, 2, 0xFFAD⟩,  -- SUN_ALTITUDE
  ⟨0x2500, 1, 0xB, 1, .u8, 1, 1, .ro, false, 0x0, .none, 0, 255, 1, 0xFF⟩,  -- ACTIVE_PROGRAM
  ⟨0x2500, 1, 0xC, 1, .octets, 20, 20, .ro, false, 0x0, .none, 0, 0, 20, 0⟩,  -- TONIGHT
  ⟨0x2500, 1, 0xD, 1, .u8, 1, 1, .ro, false, 0x0, .none, 0, 255, 1, 0⟩,  -- MAP_SEQ
  ⟨0x2500, 1, 0xE, 1, .octets, 32, 32, .ro, false, 0x0, .none, 0, 0, 32, 0⟩,  -- CTL_COUNTERS
  ⟨0x2500, 1, 0xF, 1, .u32, 4, 4, .ro, false, 0x0, .none, 0, 4294967295, 4, 0⟩]  -- LAST_DURATION

/-- Table 8.9. -/
def tab8_9 : List ObjRow := [
  ⟨0x2510, 16, 0x1, 1, .u16, 2, 2, .rw, true, 0x6, .none, 1, 1023, 2, 0x3FF⟩,  -- MAX_LEVEL
  ⟨0x2510, 16, 0x2, 1, .u16, 2, 2, .rw, true, 0x6, .none, 1, 512, 2, 0x14⟩,  -- BAND_UP
  ⟨0x2510, 16, 0x3, 1, .u16, 2, 2, .rw, true, 0x6, .none, 1, 512, 2, 0x28⟩,  -- BAND_DOWN
  ⟨0x2510, 16, 0x4, 1, .u8, 1, 1, .rw, true, 0x6, .none, 0, 3, 1, 1⟩,  -- RAMP_UP
  ⟨0x2510, 16, 0x5, 1, .u8, 1, 1, .rw, true, 0x6, .none, 0, 3, 1, 3⟩,  -- RAMP_DOWN
  ⟨0x2510, 16, 0x6, 1, .u16, 2, 2, .rw, true, 0x6, .none, 0, 1023, 2, 0xC8⟩,  -- GAIN_PED
  ⟨0x2510, 16, 0x7, 1, .u16, 2, 2, .rw, true, 0x6, .none, 0, 1023, 2, 0xFA⟩,  -- GAIN_CYCLE
  ⟨0x2510, 16, 0x8, 1, .u16, 2, 2, .rw, true, 0x6, .none, 0, 1023, 2, 0x190⟩,  -- GAIN_MOTOR
  ⟨0x2510, 16, 0x9, 1, .octets, 10, 10, .rw, true, 0x6, .none, 0, 0, 10, 0⟩,  -- POWER_CURVE
  ⟨0x2510, 16, 0xA, 1, .u8, 1, 1, .rw, true, 0x6, .none, 1, 100, 1, 0xF⟩,  -- FE_LIMIT_PCT
  ⟨0x2510, 16, 0xB, 1, .u16, 2, 2, .rw, true, 0x6, .none, 1, 65535, 2, 0x32⟩,  -- FE_LIMIT_ABS
  ⟨0x2510, 16, 0xC, 1, .u16, 2, 2, .rw, true, 0x6, .none, 10, 65535, 2, 0x12C⟩,  -- FE_TIMER
  ⟨0x2510, 16, 0xD, 1, .u16, 2, 2, .rw, true, 0x6, .none, 0, 600, 2, 0xA⟩]  -- SETTLE

/-- Table 8.10. -/
def tab8_10 : List ObjRow := [
  ⟨0x2530, 16, 0x1, 1, .octets, 168, 168, .rw, true, 0x76, .none, 0, 0, 168, 0⟩,  -- COEFF_A
  ⟨0x2530, 16, 0x2, 1, .octets, 168, 168, .rw, true, 0x76, .none, 0, 0, 168, 0⟩,  -- COEFF_B
  ⟨0x5000, 256, 0x1, 1, .text, 0, 16, .rw, true, 0x6, .none, 0, 0, 0, 0⟩,  -- NAME
  ⟨0x5000, 256, 0x2, 1, .octets, 8, 8, .rw, true, 0x6, .none, 0, 0, 8, 0⟩,  -- VALIDITY
  ⟨0x5000, 256, 0x3, 1, .octets, 4, 4, .rw, true, 0x6, .none, 0, 0, 4, 0⟩,  -- DUSK
  ⟨0x5000, 256, 0x4, 1, .octets, 4, 4, .rw, true, 0x6, .none, 0, 0, 4, 0⟩,  -- DAWN
  ⟨0x5000, 256, 0x5, 1, .octets, 0, 256, .rw, true, 0x6, .none, 0, 0, 0, 0⟩]  -- STEPS

/-- Table 8.11. -/
def tab8_11 : List ObjRow := [
  ⟨0x6000, 4096, 0x30, 1, .u8, 1, 1, .rw, true, 0x76, .none, 0, 15, 1, 0⟩,  -- CTL_CLASS
  ⟨0x6000, 4096, 0x31, 1, .u8, 1, 1, .rw, true, 0x6, .none, 0, 15, 1, 0⟩,  -- SCHEDULE_GROUP
  ⟨0x6000, 4096, 0x32, 1, .u16, 2, 2, .ro, false, 0x0, .none, 0, 65535, 2, 0⟩,  -- LEVEL_TARGET
  ⟨0x6000, 4096, 0x33, 1, .u16, 2, 2, .ro, false, 0x0, .none, 0, 65535, 2, 0⟩,  -- LEVEL_COMMANDED
  ⟨0x6000, 4096, 0x34, 1, .u16, 2, 2, .ro, false, 0x0, .none, 0, 65535, 2, 0⟩,  -- LEVEL_REPORTED
  ⟨0x6000, 4096, 0x35, 1, .u16, 2, 2, .ro, false, 0x0, .none, 0, 65535, 2, 0⟩,  -- POWER_EXPECTED
  ⟨0x6000, 4096, 0x36, 1, .i16, 2, 2, .ro, false, 0x0, .none, (-32768), 32767, 2, 0⟩,  -- FOLLOW_ERROR
  ⟨0x6000, 4096, 0x37, 1, .u8, 1, 1, .ro, false, 0x0, .none, 0, 255, 1, 0⟩,  -- CTL_FLAGS
  ⟨0x6000, 4096, 0x38, 1, .u16, 2, 2, .ro, true, 0x0, .none, 0, 65535, 2, 0⟩,  -- FE_FAULTS
  ⟨0x6000, 4096, 0x39, 1, .octets, 16, 16, .ro, false, 0x0, .none, 0, 0, 16, 0⟩]  -- OBSERVER

/-- Table 9.9. -/
def tab9_9 : List ObjRow := [
  ⟨0x2600, 1, 0x1, 1, .u8, 1, 1, .rw, true, 0x6, .seal, 0, 255, 1, 0x32⟩,  -- NOMINAL_FREQ
  ⟨0x2600, 1, 0x2, 1, .u16, 2, 2, .rw, true, 0x6, .seal, 100, 400, 2, 0xE6⟩,  -- NOMINAL_VOLTAGE
  ⟨0x2600, 1, 0x3, 1, .u32, 4, 4, .rw, true, 0x6, .seal, 1000, 10000000, 4, 0xC350⟩,  -- V_FULL_SCALE
  ⟨0x2600, 1, 0x4, 1, .u32, 4, 4, .rw, true, 0x6, .seal, 1000, 100000000, 4, 0x30D40⟩,  -- I_FULL_SCALE
  ⟨0x2600, 1, 0x5, 1, .u16, 2, 2, .rw, true, 0x6, .seal, 0, 1023, 2, 0⟩,  -- INPUT_STYLE
  ⟨0x2600, 1, 0x6, 1, .u8, 1, 1, .rw, true, 0x6, .seal, 0, 255, 1, 0x14⟩,  -- MOD_CLK_FREQ
  ⟨0x2600, 1, 0x7, 1, .octets, 20, 20, .rw, true, 0x6, .seal, 0, 0, 20, 0⟩,  -- DELAY_ADJ
  ⟨0x2600, 1, 0x8, 1, .octets, 10, 10, .rw, true, 0x6, .seal, 0, 0, 10, 0x7D7D7D7D7D7D7D7D7D7D⟩,  -- SINC_RATIO
  ⟨0x2600, 1, 0x9, 1, .text, 0, 32, .rw, true, 0x6, .seal, 0, 0, 0, 0⟩,  -- FRONT_END_ID
  ⟨0x2600, 1, 0xA, 1, .u8, 1, 1, .wo, false, 0x2, .seal, 1, 1, 1, 0⟩,  -- ENERGY_RESET
  ⟨0x2600, 1, 0xB, 1, .u32, 4, 4, .ro, false, 0x0, .none, 0, 4294967295, 4, 0⟩,  -- METROLOGY_VERSION
  ⟨0x2600, 1, 0xC, 1, .u16, 2, 2, .rw, true, 0x6, .none, 1, 65535, 2, 0x32⟩,  -- N_CYCLES
  ⟨0x2600, 1, 0xD, 1, .u8, 1, 1, .rw, true, 0x6, .none, 10, 90, 1, 0x28⟩,  -- VOLTAGE_PRESENT
  ⟨0x2600, 1, 0xE, 1, .u16, 2, 2, .rw, true, 0x6, .none, 10, 2000, 2, 0x12C⟩,  -- MISSING_N_LEVEL
  ⟨0x2600, 1, 0xF, 1, .u32, 4, 4, .rw, true, 0x6, .none, 10, 1000000, 4, 0x1F4⟩,  -- CWV_CURRENT
  ⟨0x2600, 1, 0x10, 1, .u8, 1, 1, .rw, true, 0x6, .none, 2, 250, 1, 0xA⟩,  -- EVENT_CYCLES
  ⟨0x2600, 1, 0x11, 1, .octets, 24, 24, .ro, false, 0x0, .none, 0, 0, 24, 0⟩,  -- METER_COUNTERS
  ⟨0x2610, 1, 0x1, 4, .u64, 8, 8, .ro, true, 0x0, .none, 0, 18446744073709551615, 8, 0⟩,  -- ENERGY_IMPORT_TOTAL, ENERGY_IMPORT_P1 to _P3
  ⟨0x2610, 1, 0x5, 4, .u64, 8, 8, .ro, true, 0x0, .none, 0, 18446744073709551615, 8, 0⟩,  -- ENERGY_EXPORT_TOTAL, ENERGY_EXPORT_P1 to _P3
  ⟨0x2611, 1, 0x1, 8, .u64, 8, 8, .ro, true, 0x0, .none, 0, 18446744073709551615, 8, 0⟩,  -- REACTIVE_IMPORT_TOTAL to REACTIVE_EXPORT_P3
  ⟨0x2612, 1, 0x1, 1, .octets, 146, 146, .ro, false, 0x0, .none, 0, 0, 146, 0⟩,  -- LAST_LATCH
  ⟨0x2620, 1, 0x1, 1, .u32, 4, 4, .ro, false, 0x0, .none, 0, 4294967295, 4, 0⟩,  -- FREQUENCY
  ⟨0x2620, 1, 0x2, 1, .octets, 16, 16, .ro, false, 0x0, .none, 0, 0, 16, 0⟩,  -- VOLTAGE
  ⟨0x2620, 1, 0x3, 1, .octets, 16, 16, .ro, false, 0x0, .none, 0, 0, 16, 0⟩,  -- CURRENT
  ⟨0x2620, 1, 0x4, 1, .octets, 16, 16, .ro, false, 0x0, .none, 0, 0, 16, 0⟩,  -- ACTIVE_POWER
  ⟨0x2620, 1, 0x5, 1, .octets, 16, 16, .ro, false, 0x0, .none, 0, 0, 16, 0⟩,  -- REACTIVE_POWER
  ⟨0x2620, 1, 0x6, 1, .octets, 16, 16, .ro, false, 0x0, .none, 0, 0, 16, 0⟩,  -- APPARENT_POWER
  ⟨0x2620, 1, 0x7, 1, .octets, 8, 8, .ro, false, 0x0, .none, 0, 0, 8, 0⟩,  -- POWER_FACTOR
  ⟨0x2620, 1, 0x8, 1, .octets, 4, 4, .ro, false, 0x0, .none, 0, 0, 4, 0⟩,  -- PHASE_ANGLE
  ⟨0x2620, 1, 0x9, 1, .octets, 686, 686, .ro, false, 0x0, .none, 0, 0, 686, 0⟩,  -- HARMONICS
  ⟨0x2620, 1, 0xA, 1, .octets, 14, 14, .ro, false, 0x0, .none, 0, 0, 14, 0⟩,  -- THD
  ⟨0x2620, 1, 0xB, 1, .time80, 10, 10, .ro, false, 0x0, .none, 0, 0, 10, 0⟩,  -- CYCLE_END
  ⟨0x2620, 1, 0xC, 1, .u32, 4, 4, .ro, false, 0x0, .none, 0, 4294967295, 4, 0⟩,  -- CYCLE_SEQ
  ⟨0x2630, 1, 0x1, 1, .u8, 1, 1, .ro, false, 0x0, .none, 0, 255, 1, 0⟩,  -- EVENT_STATE
  ⟨0x2630, 1, 0x2, 3, .u32, 4, 4, .ro, true, 0x0, .none, 0, 4294967295, 4, 0⟩,  -- PHASE_SEQ_EVENTS, MISSING_N_EVENTS, CWV_EVENTS
  ⟨0x2640, 1, 0x1, 4, .u64, 8, 8, .ro, true, 0x0, .none, 0, 18446744073709551615, 8, 0⟩,  -- AH_I1, AH_I2, AH_I3, AH_IN
  ⟨0x2650, 1, 0x1, 1, .u16, 2, 2, .rw, true, 0x6, .none, 300, 3600, 2, 0x384⟩,  -- RECON_PERIOD
  ⟨0x2650, 1, 0x2, 1, .u16, 2, 2, .rw, true, 0x6, .none, 30, 3600, 2, 0xB4⟩,  -- RECON_DELAY
  ⟨0x2650, 1, 0x3, 1, .octets, 8, 8, .rw, true, 0x6, .none, 0, 0, 8, 0⟩,  -- CABLE_R
  ⟨0x2650, 1, 0x4, 1, .u16, 2, 2, .rw, true, 0x6, .none, 0, 10000, 2, 0x96⟩,  -- CABINET_LOAD
  ⟨0x2650, 1, 0x5, 1, .u8, 1, 1, .rw, true, 0x6, .none, 1, 3, 1, 1⟩,  -- CABINET_PHASE
  ⟨0x2650, 1, 0x6, 1, .u16, 2, 2, .rw, true, 0x6, .none, 10, 5000, 2, 0x12C⟩,  -- TOL_PCT
  ⟨0x2650, 1, 0x7, 1, .u16, 2, 2, .rw, true, 0x6, .none, 10, 100000, 2, 0xC8⟩,  -- TOL_ABS
  ⟨0x2650, 1, 0x8, 1, .u8, 1, 1, .rw, true, 0x6, .none, 50, 100, 1, 0x5A⟩,  -- MIN_COVERAGE
  ⟨0x2650, 1, 0x9, 1, .u8, 1, 1, .rw, true, 0x6, .none, 1, 96, 1, 4⟩,  -- PERSIST
  ⟨0x2650, 1, 0xA, 1, .octets, 50, 50, .ro, false, 0x0, .none, 0, 0, 50, 0⟩,  -- LAST_RESULT
  ⟨0x2650, 1, 0xB, 1, .u8, 1, 1, .ro, false, 0x0, .none, 0, 255, 1, 0⟩,  -- RECON_ALARM
  ⟨0x2660, 1, 0x1, 1, .octets, 48, 48, .ro, true, 0x0, .none, 0, 0, 48, 0⟩,  -- LAST_OUTAGE
  ⟨0x2660, 1, 0x2, 1, .u32, 4, 4, .ro, true, 0x0, .none, 0, 4294967295, 4, 0⟩]  -- OUTAGES

/-- Table 9.10. -/
def tab9_10 : List ObjRow := [
  ⟨0x6000, 4096, 0x60, 1, .u8, 1, 1, .rw, true, 0x6, .none, 0, 255, 1, 0⟩,  -- FEEDER_PHASE
  ⟨0x6000, 4096, 0x61, 1, .i32, 4, 4, .ro, false, 0x0, .none, (-2147483648), 2147483647, 4, 0⟩,  -- RECON_ENERGY
  ⟨0x6000, 4096, 0x62, 1, .u8, 1, 1, .ro, false, 0x0, .none, 0, 255, 1, 0⟩]  -- RECON_ESTIMATED

/-- Table 10.10. -/
def tab10_10 : List ObjRow := [
  ⟨0x2700, 1, 0x1, 1, .u16, 2, 2, .rw, true, 0x6, .none, 0, 65535, 2, 0x1F4⟩,  -- NOMINAL_RATE
  ⟨0x2700, 1, 0x2, 1, .u16, 2, 2, .rw, true, 0x6, .none, 0, 65535, 2, 0x7D0⟩,  -- DATA_RATE
  ⟨0x2700, 1, 0x3, 1, .u8, 1, 1, .rw, true, 0x6, .none, 60, 90, 1, 0x50⟩,  -- NOMINAL_SAMPLE
  ⟨0x2700, 1, 0x4, 1, .u8, 1, 1, .rw, true, 0x6, .none, 60, 90, 1, 0x4B⟩,  -- DATA_SAMPLE
  ⟨0x2700, 1, 0x5, 1, .u8, 1, 1, .rw, true, 0x6, .none, 0, 1, 1, 1⟩,  -- TIMETABLE_EN
  ⟨0x2700, 1, 0x6, 1, .u8, 1, 1, .rw, true, 0x6, .none, 0, 2, 1, 1⟩,  -- BELL_ROLE
  ⟨0x2700, 1, 0x7, 1, .u8, 1, 1, .rw, true, 0x6, .none, 0, 7, 1, 2⟩,  -- BELL_PRIORITY
  ⟨0x2700, 1, 0x8, 1, .u32, 4, 4, .rw, true, 0x6, .none, 0, 4294967295, 4, 0x2710⟩,  -- CYCLE_LEN
  ⟨0x2700, 1, 0x9, 1, .u8, 1, 1, .rw, true, 0x6, .none, 0, 255, 1, 1⟩,  -- CYCLE_COUNT
  ⟨0x2700, 1, 0xA, 1, .octets, 4, 128, .rw, true, 0x6, .none, 0, 0, 4, 0x640⟩,  -- COLUMNS
  ⟨0x2700, 1, 0xB, 1, .octets, 1, 2048, .rw, true, 0x6, .none, 0, 0, 1, 0x80⟩,  -- MATRIX
  ⟨0x2700, 1, 0xC, 1, .u16, 2, 2, .rw, true, 0x6, .none, 10, 1000, 2, 0x32⟩,  -- BELL_WAIT
  ⟨0x2700, 1, 0xD, 1, .u8, 1, 1, .rw, true, 0x6, .none, 0, 255, 1, 1⟩,  -- ENROL_OPEN
  ⟨0x2700, 1, 0xE, 1, .u8, 1, 1, .rw, true, 0x6, .none, 2, 10, 1, 3⟩,  -- MISS_LIMIT
  ⟨0x2700, 1, 0xF, 1, .u8, 1, 1, .rw, true, 0x2, .owner, 0, 255, 1, 0xFF⟩,  -- PAIR_KEY_SLOT
  ⟨0x2710, 2, 0x1, 1, .u8, 1, 1, .ro, false, 0x0, .none, 0, 255, 1, 0⟩,  -- BUS_STATE
  ⟨0x2710, 2, 0x2, 1, .u8, 1, 1, .ro, false, 0x0, .none, 0, 255, 1, 0xFF⟩,  -- BELL_MASTER
  ⟨0x2710, 2, 0x3, 1, .octets, 24, 24, .ro, false, 0x0, .none, 0, 0, 24, 0⟩,  -- BUS_COUNTERS
  ⟨0x2710, 2, 0x4, 1, .octets, 28, 28, .ro, false, 0x0, .none, 0, 0, 28, 0⟩]  -- BAD_FRAMES

/-- Table 10.11. -/
def tab10_11 : List ObjRow := [
  ⟨0x2781, 126, 0x1, 1, .octets, 8, 8, .rw, true, 0x6, .none, 0, 0, 8, 0⟩,  -- EUI64
  ⟨0x2781, 126, 0x2, 1, .octets, 16, 16, .wo, true, 0x6, .owner, 0, 0, 0, 0⟩,  -- ENROL_CODE
  ⟨0x2781, 126, 0x3, 1, .u8, 1, 1, .ro, true, 0x0, .none, 0, 255, 1, 0⟩,  -- STATE
  ⟨0x2781, 126, 0x4, 1, .u8, 1, 1, .ro, false, 0x0, .none, 0, 255, 1, 0⟩,  -- PRESENCE
  ⟨0x2781, 126, 0x5, 1, .u16, 2, 2, .ro, true, 0x0, .none, 0, 65535, 2, 0⟩,  -- HW_TYPE
  ⟨0x2781, 126, 0x6, 1, .u8, 1, 1, .ro, true, 0x0, .none, 0, 255, 1, 0⟩,  -- KEY_GEN
  ⟨0x2781, 126, 0x7, 1, .time80, 10, 10, .ro, false, 0x0, .none, 0, 0, 10, 0⟩,  -- LAST_SEEN
  ⟨0x2781, 126, 0x8, 1, .u16, 2, 2, .ro, true, 0x0, .none, 0, 65535, 2, 0⟩]  -- ANNOUNCE_COUNTER

/-- Table 11.6. -/
def tab11_6 : List ObjRow := [
  ⟨0x2800, 1, 0x1, 1, .u8, 1, 1, .rw, true, 0x2, .none, 0, 255, 1, 1⟩,  -- RING_MODE
  ⟨0x2800, 1, 0x2, 1, .octets, 6, 6, .ro, false, 0x0, .none, 0, 0, 6, 0⟩,  -- HOST_MAC
  ⟨0x2800, 1, 0x3, 1, .octets, 0, 32, .rw, true, 0x6, .none, 0, 0, 0, 0⟩,  -- HOST_ADDRESSES
  ⟨0x2800, 1, 0x4, 1, .octets, 4, 4, .rw, true, 0x6, .none, 0, 0, 4, 0⟩,  -- GATEWAY
  ⟨0x2800, 1, 0x5, 1, .octets, 0, 32, .rw, true, 0x6, .none, 0, 0, 0, 0⟩,  -- MAINT_ADDRESS
  ⟨0x2800, 1, 0x6, 1, .u8, 1, 1, .rw, true, 0x6, .none, 0, 7, 1, 5⟩,  -- HOST_PCP
  ⟨0x2800, 1, 0x7, 1, .u16, 2, 2, .rw, true, 0x6, .none, 5, 3600, 2, 0x1E⟩,  -- LLDP_INTERVAL
  ⟨0x2800, 1, 0x8, 1, .u8, 1, 1, .rw, true, 0x2, .none, 0, 255, 1, 0⟩,  -- HSR_SUP_ADDR
  ⟨0x2800, 1, 0x9, 1, .u8, 1, 1, .rw, true, 0x6, .none, 0, 255, 1, 0⟩,  -- ALLOW_OTHER_OPTICS
  ⟨0x2800, 1, 0xA, 1, .u32, 4, 4, .ro, false, 0x0, .none, 0, 4294967295, 4, 0⟩,  -- DUP_EVICT
  ⟨0x2800, 1, 0xB, 1, .u8, 1, 1, .ro, false, 0x0, .none, 0, 255, 1, 0⟩,  -- RING_STATE
  ⟨0x2800, 1, 0xC, 1, .u8, 1, 1, .rw, true, 0x6, .none, 0, 255, 1, 1⟩,  -- MAINT_ENABLE
  ⟨0x2810, 3, 0x1, 1, .u8, 1, 1, .ro, false, 0x0, .none, 0, 255, 1, 0⟩,  -- LINK
  ⟨0x2810, 3, 0x2, 1, .octets, 96, 96, .ro, false, 0x0, .none, 0, 0, 96, 0⟩,  -- OPTIC_ID
  ⟨0x2810, 3, 0x3, 1, .octets, 10, 10, .ro, false, 0x0, .none, 0, 0, 10, 0⟩,  -- OPTIC_DIAG
  ⟨0x2810, 3, 0x4, 1, .octets, 64, 64, .ro, false, 0x0, .none, 0, 0, 64, 0⟩,  -- PORT_COUNTERS
  ⟨0x2810, 3, 0x5, 1, .octets, 40, 40, .ro, false, 0x0, .none, 0, 0, 40, 0⟩]  -- NEIGHBOUR

/-- Table 12.2. -/
def tab12_2 : List ObjRow := [
  ⟨0x2900, 1, 0x1, 1, .u8, 1, 1, .rw, true, 0x6, .none, 0, 255, 1, 0⟩,  -- LOCAL_OWNER
  ⟨0x2900, 1, 0x2, 1, .u8, 1, 1, .rw, true, 0x7E, .none, 0, 255, 1, 0xFF⟩,  -- SINK_SCALE
  ⟨0x2900, 1, 0x3, 1, .u8, 1, 1, .rw, true, 0x6, .none, 80, 130, 1, 0x6E⟩,  -- SINK_KNEE
  ⟨0x2900, 1, 0x4, 1, .u16, 2, 2, .rw, true, 0x6, .none, 300, 3000, 2, 0x384⟩,  -- HDRM_TARGET
  ⟨0x2900, 1, 0x5, 1, .octets, 4, 4, .rw, true, 0x6, .none, 0, 0, 4, 0xFFF0000⟩,  -- HDRM_FB_LIMITS
  ⟨0x2900, 1, 0x6, 1, .u8, 1, 1, .rw, true, 0x6, .none, 0, 1, 1, 0⟩,  -- HDRM_POLARITY
  ⟨0x2910, 24, 0x1, 1, .u8, 1, 1, .rw, true, 0x7E, .none, 0, 2, 1, 0⟩,  -- CH_MODE
  ⟨0x2910, 24, 0x2, 1, .u16, 2, 2, .rw, true, 0x7E, .none, 0, 4095, 2, 0⟩,  -- CH_SETTING
  ⟨0x2910, 24, 0x3, 1, .u8, 1, 1, .rw, true, 0x6, .none, 0, 15, 1, 0⟩,  -- CH_GROUP
  ⟨0x2910, 24, 0x4, 1, .u32, 4, 4, .ro, false, 0x0, .none, 0, 4294967295, 4, 0⟩,  -- CH_CURRENT
  ⟨0x2910, 24, 0x5, 1, .u16, 2, 2, .ro, false, 0x0, .none, 0, 65535, 2, 0⟩,  -- CH_HEADROOM
  ⟨0x2910, 24, 0x6, 1, .u8, 1, 1, .ro, false, 0x0, .none, 0, 255, 1, 0⟩,  -- CH_FLAGS
  ⟨0x2910, 24, 0x7, 1, .u8, 1, 1, .wo, false, 0x9FE, .none, 1, 1, 1, 0⟩,  -- CH_OC_CLEAR
  ⟨0x2940, 2, 0x1, 1, .u8, 1, 1, .rw, true, 0x7E, .none, 0, 2, 1, 0⟩,  -- HAL_MODE
  ⟨0x2940, 2, 0x2, 1, .u16, 2, 2, .rw, true, 0x6, .none, 1, 512, 2, 0x200⟩,  -- HAL_COUNT
  ⟨0x2940, 2, 0x3, 1, .u16, 2, 2, .rw, true, 0x6, .none, 80, 65535, 2, 0x50⟩,  -- HAL_GAP
  ⟨0x2940, 2, 0x4, 1, .u8, 1, 1, .rw, true, 0x6, .none, 0, 15, 1, 0⟩,  -- HAL_GROUP
  ⟨0x2940, 2, 0x5, 1, .octets, 0, 3072, .rw, true, 0x7E, .none, 0, 0, 0, 0⟩,  -- HAL_LEVELS
  ⟨0x2940, 2, 0x6, 1, .u32, 4, 4, .ro, false, 0x0, .none, 0, 4294967295, 4, 0⟩]  -- HAL_FRAMES

/-- Table 13.5. -/
def tab13_5 : List ObjRow := [
  ⟨0x2A00, 1, 0x1, 1, .u8, 1, 1, .ro, true, 0x0, .none, 0, 255, 1, 0⟩,  -- CAL_STATE
  ⟨0x2A00, 1, 0x2, 1, .octets, 32, 32, .ro, false, 0x0, .none, 0, 0, 32, 0⟩,  -- LAST_STEP
  ⟨0x2A00, 1, 0x3, 1, .octets, 32, 32, .ro, false, 0x0, .none, 0, 0, 32, 0⟩,  -- CAL_COUNTERS
  ⟨0x2A00, 1, 0x4, 1, .u8, 1, 1, .rw, true, 0x6, .none, 0, 255, 1, 0x1E⟩,  -- FUNCTIONS
  ⟨0x2A10, 1, 0x1, 1, .u8, 1, 1, .rw, true, 0x6, .seal, 0, 1, 1, 1⟩,  -- ROTATION_EN
  ⟨0x2A10, 1, 0x2, 1, .u16, 2, 2, .rw, true, 0x6, .seal, 300, 65535, 2, 0x384⟩,  -- ROTATION_PERIOD
  ⟨0x2A10, 1, 0x3, 1, .u8, 1, 1, .rw, true, 0x6, .seal, 50, 255, 1, 0xFA⟩,  -- COMPARE_CYCLES
  ⟨0x2A10, 1, 0x4, 1, .u16, 2, 2, .rw, true, 0x6, .seal, 1, 100, 2, 5⟩,  -- SWAP_LIMIT
  ⟨0x2A10, 1, 0x5, 1, .u16, 2, 2, .rw, true, 0x6, .seal, 1, 50, 2, 2⟩,  -- SLEW_LIMIT
  ⟨0x2A10, 1, 0x6, 1, .u16, 2, 2, .rw, true, 0x6, .seal, 50, 5000, 2, 0x1F4⟩,  -- MATCH_LIMIT
  ⟨0x2A10, 1, 0x7, 1, .u16, 2, 2, .rw, true, 0x6, .seal, 50, 300, 2, 0xFA⟩,  -- REF_LEVEL
  ⟨0x2A10, 1, 0x8, 1, .u8, 1, 1, .rw, true, 0x6, .seal, 1, 50, 1, 5⟩,  -- COMPARE_MIN
  ⟨0x2A10, 1, 0x9, 1, .octets, 8, 8, .ro, true, 0x0, .none, 0, 0, 8, 0⟩,  -- REF_VALUE
  ⟨0x2A10, 1, 0xA, 1, .u16, 2, 2, .wo, false, 0x6, .seal, 0, 65535, 2, 0⟩,  -- CHANNEL_CLEAR
  ⟨0x2A20, 10, 0x1, 1, .octets, 12, 12, .ro, true, 0x0, .none, 0, 0, 12, 0x40000000⟩,  -- CORR
  ⟨0x2A20, 10, 0x2, 1, .time80, 10, 10, .ro, true, 0x0, .none, 0, 0, 10, 0⟩,  -- CAL_TIME
  ⟨0x2A20, 10, 0x3, 1, .u8, 1, 1, .ro, true, 0x0, .none, 0, 255, 1, 0⟩,  -- CHANNEL_STATE
  ⟨0x2A20, 10, 0x4, 1, .i32, 4, 4, .ro, true, 0x0, .none, (-2147483648), 2147483647, 4, 0⟩,  -- DRIFT
  ⟨0x2A30, 1, 0x1, 1, .u16, 2, 2, .rw, true, 0x6, .none, 10, 1000, 2, 0xC8⟩,  -- RTC_REFIT_LIMIT
  ⟨0x2A30, 1, 0x2, 1, .octets, 66, 66, .ro, true, 0x0, .none, 0, 0, 66, 0⟩,  -- RTC_SAMPLES
  ⟨0x2A40, 1, 0x1, 1, .u16, 2, 2, .rw, true, 0x6, .none, 50, 1000, 2, 0x12C⟩,  -- FREQ_LIMIT
  ⟨0x2A40, 1, 0x2, 1, .octets, 16, 16, .ro, false, 0x0, .none, 0, 0, 16, 0⟩,  -- RAD_PPM
  ⟨0x2A50, 1, 0x1, 1, .u16, 2, 2, .rw, true, 0x6, .none, 1, 168, 2, 0x18⟩,  -- TRAFFIC_WINDOW
  ⟨0x2A50, 1, 0x2, 1, .u16, 2, 2, .rw, true, 0x6, .none, 20, 65535, 2, 0xC8⟩,  -- MIN_MATCHES
  ⟨0x2A50, 1, 0x3, 1, .u8, 1, 1, .rw, true, 0x6, .none, 128, 255, 1, 0xF2⟩]  -- MATCH_SPLIT

/-- Table 13.6. -/
def tab13_6 : List ObjRow := [
  ⟨0x6000, 4096, 0x40, 1, .i16, 2, 2, .ro, false, 0x0, .none, (-32768), 32767, 2, 0⟩,  -- FREQ_OFFSET
  ⟨0x6000, 4096, 0x41, 1, .i16, 2, 2, .ro, true, 0x0, .none, (-32768), 32767, 2, 0⟩,  -- FREQ_TREND
  ⟨0x6000, 4096, 0x42, 1, .u16, 2, 2, .ro, true, 0x0, .none, 0, 65535, 2, 0⟩,  -- EFFICIENCY
  ⟨0x6000, 4096, 0x43, 1, .u32, 4, 4, .ro, true, 0x0, .none, 0, 4294967295, 4, 0⟩,  -- EFF_MATCHES
  ⟨0x6000, 4096, 0x44, 1, .u8, 1, 1, .ro, false, 0x0, .none, 0, 255, 1, 0⟩]  -- CAL_FLAGS

/-- Table 14.10. -/
def tab14_10 : List ObjRow := [
  ⟨0x2B00, 1, 0x1, 1, .octets, 4096, 4096, .ro, false, 0x0, .none, 0, 0, 4096, 0⟩,  -- SLOT_TABLE
  ⟨0x2B00, 1, 0x2, 1, .octets, 24, 24, .ro, false, 0x0, .none, 0, 0, 24, 0⟩,  -- KEY_COUNTERS
  ⟨0x2B01, 1, 0x1, 1, .octets, 97, 97, .rw, true, 0x6, .owner, 0, 0, 97, 0⟩,  -- PARTNER_AGREE_PUB
  ⟨0x2B01, 1, 0x2, 1, .octets, 97, 97, .ro, true, 0x0, .none, 0, 0, 97, 0⟩,  -- AGREE_PUB
  ⟨0x2B02, 1, 0x1, 1, .octets, 44, 300, .wo, false, 0x80, .none, 0, 0, 0, 0⟩,  -- KEY_IMPORT
  ⟨0x2B03, 1, 0x1, 1, .octets, 20, 117, .wo, false, 0x6, .none, 0, 0, 0, 0⟩,  -- KEY_COMMAND
  ⟨0x2B04, 1, 0x1, 1, .octets, 0, 2048, .ro, true, 0x0, .none, 0, 0, 0, 0⟩]  -- DEVICE_CERT

/-- Table 15.6. -/
def tab15_6 : List ObjRow := [
  ⟨0x2C00, 1, 0x1, 1, .u8, 1, 1, .ro, true, 0x0, .none, 0, 255, 1, 0⟩,  -- UPDATE_STATE
  ⟨0x2C00, 1, 0x2, 1, .octets, 672, 2720, .rw, true, 0x76, .owner, 0, 0, 0, 0⟩,  -- MANIFEST
  ⟨0x2C00, 1, 0x3, 1, .octets, 9, 65536, .wo, false, 0x76, .none, 0, 0, 0, 0⟩,  -- STAGE_BLOCK
  ⟨0x2C00, 1, 0x4, 1, .octets, 0, 160, .ro, true, 0x0, .none, 0, 0, 0, 0⟩,  -- STAGE_PROGRESS
  ⟨0x2C00, 1, 0x5, 1, .u8, 1, 1, .wo, false, 0x6, .owner, 0, 255, 1, 0⟩,  -- ACTIVATE
  ⟨0x2C00, 1, 0x6, 1, .u8, 1, 1, .wo, false, 0x176, .none, 1, 1, 1, 0⟩,  -- ABORT
  ⟨0x2C00, 1, 0x7, 1, .u16, 2, 2, .rw, true, 0x6, .none, 60, 3600, 2, 0x384⟩,  -- PROBATION_TIME
  ⟨0x2C00, 1, 0x8, 1, .u8, 1, 1, .rw, true, 0x6, .none, 0, 255, 1, 0⟩,  -- REQUIRE_INTEGRATOR
  ⟨0x2C00, 1, 0x9, 1, .u8, 1, 1, .wo, false, 0x1FE, .none, 1, 1, 1, 0⟩,  -- INTEGRATOR_HEALTH
  ⟨0x2C00, 1, 0xA, 1, .u8, 1, 1, .rw, true, 0x6, .none, 0, 255, 1, 1⟩,  -- BATTERY_FITTED
  ⟨0x2C00, 1, 0xB, 1, .u8, 1, 1, .rw, false, 0x3FE, .none, 0, 255, 1, 0xFF⟩,  -- BATTERY_SOC
  ⟨0x2C00, 1, 0xC, 1, .u16, 2, 2, .wo, false, 0x6, .seal, 0, 1440, 2, 0⟩,  -- SEAL_OPEN
  ⟨0x2C00, 1, 0xD, 1, .u8, 1, 1, .ro, false, 0x0, .none, 0, 255, 1, 0⟩,  -- LAST_REFUSAL
  ⟨0x2C00, 1, 0xE, 1, .octets, 48, 48, .ro, true, 0x0, .none, 0, 0, 48, 0⟩,  -- ACTIVE_SET
  ⟨0x2C00, 1, 0xF, 1, .u32, 4, 4, .ro, true, 0x0, .none, 0, 4294967295, 4, 0⟩,  -- REJECTED_SEQ
  ⟨0x2C00, 1, 0x10, 1, .octets, 24, 24, .ro, false, 0x0, .none, 0, 0, 24, 0⟩,  -- UPD_COUNTERS
  ⟨0x2C10, 1, 0x1, 1, .u8, 1, 1, .rw, true, 0x6, .none, 0, 255, 1, 1⟩,  -- DIST_ENABLE
  ⟨0x2C10, 1, 0x2, 1, .u8, 1, 1, .rw, true, 0x6, .none, 1, 64, 1, 0x10⟩,  -- DIST_CONCURRENT
  ⟨0x2C10, 1, 0x3, 1, .u8, 1, 1, .rw, true, 0x6, .none, 16, 240, 1, 0x30⟩,  -- BLOCK_SIZE
  ⟨0x2C10, 1, 0x4, 1, .u8, 1, 1, .rw, true, 0x6, .none, 0, 255, 1, 1⟩,  -- LANTERN_AUTO
  ⟨0x2C10, 1, 0x5, 1, .u16, 2, 2, .wo, false, 0x4, .owner, 0, 65535, 2, 0⟩,  -- LANTERN_ACTIVATE
  ⟨0x2C10, 1, 0x6, 1, .u8, 1, 1, .rw, true, 0x6, .none, 1, 64, 1, 8⟩]  -- ACT_BATCH

/-- Table 15.7. -/
def tab15_7 : List ObjRow := [
  ⟨0x6000, 4096, 0x50, 1, .u8, 1, 1, .ro, true, 0x0, .none, 0, 255, 1, 0⟩,  -- IMAGE_STATE
  ⟨0x6000, 4096, 0x51, 1, .u32, 4, 4, .ro, true, 0x0, .none, 0, 4294967295, 4, 0⟩,  -- IMAGE_TAG
  ⟨0x6000, 4096, 0x52, 1, .u32, 4, 4, .ro, false, 0x0, .none, 0, 4294967295, 4, 0⟩,  -- BLOCKS_HELD
  ⟨0x6000, 4096, 0x53, 1, .time80, 10, 10, .ro, true, 0x0, .none, 0, 0, 10, 0⟩]  -- IMAGE_ACTIVATED_AT

/-- Table 16.5. -/
def tab16_5 : List ObjRow := [
  ⟨0x2D00, 1, 0x1, 1, .u32, 4, 4, .ro, false, 0x0, .none, 0, 4294967295, 4, 0⟩,  -- LOG_COUNT
  ⟨0x2D00, 1, 0x2, 1, .u32, 4, 4, .ro, false, 0x0, .none, 0, 4294967295, 4, 0⟩,  -- NEXT_SEQ
  ⟨0x2D00, 1, 0x3, 1, .u32, 4, 4, .ro, false, 0x0, .none, 0, 4294967295, 4, 0⟩,  -- LAST_SEQ
  ⟨0x2D00, 1, 0x4, 1, .u32, 4, 4, .ro, true, 0x0, .none, 0, 4294967295, 4, 0⟩,  -- DROPPED
  ⟨0x2D00, 1, 0x5, 1, .u32, 4, 4, .wo, false, 0x6, .owner, 0, 4294967295, 4, 0⟩,  -- LOG_CLEAR
  ⟨0x2D00, 1, 0x6, 1, .u8, 1, 1, .rw, true, 0x6, .none, 50, 99, 1, 0x5A⟩,  -- HIGH_WATER
  ⟨0x2D00, 1, 0x7, 1, .u32, 4, 4, .rw, false, 0x9FE, .none, 0, 262143, 4, 0⟩,  -- READ_INDEX
  ⟨0x2D00, 1, 0x8, 1, .octets, 0, 65536, .ro, false, 0x0, .none, 0, 0, 0, 0⟩,  -- RECORDS
  ⟨0x2D00, 1, 0x9, 1, .octets, 16, 16, .ro, false, 0x0, .none, 0, 0, 16, 0⟩,  -- EVR_COUNTERS
  ⟨0x2D01, 1, 0x1, 1, .octets, 12, 12, .wo, false, 0x9FE, .none, 0, 0, 12, 0⟩]  -- INTEGRATOR_EVENT

/-- Table 17.7. -/
def tab17_7 : List ObjRow := [
  ⟨0x2E00, 1, 0x1, 1, .u32, 4, 4, .ro, false, 0x0, .none, 0, 4294967295, 4, 0⟩,  -- HOIST
  ⟨0x2E00, 1, 0x2, 1, .u32, 4, 4, .wo, false, 0x9FE, .none, 0, 4294967295, 4, 0⟩,  -- HOIST_CLEAR
  ⟨0x2E00, 1, 0x3, 1, .u8, 1, 1, .ro, false, 0x0, .none, 0, 255, 1, 1⟩,  -- GUARANTEE
  ⟨0x2E00, 1, 0x4, 1, .u32, 4, 4, .ro, false, 0x0, .none, 0, 4294967295, 4, 0⟩,  -- HOIST_ACTIVE
  ⟨0x2E00, 1, 0x5, 1, .octets, 24, 24, .ro, true, 0x0, .none, 0, 0, 24, 0⟩,  -- PROOF_RESULT
  ⟨0x2E00, 1, 0x6, 1, .u8, 1, 1, .rw, true, 0x6, .owner, 0, 1, 1, 0⟩,  -- LIVE_DRILL_EN
  ⟨0x2E00, 1, 0x7, 1, .octets, 24, 24, .ro, true, 0x0, .none, 0, 0, 24, 0⟩,  -- FAULT_COUNTERS
  ⟨0x2E00, 1, 0x8, 1, .octets, 16, 16, .wo, false, 0x802, .owner, 0, 0, 16, 0⟩,  -- DEBUG_UNLOCK
  ⟨0x2E00, 1, 0x9, 1, .u8, 1, 1, .rw, true, 0x6, .none, 0, 1, 1, 1⟩,  -- PROOF_AUTO
  ⟨0x2E00, 1, 0xA, 1, .u32, 4, 4, .rw, true, 0x6, .none, 0, 86399, 4, 0x8CA0⟩,  -- PROOF_TIME
  ⟨0x2E10, 1, 0x1, 1, .octets, 8, 8, .wo, false, 0x804, .owner, 0, 0, 8, 0⟩]  -- DRILL_COMMAND

end Obj

/-- Does the row hold the object? -/
def ObjRow.covers (r : ObjRow) (idx sub : Nat) : Bool :=
  Nat.ble r.idx idx && Nat.blt idx (r.idx + r.idxCount) && Nat.ble r.sub sub && Nat.blt sub (r.sub + r.subCount)

/-- Table 3.1: the tables of each index range. -/
def Obj.tables (idx : Nat) : List ObjRow :=
  if Nat.ble 0x1000 idx && Nat.ble idx 0x1fff then Obj.tab3_13 else
  if Nat.ble 0x2000 idx && Nat.ble idx 0x20ff then Obj.tab2_5 else
  if Nat.ble 0x2100 idx && Nat.ble idx 0x21ff then Obj.tab4_6 else
  if Nat.ble 0x2200 idx && Nat.ble idx 0x23ff then Obj.tab5_15 else
  if Nat.ble 0x2400 idx && Nat.ble idx 0x24ff then Obj.tab7_7 else
  if Nat.ble 0x2500 idx && Nat.ble idx 0x25ff then Obj.tab8_8 ++ Obj.tab8_9 ++ Obj.tab8_10 else
  if Nat.ble 0x2600 idx && Nat.ble idx 0x26ff then Obj.tab9_9 else
  if Nat.ble 0x2700 idx && Nat.ble idx 0x27ff then Obj.tab10_10 ++ Obj.tab10_11 else
  if Nat.ble 0x2800 idx && Nat.ble idx 0x28ff then Obj.tab11_6 else
  if Nat.ble 0x2900 idx && Nat.ble idx 0x29ff then Obj.tab12_2 else
  if Nat.ble 0x2a00 idx && Nat.ble idx 0x2aff then Obj.tab13_5 else
  if Nat.ble 0x2b00 idx && Nat.ble idx 0x2bff then Obj.tab14_10 else
  if Nat.ble 0x2c00 idx && Nat.ble idx 0x2cff then Obj.tab15_6 else
  if Nat.ble 0x2d00 idx && Nat.ble idx 0x2dff then Obj.tab16_5 else
  if Nat.ble 0x2e00 idx && Nat.ble idx 0x2fff then Obj.tab17_7 else
  if Nat.ble 0x5000 idx && Nat.ble idx 0x50ff then Obj.tab8_10 else
  if Nat.ble 0x6000 idx && Nat.ble idx 0x6fff then Obj.tab6_14 ++ Obj.tab7_8 ++ Obj.tab8_11 ++ Obj.tab9_10 ++ Obj.tab13_6 ++ Obj.tab15_7 else
  if Nat.ble 0x7000 idx && Nat.ble idx 0x70ff then Obj.tab6_15 else
  []

/-- The row of an object defined by the manual, if its group holds the subindex (R79, R80). -/
def Obj.find (idx sub : Nat) : Option ObjRow := (Obj.tables idx).find? (fun r => r.covers idx sub)

/-- R79: the highest subindex of a group; 0 where the index is absent. -/
def Obj.highest (idx : Nat) : Nat :=
  (Obj.tables idx).foldl (fun m r =>
    if Nat.ble r.idx idx && Nat.blt idx (r.idx + r.idxCount) then max m (r.sub + r.subCount - 1) else m) 0

/-- An object's key in the value store: index × 256 + subindex. -/
def Obj.key (idx sub : Nat) : Nat := idx * 256 + sub

end Sys2Proof.Machine
end

