-- ==== Sys2Proof/Machine/Ops.lean ====
section
/-! DEFINITION. The named operations over the state: registers, objects, memory, the bus error flags, the event record and the
hoist, the modes, and the free values. -/

namespace Sys2Proof.Machine

/-! ## Registers, objects and memory -/

/-- The value the register store holds at an address. -/
def State.rd (s : State) (a : Nat) : Word := Sparse.get Reg.reset s.regs a

/-- The register store with a value at an address. -/
def State.wr (s : State) (a : Nat) (v : Word) : State := { s with regs := Sparse.set Reg.reset s.regs a v }

/-- A field of a register. -/
def State.rdF (s : State) (a hi lo : Nat) : Nat := fld (s.rd a) hi lo

/-- A register with one field replaced. -/
def State.wrF (s : State) (a hi lo v : Nat) : State := s.wr a (setFld (s.rd a) hi lo v)

/-- A bit of a register. -/
def State.rdB (s : State) (a i : Nat) : Bool := bit (s.rd a) i

/-- A register with one bit replaced. -/
def State.wrB (s : State) (a i : Nat) (b : Bool) : State := s.wr a (putBit (s.rd a) i b)

/-- A register with a number in all 32 bits. -/
def State.wrN (s : State) (a v : Nat) : State := s.wr a (BitVec.ofNat 32 v)

/-- A 32-bit counter register advanced by n; it wraps. -/
def State.bump (s : State) (a n : Nat) : State := s.wr a (s.rd a + BitVec.ofNat 32 n)

/-- Table 2.5, Tables 6.14 to 7.8 and the others: the bytes an object holds before anything is written to it. The cohorts'
key slots default to 16 + 2c and 17 + 2c (Table 6.15). -/
def Obj.default (k : Nat) : List Byte :=
  match Obj.find (k / 256) (k % 256) with
  | none => []
  | some r =>
    if Nat.beq (r.idx) 0x7001 && (Nat.beq (k % 256) 3 || Nat.beq (k % 256) 4) then
      [BitVec.ofNat 8 (r.defVal + 2 * (k / 256 - 0x7001))]
    else toLE r.defLen r.defVal

/-- An object's value. -/
def State.obj (s : State) (idx sub : Nat) : List Byte := Sparse.get Obj.default s.objs (Obj.key idx sub)

/-- R85: is an object of the manual stored? -/
def Obj.stored (k : Nat) : Bool :=
  match Obj.find (k / 256) (k % 256) with
  | some r => r.stored
  | none => false

/-- R85: a stored object's older copy and its backup that comes due. -/
def State.persist (s : State) (k : Nat) (old : List Byte) : State :=
  { s with dict := { s.dict with older := Sparse.insert k old s.dict.older,
                                 backupDue := if s.dict.backupDue.contains k then s.dict.backupDue else s.dict.backupDue ++ [k] } }

/-- R85: an object's value replaced; of a stored one, whoever writes it, the value replaced becomes the older copy and a backup comes due. -/
def State.setObj (s : State) (idx sub : Nat) (v : List Byte) : State :=
  { s with objs := Sparse.set Obj.default s.objs (Obj.key idx sub) v,
           dict := if Obj.stored (Obj.key idx sub) then (s.persist (Obj.key idx sub) (s.obj idx sub)).dict else s.dict }

/-- An object's value as a number. -/
def State.objN (s : State) (idx sub : Nat) : Nat := fromLE (s.obj idx sub)

/-- An object's value as a signed number of w bits. -/
def State.objI (s : State) (idx sub w : Nat) : Int := sx w (s.objN idx sub)

/-- An object's value replaced by a number of n bytes. -/
def State.setObjN (s : State) (idx sub n v : Nat) : State := s.setObj idx sub (toLE n v)

/-- An object that counts, of n bytes, advanced by 1; it wraps. -/
def State.bumpObj (s : State) (idx sub n : Nat) : State := s.setObjN idx sub n (s.objN idx sub + 1)

/-- The k-th U32 of an object that holds several counters, advanced by n; it wraps. -/
def State.bumpU32 (s : State) (idx sub k n : Nat) : State :=
  let v := s.obj idx sub
  let w := v ++ List.replicate (4 * k + 4 - v.length) 0
  s.setObj idx sub (w.take (4 * k) ++ toLE 4 (leAt v (4 * k) 4 + n) ++ w.drop (4 * k + 4))

/-- A byte of memory that nothing has written reads 0 (log entry 6). -/
def Mem.default (_ : Nat) : Byte := 0

/-- The byte at a memory address. -/
def State.rdMem (s : State) (a : Nat) : Byte := Sparse.get Mem.default s.mem a

/-- n bytes of memory from an address. -/
def State.readMem (s : State) (a : Nat) : Nat → List Byte
  | 0 => []
  | n + 1 => s.rdMem a :: s.readMem (a + 1) n

/-- Memory with bytes written from an address. -/
def State.writeMem (s : State) (a : Nat) (bs : List Byte) : State := { s with mem := Sparse.setMany Mem.default s.mem a bs }

/-- The canonical form of memory. -/
def Memory.wf (m : List Host.Cell) : Bool := Sparse.wf Mem.default m

/-- A little-endian number of n bytes in memory (R6). -/
def State.memN (s : State) (a n : Nat) : Nat := fromLE (s.readMem a n)

/-- A little-endian number of n bytes written to memory (R6). -/
def State.setMemN (s : State) (a n v : Nat) : State := s.writeMem a (toLE n v)

/-- A value the spec leaves open, and the state that has used it (log entry 2). -/
def State.free (s : State) : Nat × State := (Config.freeNat s.freeIx, { s with freeIx := s.freeIx + 1 })

/-- A quotient whose rounding the spec does not state: exact where it divides, else one of the two whole numbers around it,
left open (log entry 2). -/
def State.openDiv (s : State) (num : Int) (den : Nat) : Int × State :=
  if num % (den : Int) = 0 then (num / (den : Int), s)
  else
    let (f, s1) := s.free
    (num / (den : Int) + ((f % 2 : Nat) : Int), s1)

/-! ## Modes -/

/-- Table 2.1: a mode's code; 0xFF before the first mode decision (R40). -/
def Mode.code : Mode → Nat
  | .provision => 0 | .commission => 1 | .day => 2 | .transition => 3 | .nightScheduled => 4 | .nightFollowing => 5
  | .islanded => 6 | .standby => 7 | .activation => 8 | .batteryWatch => 9 | .deepSleep => 10 | .drill => 11
  | .starting => 0xFF

/-- Table 2.1: does core 3 run in the mode? -/
def Mode.core3Runs : Mode → Bool
  | .provision | .batteryWatch | .deepSleep | .starting => false
  | _ => true

/-- Does a set of mode codes, bit m for code m, hold the mode in force? -/
def State.inModes (s : State) (mask : Nat) : Bool := Nat.testBit mask s.mode.mode.code

/-- R45: a lighting phase's code. -/
def Phase.code : Phase → Nat
  | .day => 0 | .dusk => 1 | .night => 2 | .dawn => 3

/-- R54: is the module in DRILL (11)? -/
def State.inDrill (s : State) : Bool := decide (s.mode.mode = .drill)

/-! ## Clocks -/

/-- The RTC's calendar time, from its registers (R139). -/
def State.civil (s : State) : Civil :=
  { year := s.rdF Reg.AON_RTC_YEAR 7 0, month := s.rdF Reg.AON_RTC_MONTH 3 0, day := s.rdF Reg.AON_RTC_DAY 4 0,
    hour := s.rdF Reg.AON_RTC_HOUR 4 0, min := s.rdF Reg.AON_RTC_MIN 5 0, sec := s.rdF Reg.AON_RTC_SEC 5 0 }

/-- The RTC's registers set to a calendar time, with the weekday that follows the date (R139). -/
def State.setCivil (s : State) (c : Civil) : State :=
  ((((((s.wrN Reg.AON_RTC_YEAR c.year).wrN Reg.AON_RTC_MONTH c.month).wrN Reg.AON_RTC_DAY c.day).wrN
    Reg.AON_RTC_HOUR c.hour).wrN Reg.AON_RTC_MIN c.min).wrN Reg.AON_RTC_SEC c.sec).wrN Reg.AON_RTC_WEEKDAY c.weekday

/-- Table 4.13: AON_RTC_TICK: the tick of 1/32,768 s within the second. -/
def State.rtcTick (s : State) : Nat := min 32767 (s.rtc.subNs * 32768 / 1000000000)

/-- R142: AON_RTC_TALLY: the compensated ticks since HALT took effect; it saturates. -/
def State.rtcTally (s : State) : Nat := min 0xFFFFFFFF (s.rtc.tallyNs * 32768 / 1000000000)

/-- R139, R142: d ns pass for the RTC: within its second, or in TALLY while it is halted. -/
def RtcState.pass (r : RtcState) (halted : Bool) (d : Nat) : RtcState :=
  if halted then { r with tallyNs := r.tallyNs + d } else { r with subNs := r.subNs + d }

/-- R443: an event's time from the RTC: UTC seconds since 1970 plus UTC_OFFSET, and the tick in nanoseconds. -/
def State.rtcTime (s : State) : Ns :=
  let sec : Int := (s.civil.seconds + unixTo2000 : Nat) + s.objI 0x2100 2 16
  sec.toNat * 1000000000 + s.rtcTick * 1000000000 / 32768

/-- R443: the time an event made now carries: the local clock once it is loaded, the RTC before. -/
def State.eventTime (s : State) : Ns := if s.time.loaded then s.time.now else s.rtcTime

/-- R116: the local clock counts up to an instant ahead of it, and the RTC with it while its crystal runs (log entry 52). -/
def State.upTo (s : State) (t : Ns) : State :=
  { s with time := { s.time with now := max s.time.now t },
           rtc := if s.aon.aonClockLost then s.rtc else s.rtc.pass (s.rdB Reg.AON_RTC_CTRL 0) (t - s.time.now) }

/-- R117: the stamp counter: the low 32 bits of the local clock's nanoseconds. -/
def State.stamp (s : State) : Nat := s.time.now % 2 ^ 32

/-- A TIME80 of a number of nanoseconds (Table 3.2). -/
def time80 (t : Ns) : List Byte := toLE 6 (t / 1000000000) ++ toLE 4 (t % 1000000000)

/-- The nanoseconds of a TIME80. -/
def ofTime80 (l : List Byte) : Ns := leAt l 0 6 * 1000000000 + leAt l 6 4

/-! ## The event record and the hoist -/

/-- R445: the records of reserve class: POWER_FAIL, TAMPER and CLEARED. -/
def reserveClass (src code : Nat) : Bool :=
  (Nat.beq src 0x16 && Nat.beq code 3) || (Nat.beq src 1 && Nat.beq code 1) || (Nat.beq src 0x14 && Nat.beq code 1)

/-- Is a record of reserve class? -/
def Rec.reserve (r : Rec) : Bool := reserveClass r.source r.code

/-- Table 16.1: a record's 32 bytes, its CRC last (R442). -/
def Rec.bytes (r : Rec) : List Byte :=
  let b := toLE 10 r.time ++ toLE 1 r.source ++ toLE 1 r.flags ++ toLE 2 r.code ++ toLE 4 r.seq ++ toLE 2 r.p0 ++
    toLE 4 r.p1 ++ toLE 4 r.p2
  b ++ toLE 4 (crc32 b)

/-- R449: the level at which ordinary records are dropped at the log. -/
def logOrdinaryEnd : Nat := 262080

/-- R449: the end of the log. -/
def logEnd : Nat := 262144

/-- A record put at the end of the log, with the flags its index sets (R449). -/
def State.logAppend (s : State) (r : Rec) : State :=
  let n := s.evr.log.length + 1
  let high := Nat.ble (s.rdF Reg.EVR_HIGH_WATER 18 0) n
  let full := Nat.ble logOrdinaryEnd n
  let s1 := { s with evr := { s.evr with log := s.evr.log ++ [r], lastSeq := r.seq, logHigh := s.evr.logHigh || high,
                                         logFull := s.evr.logFull || full,
                                         reserveUsed := s.evr.reserveUsed + (if Nat.blt logOrdinaryEnd n then 1 else 0),
                                         reserveFull := s.evr.reserveFull || Nat.ble logEnd n } }
  let s2 := if high && !s.evr.logHigh then s1.wrB Reg.EVR_INT_STAT 1 true else s1
  if full && !s.evr.logFull then s2.wrB Reg.EVR_INT_STAT 2 true else s2

/-- R449: a record written to the log, or dropped and counted where its class finds no room. -/
def State.logStore (s : State) (r : Rec) : State :=
  let n := s.evr.log.length
  if Nat.blt n logOrdinaryEnd || (r.reserve && Nat.blt n logEnd) then s.logAppend r
  else ({ s with evr := { s.evr with dropped := (s.evr.dropped + 1) % 2 ^ 32, logFull := true } }).wrB Reg.EVR_INT_STAT 3 true

/-- R446: a record dropped at the buffer. -/
def State.bufDrop (s : State) : State :=
  (({ s with evr := { s.evr with bufDrops := (s.evr.bufDrops + 1) % 2 ^ 32 } }).bumpU32 0x2D00 9 0 1).wrB Reg.EVR_INT_STAT 4 true

/-- R446, R447: a record joins the buffer, or is dropped where its class finds no room, or is written to the log at once
under DIRECT (R448), after any that are buffered, since the log holds records in SEQ order (R444; log entry 50). A flush becomes due at 3,072 records, or for a record that raised a hoist flag or of reserve class. -/
def State.recPlace (s : State) (r : Rec) : State :=
  if !s.rdB Reg.EVR_CTRL 0 then s.bufDrop
  else if s.rdB Reg.EVR_CTRL 2 then (s.evr.buffer.foldl State.logStore { s with evr := { s.evr with buffer := [] } }).logStore r
  else
    let n := s.evr.buffer.length
    if (!r.reserve && Nat.ble 4032 n) || Nat.ble 4096 n then s.bufDrop
    else { s with evr := { s.evr with buffer := s.evr.buffer ++ [r],
                                      flushDue := s.evr.flushDue || Nat.ble 3072 (n + 1) || r.reserve || Nat.testBit r.flags 6 } }

/-- R444: a record takes its SEQ when it is made, whether it is stored or dropped. -/
def State.recMake (s : State) (time : Ns) (flags src code p0 p1 p2 : Nat) : State :=
  let r : Rec := { time := fromLE (time80 time), source := src, flags := flags, code := code, seq := s.evr.nextSeq, p0 := p0 % 2 ^ 16,
                   p1 := p1 % 2 ^ 32, p2 := p2 % 2 ^ 32 }
  ({ s with evr := { s.evr with nextSeq := (s.evr.nextSeq + 1) % 2 ^ 32 } }).recPlace r

/-- Table 16.1: the FLAGS of a record made now. -/
def State.recFlags (s : State) (src code : Nat) (hoist : Bool) : Nat :=
  (if s.time.loaded then s.time.epoch % 16 else 16) + 32 * b2n (reserveClass src code) + 64 * b2n hoist

/-- R454: an event is recorded, with its SOURCE, CODE and parameters (Table 16.3). -/
def State.record (s : State) (src code p0 p1 p2 : Nat) : State :=
  s.recMake s.eventTime (s.recFlags src code false) src code p0 p1 p2

/-- R443: an event recorded with a time its source gives. -/
def State.recordAt (s : State) (t : Ns) (src code p0 p1 p2 : Nat) : State :=
  s.recMake t (s.recFlags src code false) src code p0 p1 p2

/-- R465: a hoist flag is raised. A flag raised already stays raised and is not recorded again; a raising caused by an
injection in DRILL is marked, and not recorded (R472). -/
def State.raiseWith (s : State) (f : Nat) (active marked : Bool) : State :=
  let s0 := if active then s.wrB Reg.SUP_ACTIVE f true else s
  let s1 := if marked then s0.wrB Reg.SUP_DRILLMARK f true else s0
  if s1.rdB Reg.SUP_HOIST f then s1
  else
    let s2 := (s1.wrB Reg.SUP_HOIST f true).wrB Reg.SUP_INT_STAT 0 true
    if marked then s2
    else s2.recMake s2.eventTime (s2.recFlags 0x16 8 true) 0x16 8 f 0 0

/-- R465: a hoist flag is raised by an event whose condition does not last. -/
def State.raise (s : State) (f : Nat) : State := s.raiseWith f false false

/-- R465: a hoist flag is raised by a condition that holds now. -/
def State.raiseActive (s : State) (f : Nat) : State := s.raiseWith f true false

/-- R465: a flag's condition no longer holds. -/
def State.unhold (s : State) (f : Nat) : State := s.wrB Reg.SUP_ACTIVE f false

/-- R458: a rating the supervisor monitors is outside its range. -/
def State.ratingOut (s : State) : State := { s with fault := { s.fault with ratingOutAt := some s.eventTime } }

/-- FAULT_COUNTERS, the k-th U32 of object 0x2E00:07, advances (R477). -/
def State.faultCount (s : State) (k : Nat) : State := s.bumpU32 0x2E00 7 k 1

/-! ## The bus -/

/-- R39: a bus error sets its flag; the first error since all flags were clear is captured. -/
def State.busError (s : State) (flag : Nat) (ini : Initiator) (addr : Nat) : State :=
  let e := s.rd Reg.SYS_BUS_ERR
  if fld e 3 0 = 0 then
    (s.wr Reg.SYS_BUS_ERR (putBit (setFld e 12 8 ini.number) flag true)).wrN Reg.SYS_BUS_ERR_ADDR (addr % 2 ^ 32)
  else s.wr Reg.SYS_BUS_ERR (putBit e flag true)

end Sys2Proof.Machine

namespace Sys2Proof

/-- Table 1.1: is the initiator a core? -/
def Initiator.isCore : Initiator → Bool
  | .sup | .app0 | .app1 | .app2 | .app3 => true
  | _ => false

/-- R134: the resident initiators: the supervisor and cores 0 to 2. -/
def Initiator.resident : Initiator → Bool
  | .sup | .app0 | .app1 | .app2 => true
  | _ => false

end Sys2Proof

namespace Sys2Proof.Machine

/-- An access answered with read data and no abort. -/
def State.answer (s : State) (v : Word) : State := { s with bus := { readData := v } }

/-- R18: a refused access: read data 0, an abort of a core, an error response to another initiator. -/
def State.refuse (s : State) (ini : Initiator) : State :=
  { s with bus := { readData := 0, abort := if ini.isCore then some ini else none, errorResponse := !ini.isCore } }

end Sys2Proof.Machine
end

