-- ==== Sys2Proof/Machine/Sched.lean ====
section
/-! DEFINITION. Civil time, schedule programs, the night and the baselines (R239 to R242). -/

namespace Sys2Proof.Machine

/-- R239: UTC in seconds since 2000 of an instant of local time. -/
def State.utcSec (s : State) (t : Ns) : Int := (t / 1000000000 : Nat) - s.objI 0x2100 2 16 - (unixTo2000 : Nat)

/-- R239: the local time of a UTC second since 2000. -/
def State.ofUtc (s : State) (u : Int) : Ns := (u + s.objI 0x2100 2 16 + (unixTo2000 : Nat)).toNat * 1000000000

/-- The day number of the last Sunday of a month. -/
def lastSunday (y m : Nat) : Nat :=
  let d := dayNumber y m (monthDays y m)
  d - (d + 6) % 7

/-- R239: STD_OFFSET in seconds. -/
def State.stdOffset (s : State) : Int := sx 16 (leAt (s.obj 0x2500 8) 0 2) * 60

/-- R239: SUMMER_EXTRA in seconds. -/
def State.summerExtra (s : State) : Int := sx 16 (leAt (s.obj 0x2500 8) 2 2) * 60

/-- R239: is a UTC second in summer time? -/
def State.summer (s : State) (u : Int) : Bool :=
  let c := s.obj 0x2500 8
  let y := (Civil.ofSeconds u.toNat).year
  let at_ (m : Nat) : Int := (lastSunday y m * 86400 + leAt c 6 1 * 3600 : Nat)
  let a := at_ (leAt c 4 1)
  let b := at_ (leAt c 5 1)
  if leAt c 4 1 = 0 then false
  else if a ≤ b then decide (a ≤ u ∧ u < b) else decide (a ≤ u ∨ u < b)

/-- R239: civil time, in seconds since 2000, of a UTC second. -/
def State.civilOf (s : State) (u : Int) : Int := u + s.stdOffset + (if s.summer u then s.summerExtra else 0)

/-- R239: the UTC second at which civil time reads a minute of a civil day: the first of the two where summer time repeats it. A
minute that summer time skips is taken at the standard offset (log entry 20). -/
def State.civilAt (s : State) (day minute : Nat) : Int :=
  let u : Int := (day * 86400 + minute * 60 : Nat) - s.stdOffset
  if s.summer (u - s.summerExtra) then u - s.summerExtra else u

/-- R240: does a program's date range and weekday take in a date? -/
def programCovers (v : List Byte) (day : Nat) : Bool :=
  let c := Civil.ofSeconds (day * 86400)
  let d := 100 * c.month + c.day
  let a := 100 * leAt v 0 1 + leAt v 1 1
  let b := 100 * leAt v 2 1 + leAt v 3 1
  (if a ≤ b then Nat.ble a d && Nat.ble d b else Nat.ble a d || Nat.ble d b) && Nat.testBit (leAt v 4 1) c.weekday && Nat.blt 0 (leAt v 5 1)

/-- R240: the program active on a civil date. -/
def State.program (s : State) (day : Nat) : Option Nat :=
  (upFrom 0 256).foldl (fun (best : Option Nat) p =>
    let v := s.obj (0x5000 + p) 2
    if programCovers v day then
      match best with
      | none => some p
      | some b => if leAt (s.obj (0x5000 + b) 2) 5 1 < leAt v 5 1 then some p else some b
    else best) none

/-- R241: a solar instant on a civil date, in UTC seconds: within 60 s of the true one up to 65 degrees of latitude. -/
def State.solar (s : State) (lat lon alt : Int) (day : Nat) (rising : Bool) : Int :=
  let a := s.civilAt day 0
  let b := s.civilAt (day + 1) 0
  let e := Config.sunError lat lon alt day rising
  clampI a (b - 1) (a + (Config.sunTrue lat lon alt day rising : Int) % (b - a) + (if lat.natAbs ≤ 650000000 then clampI (-60) 60 e else e))

/-- R241: the dusk or dawn a field gives for a civil date, in UTC seconds; none where there is no night. Where the sun stays below the altitude
on a date, its dawn is a free value (log entry 21). -/
def State.duskDawn (s : State) (f : List Byte) (day : Nat) (rising : Bool) : Option Int :=
  let g := s.obj 0x2500 9
  let lat := sx 32 (leAt g 0 4)
  let lon := sx 32 (leAt g 4 4)
  let alt := s.objI 0x2500 0x0A 16
  if leAt f 0 1 = 0 then some (s.civilAt day (leAt f 2 2))
  else if Config.sunCrosses lat lon alt day then some (s.solar lat lon alt day rising + sx 16 (leAt f 2 2) * 60)
  else if !Config.sunBelow lat lon alt day then none
  else if rising then some (s.civilAt day 0 + (Config.darkDawn lat lon alt day % 86400 : Nat))
  else some (s.civilAt day 720)

/-- A night: its program, its dusk and its dawn, in local time. -/
structure Night where
  program : Nat
  day : Nat
  dusk : Ns
  dawn : Ns
  deriving DecidableEq, Repr

/-- R241: the night of a civil date, if there is one. -/
def State.nightOf (s : State) (day : Nat) : Option Night :=
  match s.program day with
  | none => none
  | some p =>
    match s.duskDawn (s.obj (0x5000 + p) 3) day false, s.duskDawn (s.obj (0x5000 + p) 4) (day + 1) true with
    | some a, some b => if a < b then some { program := p, day := day, dusk := s.ofUtc a, dawn := s.ofUtc b } else none
    | _, _ => none

/-- The civil day number of an instant. -/
def State.civilDay (s : State) (t : Ns) : Nat := (s.civilOf (s.utcSec t)).toNat / 86400

/-- R241: the current night, or the next within a year. -/
def State.tonight (s : State) (t : Ns) : Option Night :=
  ((upFrom 0 368).filterMap (fun k => s.nightOf (s.civilDay t + k - 1))).find? (fun n => Nat.blt t n.dawn)

/-- The last night that has begun, within two days. -/
def State.lastNight (s : State) (t : Ns) : Option Night :=
  ((upFrom 0 3).filterMap (fun k => s.nightOf (s.civilDay t - k))).find? (fun n => Nat.ble n.dusk t)

/-- R240: the program for the current night: the one in progress, or else that of the civil date. -/
def State.activeProgram (s : State) : Option Nat :=
  let t := s.time.now
  match s.lastNight t with
  | some n => if t < n.dawn then some n.program else s.program (s.civilDay t)
  | none => s.program (s.civilDay t)

/-- R241: does the schedule dusk condition hold at an instant? -/
def State.scheduleDusk (s : State) (t : Ns) : Bool :=
  match s.tonight t with
  | some n => Nat.ble n.dusk t
  | none => false

/-- R205, R475: does a scheduled dusk lie at most `ahead` ns ahead? -/
def State.duskWithin (s : State) (t ahead : Ns) : Bool :=
  match s.tonight t with
  | some n => Nat.ble t n.dusk && Nat.ble n.dusk (t + ahead)
  | none => false

/-- R242: the night whose steps give the baselines: the night in progress; between nights the next one in lighting phase DAY or
DUSK, the last one in DAWN, and in NIGHT the nearer of the two (log entry 21). -/
def State.baseNight (s : State) : Option Night :=
  let t := s.time.now
  match s.lastNight t, s.tonight t with
  | some a, some b =>
    if t < a.dawn then some a
    else if s.mode.phase = .dawn ∨ (s.mode.phase = .night ∧ t - a.dawn < b.dusk - t) then some a
    else some b
  | none, b => b
  | a, none => a

/-- R242: the instant a step resolves to. -/
def State.stepInstant (s : State) (n : Night) (st : List Byte) : Int :=
  let m := sx 16 (leAt st 2 2) * 60000000000
  if leAt st 0 1 = 1 then n.dusk + m
  else if leAt st 0 1 = 2 then n.dawn + m
  else
    match ((upFrom 0 3).map (fun k => s.ofUtc (s.civilAt (n.day + k) (leAt st 2 2)))).find? (fun t => Nat.ble n.dusk t) with
    | some t => t
    | none => n.dawn

/-- R242: the baseline of a group at an instant of a night: the latest step at or before it; of two at one instant, the later in
STEPS (log entry 21). -/
def State.baselineAt (s : State) (n : Night) (t : Ns) (g : Nat) : Nat :=
  let u : Int := max n.dusk (min t (n.dawn - 1))
  let v := s.obj (0x5000 + n.program) 5
  let best := (upFrom 0 (v.length / 8)).foldl (fun (b : Option (Int × Nat)) k =>
    let st := slice v (8 * k) 8
    let i := s.stepInstant n st
    if (n.dusk : Int) ≤ i ∧ i < n.dawn ∧ i ≤ u ∧ Nat.testBit (leAt st 6 2) g = true then
      match b with
      | some (j, l) => if j ≤ i then some (i, leAt st 4 2 % 1024) else some (j, l)
      | none => some (i, leAt st 4 2 % 1024)
    else b) none
  match best with
  | some (_, l) => l
  | none => 1023

/-- R242, R244: the baseline of a group now. -/
def State.baseline (s : State) (g : Nat) : Nat :=
  match s.baseNight with
  | some n => s.baselineAt n s.time.now g
  | none => 1023

end Sys2Proof.Machine
end

