-- ==== Sys2Proof/Machine/Local.lean ====
section
/-! DEFINITION. Local lighting as resident firmware runs it: what it owns, and each channel's and halyard's values from its MODE
object (R378, R379). -/

namespace Sys2Proof.Machine

/-- R378: does resident firmware own the sinks (0), halyard A (1) or halyard B (2)? -/
def State.localOwned (s : State) (k : Nat) : Bool := !Nat.testBit (s.objN 0x2900 1) k

/-- R379: B_g, taken as 0 while CTL_CTRL.SOURCE is OFF. -/
def State.localBase (s : State) (g : Nat) : Nat :=
  let src := s.rdF Reg.CTL_CTRL 5 4
  if src = 0 ∨ src = 3 then 0 else s.baseline g

/-- R379: round(v × B_g / 1,023). -/
def groupScale (v b : Nat) : Nat := (2 * v * b + 1023) / 2046

/-- R379: a value by its MODE: 0 off, 1 fixed, 2 by the group. -/
def localValue (mode v b : Nat) : Nat :=
  match mode with
  | 0 => 0
  | 1 => v
  | _ => groupScale v b

/-- R379: does a value of this MODE follow its objects now? While CTL is stopped group values hold their last values. -/
def State.localFollows (s : State) (mode : Nat) : Bool := !Nat.beq mode 2 || s.rdB Reg.CTL_STATUS 0

/-- R379: a channel's configuration from its objects. -/
def State.localChannel (s : State) (c : Nat) : State :=
  let m := s.objN (0x2910 + c) 1
  let v := localValue m (s.objN (0x2910 + c) 2) (s.localBase (s.objN (0x2910 + c) 3))
  (s.wrF (Reg.SNK_CH_CFG c) 11 0 v).wrB (Reg.SNK_CH_CFG c) 16 (decide (m ≠ 0))

/-- R379, R381: level k (0 to 1,535) of a halyard: beyond LEVELS it is 0. -/
def State.localLevel (s : State) (x k b : Nat) : Nat :=
  localValue (s.objN (0x2940 + x) 1) (leAt (s.obj (0x2940 + x) 5) (2 * k) 2) b

/-- R375, R379: a halyard's staging copy from its objects, and a commit. -/
def State.localHalyard (s : State) (x : Nat) : State :=
  let b := s.localBase (s.objN (0x2940 + x) 4)
  (upFrom 0 512).foldl (fun (t : State) d =>
    (t.wrN (Reg.HAL_PEN_LO x d) (s.localLevel x (3 * d) b + 65536 * s.localLevel x (3 * d + 1) b)).wrN (Reg.HAL_PEN_HI x d)
      (s.localLevel x (3 * d + 2) b)) s

/-- R375, Table 12.6: COUNT and GAP stored within their limits. With EN = 1 a change waits for a frame start as a commit does, and
changes made while one waits merge into it. -/
def State.halConfig (s : State) (x count gap : Nat) : State :=
  let a := Reg.HAL_CFG x
  let h := s.hal.getD x {}
  let w := setFld (setFld (s.rd a) 9 0 (clampN 1 512 count)) 31 16 (max 80 gap)
  let since := if s.rdB (Reg.HAL_CTRL x) 0 && (h.cfgAt.isSome || decide (w ≠ s.rd a)) then some (h.cfgAt.getD s.time.now) else none
  let s1 := s.wr a w
  { s1 with hal := setAt s1.hal x { h with cfgAt := since } }

/-- R375: a commit reaches HAL now. -/
def State.halCommit (s : State) (x : Nat) : State :=
  let h := s.hal.getD x {}
  let s1 := (s.wrB (Reg.HAL_CTRL x) 2 true).wrB (Reg.HAL_STATUS x) 1 true
  { s1 with hal := setAt s1.hal x { h with commit := some (h.commit.getD s.time.now) } }

/-- R379: the values of what resident firmware owns, for those of a MODE that `want` picks. -/
def State.localApply (s : State) (want : Nat → Bool) : State :=
  let s1 := if s.localOwned 0 then
      (upFrom 0 24).foldl (fun (t : State) c => if want (s.objN (0x2910 + c) 1) then t.localChannel c else t) s
    else s
  (upFrom 0 2).foldl (fun (t : State) x =>
    if s.localOwned (x + 1) && want (s.objN (0x2940 + x) 1) then (t.localHalyard x).halCommit x else t) s1

/-- R379: after a completed sample the group values are refreshed. -/
def State.groupRefresh (s : State) : State := s.localApply (fun m => Nat.beq m 2)

/-- R381, Table 12.2: the SNK and HAL configuration registers take their objects' values, for what resident firmware owns. -/
def State.localConfig (s : State) : State :=
  let s1 := if s.localOwned 0 then
      (((s.wrF Reg.SNK_SCALE 7 0 (s.objN 0x2900 2)).wrF Reg.SNK_KNEE 7 0 (s.objN 0x2900 3)).wrF Reg.SNK_HDRM_CFG 11 0
        (s.objN 0x2900 4)).wrB Reg.SNK_HDRM_CFG 20 (Nat.beq (s.objN 0x2900 6) 1)
    else s
  let s2 := if s.localOwned 0 then
      (s1.wrF Reg.SNK_HDRM_FB_LIM 11 0 (leAt (s.obj 0x2900 5) 0 2)).wrF Reg.SNK_HDRM_FB_LIM 27 16 (leAt (s.obj 0x2900 5) 2 2)
    else s1
  (upFrom 0 2).foldl (fun (t : State) x =>
    if s.localOwned (x + 1) then
      t.halConfig x (s.objN (0x2940 + x) 2) (s.objN (0x2940 + x) 3)
    else t) s2

/-- R376, R379, R380: resident firmware runs the outputs it owns: the settings, the values that follow their objects now, and the
enables; INHIBIT still keeps a standby module's outputs open (log entry 30). -/
def State.localRun (s : State) : State :=
  let s1 := s.localConfig.localApply s.localFollows
  let s2 := if s.localOwned 0 then (s1.wrB Reg.SNK_CTRL 0 true).wrB Reg.SNK_HDRM_CFG 21 true else s1
  (upFrom 0 2).foldl (fun (t : State) x => if s.localOwned (x + 1) then t.wrB (Reg.HAL_CTRL x) 0 true else t) s2

end Sys2Proof.Machine
end

