-- ==== Sys2Proof/Machine/Sys.lean ====
section
/-! DEFINITION. SYS: the permission table, core 3's run state, the clock monitor and the dual-clock queues (R19 to R37). -/

namespace Sys2Proof.Machine

/-! ## The permission table -/

/-- Table 1.8: the highest grantable level of a slot. -/
def permCap (slot : Nat) : Nat :=
  if slot = 0 ∨ slot = 1 ∨ (4 ≤ slot ∧ slot ≤ 8) ∨ slot = 0x0A ∨ slot = 0x14 then 1
  else if slot = 3 ∨ slot = 0x12 ∨ (0x15 ≤ slot ∧ slot ≤ 0x17) then 0
  else 3

/-- R20: the code a slot stores when `c` is written: 0b10 stores NONE, a level above the cap stores the cap. -/
def permStore (slot c : Nat) : Nat := if c = 2 then 0 else min c (permCap slot)

/-- R20: n slot codes from a slot on, stored each with its cap; `v` holds the codes two bits each, lowest first. -/
def permStoreAll (v : Nat) : Nat → Nat → Nat
  | _, 0 => 0
  | slot, n + 1 => permStore slot (v % 4) + 4 * permStoreAll (v / 4) (slot + 1) n

/-- R20: what SYS_PERM_LO (0), SYS_PERM_HI (1) or SYS_PERM_DMA (2) stores. -/
def permValue (which : Nat) (v : Nat) : Nat :=
  match which with
  | 0 => permStoreAll v 0 16
  | 1 => permStoreAll v 16 8
  | _ => v % 2 ^ 16 / 2 ^ 12 * 2 ^ 12

/-- The address of a permission register. -/
def permReg (which : Nat) : Nat :=
  match which with
  | 0 => Reg.SYS_PERM_LO
  | 1 => Reg.SYS_PERM_HI
  | _ => Reg.SYS_PERM_DMA

/-- R20: a permission register written by the supervisor. -/
def State.permWrite (s : State) (which v : Nat) : State := s.wrN (permReg which) (permValue which v)

/-- R22: the permission table takes its value from INTEGRATOR_PERMISSIONS. -/
def State.permApply (s : State) : State :=
  let v := s.objN 0x2000 0x10
  ((s.permWrite 0 (v % 2 ^ 32)).permWrite 1 (v / 2 ^ 32 % 2 ^ 16)).permWrite 2 (v / 2 ^ 48)

/-- R19: core 3's level for a slot. -/
def State.permLevel (s : State) (slot : Nat) : Nat :=
  if slot < 16 then s.rdF Reg.SYS_PERM_LO (2 * slot + 1) (2 * slot) else s.rdF Reg.SYS_PERM_HI (2 * (slot - 16) + 1) (2 * (slot - 16))

/-! ## Permission violations -/

/-- R23: a core 3 access to a slot that the permission table refuses: COUNT saturates, the first violation since the start is
recorded, PERM is set and core 3 takes the synchronous abort. -/
def State.permViolation (s : State) (slot addr : Nat) (write : Bool) : State :=
  let n := s.rdF Reg.SYS_PERM_VIOL 31 16
  let s1 := s.wrF Reg.SYS_PERM_VIOL 31 16 (min 0xFFFF (n + 1))
  let s2 := if s.rdB Reg.SYS_PERM_VIOL 9 then s1
    else (((s1.wrF Reg.SYS_PERM_VIOL 4 0 slot).wrB Reg.SYS_PERM_VIOL 8 write).wrB Reg.SYS_PERM_VIOL 9 true).record 0x16 7 slot (b2n write) 0
  (s2.busError 2 .app3 addr).refuse .app3

/-- R19, Table 1.7: does the permission table admit a core 3 access to a slot? -/
def State.permAdmits (s : State) (slot : Nat) (write : Bool) : Bool :=
  Nat.ble (if write then 3 else 1) (s.permLevel slot)

/-- R350: is the address a register of a DMA channel granted to core 3? -/
def State.grantedRegister (s : State) (addr : Nat) : Bool :=
  Nat.ble 0x400F0100 addr && Nat.blt addr 0x400F0500 && s.rdB Reg.SYS_PERM_DMA ((addr - 0x400F0100) / 0x40)

/-- R7, R23: an access that the permission table decides first: a core 3 access it refuses is a violation, and every other
access goes on. Core 3 writes the registers of a channel granted to it whatever the level of the slot (R350). -/
def State.permGate (s : State) (ini : Initiator) (addr : Nat) (write : Bool) (go : State → State) : State :=
  let slot := Reg.slotOf addr
  if ini = .app3 ∧ s.permAdmits slot write = false ∧ (write && s.grantedRegister addr) = false then s.permViolation slot addr write else go s

/-- R38: a write reserved to the initiators for which `ok` holds; any other is ignored and sets PERM. -/
def State.reservedTo (s : State) (ini : Initiator) (ok : Bool) (addr : Nat) (go : State → State) : State :=
  if ok then go s else (s.busError 2 ini addr).answer 0

/-- R7, R8, R38: a write of a register: the permission table decides first for core 3, then who may write it; then it acts. -/
def State.regWrite (s : State) (ini : Initiator) (ok : Bool) (addr : Nat) (go : State → State) : State :=
  s.permGate ini addr true (fun t => t.reservedTo ini ok addr (fun u => (go u).answer 0))

/-- SYS_PERM_WRITE, R20, R38: only the supervisor writes the permission registers. -/
def execSysPermWrite (ini : Initiator) (which : Fin 3) (v : Word) (s : State) : Host.Outcome State Fault Refusal :=
  .next (s.regWrite ini (decide (ini = .sup)) (permReg which.val) (fun t => t.permWrite which.val v.toNat))

/-! ## Core 3 -/

/-- Table 3.11: the mailbox's control page. -/
def mailboxBase : Nat := 0xB8000000

/-- R111: at each start of core 3 the control page is zeroed, the mailbox session's duplicate cache cleared, then MAGIC
written. -/
def State.mailboxPrepare (s : State) : State :=
  let d := s.dict
  let s1 := { s with dict := { d with sessions := d.sessions.map (fun (e : Sess) => if e.kind = SessKind.mailbox then { e with cache := [] } else e),
                                      held := [], written := [], mailboxIrq := false } }
  (s1.writeMem mailboxBase (List.replicate 4096 0)).setMemN mailboxBase 4 0x4D425831

/-- R24, R44: core 3 held in reset. -/
def State.core3Stop (s : State) : State :=
  { ((s.wrB Reg.SYS_CORE3_CTRL 0 false).wrB Reg.SYS_CORE3_CTRL 16 false) with sys := { s.sys with core3Irq := false } }

/-- R24: does the mode admit integrator firmware, and does the supervisor run to set RUN? -/
def State.core3May (s : State) : Bool := s.mode.mode.core3Runs && !s.aon.inReset

/-- R24, R111: steps 1 and 2 of a start of core 3: the permission table is applied and the mailbox prepared; SYS_PERM_VIOL starts afresh. -/
def State.core3Prepare (s : State) : State := s.permApply.mailboxPrepare.wrN Reg.SYS_PERM_VIOL 0

/-- R24: core 3 released from reset. -/
def State.core3Release (s : State) : State := (s.wrB Reg.SYS_CORE3_CTRL 0 true).wrB Reg.SYS_CORE3_CTRL 16 true

/-- R24: a start of core 3 in a mode that admits integrator firmware. -/
def State.core3Start (s : State) : State := if s.core3May then s.core3Prepare.core3Release else s

/-- R24: core 3's L2 ways discarded. -/
def State.core3Discard (s : State) : State := { s with sys := { s.sys with core3L2Valid := false } }

/-- R24: core 3 reset alone: RUN cleared, its L2 ways discarded, SYS_PERM_VIOL cleared; then steps 1 and 2 in every mode, and RUN where the
mode admits integrator firmware. -/
def State.core3Restart (s : State) : State :=
  let s1 := s.core3Stop.core3Discard.core3Prepare
  if s1.core3May then s1.core3Release else s1

/-- CORE3_RUN, R24: the supervisor starts core 3; nothing changes where the mode does not admit integrator firmware or core 3
runs already. -/
def execCore3Run (s : State) : Host.Outcome State Fault Refusal :=
  .next (if s.rdB Reg.SYS_CORE3_CTRL 0 then s else s.core3Start)

/-- CORE3_RESTART, R24, R38: a write of RESTART; one that is not the supervisor's is ignored and sets PERM. -/
def execCore3Restart (ini : Initiator) (s : State) : Host.Outcome State Fault Refusal :=
  .next (s.regWrite ini (decide (ini = .sup)) Reg.SYS_CORE3_CTRL State.core3Restart)

/-- CORE3_HOLD, R44: the supervisor holds core 3 in reset. -/
def execCore3Hold (s : State) : Host.Outcome State Fault Refusal := .next s.core3Stop

/-! ## The clock monitor -/

/-- Table 1.21: the SYS_CLKMON bit of a domain; FAB has none. -/
def monBit : Domain → Option Nat
  | .fab => none | .time => some 0 | .netA => some 1 | .netB => some 2 | .rad n => some (3 + n.val)
  | .mod n => some (7 + n.val) | .canf => some 17 | .aon => some 18

/-- R270: is an input's modulator self-clocked? -/
def State.selfClocked (s : State) (n : Nat) : Bool := s.rdB (Reg.MTR_IN_CFG n) 1

/-- R26: is a domain's clock present? -/
def State.clockPresent (s : State) (d : Domain) : Bool :=
  match monBit d with
  | none => !s.aon.inReset
  | some b => s.rdB Reg.SYS_CLKMON b

/-! ## Dual-clock queues -/

/-- Table 1.12: k, where queue q is 2^k entries deep. -/
def queueLog (q : Nat) : Nat :=
  if q ≤ 7 then 6 else if q ≤ 11 then 8 else if q ≤ 22 then 4 else if q = 23 then 3 else if q ≤ 27 then 4
  else if q = 28 then 2 else if q = 29 then 1 else 2

/-- Table 1.12: the unrelated domain of queue q; its other side is FAB, or TIME for queues 30 to 33. -/
def queueDomain (q : Nat) : Domain :=
  if q ≤ 3 then .rad (Fin.ofNat 4 q) else if q ≤ 7 then .rad (Fin.ofNat 4 (q - 4)) else if q ≤ 9 then .netA
  else if q ≤ 11 then .netB else if q ≤ 21 then .mod (Fin.ofNat 10 (q - 12)) else if q ≤ 23 then .time
  else if q ≤ 27 then .canf else if q ≤ 29 then .aon else .rad (Fin.ofNat 4 (q - 30))

/-- Table 1.12: does the queue exist? Queues 12 to 21 exist only for self-clocked inputs. -/
def State.queueExists (s : State) (q : Nat) : Bool := !(Nat.ble 12 q && Nat.ble q 21) || s.selfClocked (q - 12)

/-- R35, R36: do both of the queue's domains run? -/
def State.queueReleasable (s : State) (q : Nat) : Bool :=
  s.queueExists q && s.clockPresent (queueDomain q) && (Nat.blt q 30 || s.clockPresent .time) && !s.aon.inReset

/-- A queue; one that does not exist reads as held. -/
def State.queue (s : State) (q : Nat) : DQueue := s.sys.queues.getD q {}

/-- A queue replaced. -/
def State.setQueue (s : State) (q : Nat) (d : DQueue) : State := { s with sys := { s.sys with queues := setAt s.sys.queues q d } }

/-- R30: a pointer difference modulo 2^(k+1). -/
def ptrDiff (k a b : Nat) : Nat := (a + 2 ^ (k + 1) - b % 2 ^ (k + 1)) % 2 ^ (k + 1)

/-- R30: the write-side count: the write pointer minus the read pointer the write side has seen. -/
def DQueue.wcount (d : DQueue) (k : Nat) : Nat := if d.hold then 0 else ptrDiff k d.wptr d.rseen

/-- R30: the read-side count: the write pointer the read side has seen minus the read pointer. -/
def DQueue.rcount (d : DQueue) (k : Nat) : Nat := if d.hold then 0 else ptrDiff k d.wseen d.rptr

/-- R28, R31: at a write-side edge the synchroniser reveals up to n more pops. -/
def DQueue.seeReads (d : DQueue) (k n : Nat) : DQueue :=
  { d with rseen := (d.rseen + min n (ptrDiff k d.rptr d.rseen)) % 2 ^ (k + 1) }

/-- R28, R31: at a read-side edge the synchroniser reveals up to n more pushes. -/
def DQueue.seeWrites (d : DQueue) (k n : Nat) : DQueue :=
  { d with wseen := (d.wseen + min n (ptrDiff k d.wptr d.wseen)) % 2 ^ (k + 1) }

/-- R31, R32: a push completes while the write-side count is below the depth; otherwise the producer holds its data. -/
def DQueue.push (d : DQueue) (k e : Nat) : DQueue :=
  if d.hold || d.stallWrite || Nat.ble (2 ^ k) (d.wcount k) then { d with offered := some (d.offered.getD e) }
  else { d with entries := d.entries ++ [d.offered.getD e], wptr := (d.wptr + 1) % 2 ^ (k + 1), offered := none }

/-- R32, R471: the write side of a queue is no longer stalled: the push that its producer holds completes where there is room. -/
def DQueue.unstall (d : DQueue) (k : Nat) : DQueue :=
  let d1 := { d with stallWrite := false, stallRead := false }
  match d1.offered with
  | some e => if d.stallWrite then d1.push k e else d1
  | none => d1

/-- R31: a pop completes while the read-side count is above 0. -/
def DQueue.pop (d : DQueue) (k : Nat) : DQueue :=
  if d.hold || d.stallRead || Nat.ble (d.rcount k) 0 then d
  else { d with entries := d.entries.tail, rptr := (d.rptr + 1) % 2 ^ (k + 1) }

/-- R36: a queue held in reset; its entries are discarded. The stall settings and the producer's data stay. -/
def DQueue.holdReset (d : DQueue) : DQueue := { stallWrite := d.stallWrite, stallRead := d.stallRead, offered := d.offered }

/-- R35: a queue released, empty. -/
def DQueue.release (d : DQueue) : DQueue := if d.hold then { d.holdReset with hold := false } else d

/-- R36: the queues of a domain held in reset. -/
def State.queuesHold (s : State) (d : Domain) : State :=
  { s with sys := { s.sys with queues := mapFrom (fun q (e : DQueue) => if queueDomain q = d ∨ (d = .time ∧ 30 ≤ q) then e.holdReset else e) 0 s.sys.queues } }

/-- R35: every queue whose domains run is released; a queue that cannot run is held. -/
def State.queuesRelease (s : State) : State :=
  { s with sys := { s.sys with queues := mapFrom (fun q (e : DQueue) => if s.queueReleasable q then e.release else e.holdReset) 0 s.sys.queues } }

/-- R35, R36: the queues of a domain whose clock runs again are released. -/
def State.queuesBack (s : State) (d : Domain) : State :=
  { s with sys := { s.sys with queues := mapFrom (fun q (e : DQueue) =>
      if (queueDomain q = d ∨ (d = .time ∧ 30 ≤ q)) ∧ s.queueReleasable q = true then e.release else e) 0 s.sys.queues } }

/-- R25, Table 1.12, Table 1.21: an input that is not self-clocked forms no MODn domain: its SYS_CLKMON bit reads 0, no loss of its clock stands,
and it has no queue. -/
def State.modStyled (s : State) (n : Nat) : State :=
  if s.selfClocked n then s
  else
    let s1 := s.wrB Reg.SYS_CLKMON (7 + n) false
    let lost := s1.fault.lost.filter (fun (k : Nat) => !(Nat.beq k (7 + n)))
    let s2 := { s1 with
      sys := { s1.sys with queues := modifyAt s1.sys.queues (12 + n) DQueue.holdReset }
      fault := { s1.fault with lost := lost } }
    if s.fault.lost.contains (7 + n) && lost.isEmpty then s2.unhold 8 else s2

/-- QUEUE_PUSH, R31: an edge of queue q's write side at which `seen` more pops have become visible and an entry is presented. -/
def execQueuePush (q : Fin 34) (entry seen : Nat) (s : State) : Host.Outcome State Fault Refusal :=
  .next (s.setQueue q.val (((s.queue q.val).seeReads (queueLog q.val) seen).push (queueLog q.val) entry))

/-- QUEUE_POP, R31: an edge of queue q's read side at which `seen` more pushes have become visible and a pop is presented. -/
def execQueuePop (q : Fin 34) (seen : Nat) (s : State) : Host.Outcome State Fault Refusal :=
  .next (s.setQueue q.val (((s.queue q.val).seeWrites (queueLog q.val) seen).pop (queueLog q.val)))

end Sys2Proof.Machine
end

