-- ==== Sys2Proof/Machine/Key.lean ====
section
/-! DEFINITION. The key store: slots, the chain check, the key commands and the scrub (R403 to R414, R418). -/

namespace Sys2Proof.Machine

/-- A byte string of exactly n bytes: cut, or filled with zero bytes. -/
def fit (n : Nat) (l : List Byte) : List Byte := (l ++ List.replicate n 0).take n

/-- R406: NIST SP 800-108 in counter mode with CMAC, the first n bytes: block i is CMAC under the key of i, LABEL, G, CONTEXT and the
length in bits. -/
def kdf (key label : List Byte) (g : Nat) (context : List Byte) (n : Nat) : List Byte :=
  ((upFrom 1 ((n + 15) / 16)).flatMap (fun i =>
    fit 16 (Config.cmac key (toLE 1 i ++ fit 4 label ++ toLE 1 g ++ fit 8 context ++ (toLE 2 (8 * n)).reverse)))).take n

/-- Table 14.2: a slot as manufactured: slot 4 holds IMAGE_PUB, every other slot is EMPTY. -/
def KeySlot.default (i : Nat) : KeySlot :=
  if i = 4 then { key := Config.imagePublic, state := 1, kind := 0x22, depth := 1, gen := 1, parentGen := 1, attr := 0x10, origin := 3 }
  else {}

/-- A slot's record. -/
def State.slot (s : State) (i : Nat) : KeySlot := Sparse.get KeySlot.default s.key.slots i

/-- Table 14.12: KEY_SLOT_INFO_s. -/
def KeySlot.info (k : KeySlot) : Nat := k.state % 4 + k.depth % 8 * 4 + k.parent % 256 * 256 + k.gen % 65536 * 65536

/-- A slot's record written whole (R403), with its summary register. -/
def State.putSlot (s : State) (i : Nat) (k : KeySlot) : State :=
  ({ s with key := { s.key with slots := Sparse.set KeySlot.default s.key.slots i k } }).wrN (Reg.KEY_SLOT_INFO i) k.info

/-- Tables 14.7 and 14.8: the outcome of a chain check. -/
inductive Chain where
  | ok | invalid | tag | orphaned
  deriving DecidableEq, Repr

/-- R405: every ancestor of a slot VALID, with the generation it had when its child was written. -/
def State.ancestorsOk (s : State) : Nat → Nat → Bool
  | 0, _ => false
  | fuel + 1, i =>
    let k := s.slot i
    if i = 0 then decide (k.state = 1)
    else
      let p := s.slot k.parent
      decide (p.state = 1) && Nat.beq k.parentGen p.gen && s.ancestorsOk fuel k.parent

/-- R405: the chain check of a slot. -/
def State.chainCheck (s : State) (i : Nat) : Chain :=
  let k := s.slot i
  if k.state = 3 then .tag else if k.state ≠ 1 then .invalid else if s.ancestorsOk 8 i then .ok else .orphaned

/-- The slots from a slot up to the root. -/
def State.chainOf (s : State) : Nat → Nat → List Nat
  | 0, _ => []
  | fuel + 1, i => if i = 0 then [0] else i :: s.chainOf fuel (s.slot i).parent

/-- R204, R410: the MAC caches whose cohort slot is the one changed or a descendant of it are flushed. -/
def State.macCacheFlush (s : State) (changed : Nat) : State :=
  { s with macs := mapFrom (fun n (m : MacState) =>
      if (s.chainOf 8 (s.rdF (Reg.MAC_KEY n) 7 0)).contains changed then { m with cache := [] } else m) 0 s.macs }

/-- R411: the jobs in progress whose chain holds the changed slot run on with their output suppressed. -/
def State.suppressJobs (s : State) (changed : Nat) : State :=
  let hit (j : CryJob) : Bool := j.chain.contains changed
  let s1 := { s with cry := { s.cry with jobs := s.cry.jobs.map (fun j =>
    if hit j then { j with result := List.replicate j.result.length 0, status := if j.slot = some changed then 3 else 2 } else j) } }
  if s.cry.jobs.any hit then
    ((s1.wrB Reg.KEY_INT_STAT 2 true).wrB Reg.CRY_INT_STAT 5 true).bumpU32 0x2B00 2 1 (s.cry.jobs.filter hit).length
  else s1

/-- R410: a change of a slot takes effect. -/
def State.slotChanged (s : State) (i : Nat) : State :=
  let s1 := (s.macCacheFlush i).suppressJobs i
  if 16 ≤ i ∧ i ≤ 24 then { s1 with key := { s1.key with shareDue := true } } else s1

/-- R404: is any slot in TAG_FAIL? KEY_TAG is held while one is. -/
def State.tagHold (s : State) : State :=
  if s.key.slots.any (fun e => Nat.beq e.2.state 3) then s else s.unhold 24

/-- R409: one more than the larger generation, skipping 0 at the wrap. -/
def nextGen (a b : Nat) : Nat := if max a b ≥ 65535 then 1 else max a b + 1

/-- R71: is a tamper latch set? -/
def State.tamperLatched (s : State) : Bool := !(Nat.beq (s.rdF Reg.AON_TAMPER_STAT 2 0) 0)

/-- Table 14.5: the bytes a KIND's key occupies. -/
def kindBytes (kind : Nat) : Nat :=
  if kind = 1 then 16 else if kind = 2 ∨ kind = 0x11 then 32 else if kind = 0x12 then 48 else if kind = 0x21 then 33 else 49

/-- Is the KIND one of Table 14.1? -/
def kindKnown (kind : Nat) : Bool := [1, 2, 0x11, 0x12, 0x21, 0x22].contains kind

/-- Table 14.2: may the slot hold the KIND? -/
def slotKind (i kind : Nat) : Bool :=
  if i = 1 ∨ i = 9 then decide (kind = 2) else if i = 2 ∨ i = 3 then decide (kind = 0x12)
  else if i = 5 ∨ i = 8 ∨ (16 ≤ i ∧ i ≤ 24) then decide (kind = 1) else if 32 ≤ i ∧ i ≤ 47 then decide (kind = 0x21 ∨ kind = 0x22)
  else kindKnown kind

/-- Table 14.2: may the slot hang under the parent? -/
def slotParent (i p : Nat) : Bool :=
  if i ≤ 4 ∨ i = 8 ∨ i = 9 ∨ (32 ≤ i ∧ i ≤ 47) then decide (p = 0) else if i = 5 then decide (p = 3)
  else if 16 ≤ i ∧ i ≤ 24 then decide (p = 8) else if 48 ≤ i ∧ i ≤ 127 then decide (p < 128 ∧ p ≠ i)
  else decide ((p = 9 ∨ 128 ≤ p) ∧ p ≠ i)

/-- R408, Table 14.2: does the slot accept the command? Codes as Table 14.5. -/
def slotAccepts (i code : Nat) : Bool :=
  if i = 0 ∨ i = 4 ∨ i = 6 ∨ i = 7 ∨ (10 ≤ i ∧ i ≤ 15) ∨ (25 ≤ i ∧ i ≤ 31) then false
  else if i ≤ 3 ∨ i = 8 ∨ i = 9 then decide (code = 2 ∨ code = 6)
  else if i = 5 then decide (code = 5 ∨ code = 6 ∨ code = 7)
  else if 16 ≤ i ∧ i ≤ 24 then decide (code = 1 ∨ code = 4 ∨ code = 6 ∨ code = 7)
  else if 32 ≤ i ∧ i ≤ 47 then decide (code = 3 ∨ code = 6 ∨ code = 7)
  else decide (1 ≤ code ∧ code ≤ 7 ∧ code ≠ 5)

/-- Table 14.1: an uncompressed point, compressed. -/
def pointCompress (kind : Nat) (b : List Byte) : List Byte :=
  let n := if kind = 0x21 then 32 else 48
  toLE 1 (2 + leAt b (2 * n) 1 % 2) ++ slice b 1 n

/-- R408: is the material of a command a valid point of its KIND's curve, uncompressed? -/
def keyPoint (c : KeyCmd) : Bool :=
  let n := if c.kind = 0x21 then 65 else 97
  Nat.ble 0x21 c.kind && Nat.ble n c.data.length && Config.pointValid c.kind (c.data.take n)

/-- R414: the block that the material of a command wraps under slot 5, if it unwraps. -/
def State.keyPlain (s : State) (c : KeyCmd) : Option (List Byte) :=
  let block := fit 32 c.data
  if Config.unwrapOk (s.slot 5).key block then some (fit 24 (Config.keyUnwrap (s.slot 5).key block)) else none

/-- R408, R409: the status of a command before it acts: 0 OK; 2 TAMPER; 3 NOT_PERMITTED; 4 DEPTH; 5 PARENT; 6 BAD_KEY;
7 ENTROPY_FAIL. Commands run to their end within one step, so BUSY (1) never holds (log entry 12). -/
def State.keyCheck (s : State) (code : Nat) (c : KeyCmd) : Nat :=
  if s.tamperLatched then 2
  else if !slotAccepts c.slot code then 3
  else if code = 6 then 0
  else if code = 7 then (if (s.slot c.slot).state = 2 ∨ (s.slot c.slot).state = 3 then 0 else 3)
  else if code = 5 then (if s.chainCheck 3 ≠ .ok then 5 else if Config.pointValid 0x22 (s.obj 0x2B01 1) then 0 else 6)
  else if code = 4 then
    match s.keyPlain c with
    | none => 6
    | some b =>
      if s.chainCheck 5 ≠ .ok ∨ s.chainCheck 8 ≠ .ok then 5
      else if leAt b 0 1 = c.slot ∧ 16 ≤ c.slot ∧ c.slot ≤ 24 ∧ leAt b 1 1 = 1 ∧ (s.slot c.slot).gen ≤ leAt b 2 2 then 0 else 6
  else if !slotKind c.slot c.kind then 3
  else if !slotParent c.slot c.parent || s.chainCheck c.parent ≠ .ok then 5
  else if (s.slot c.parent).depth + 1 > 6 then 4
  else if code = 2 then if 0x21 ≤ c.kind then 6 else (if c.parent = 0 ∨ Nat.testBit (s.slot c.parent).attr 0 = true then 0 else 5)
  else if code = 3 then (if keyPoint c then 0 else 6)
  else if c.kind ≥ 0x21 then 6
  else if !s.rdB Reg.CRY_STATUS 4 || !s.rdB Reg.CRY_STATUS 5 then 7
  else 0

/-- The EUI-64 of this module, as bytes. -/
def State.eui (s : State) : List Byte := s.obj 0x1000 4

/-- R194, R415: an installation code as it is held: wrapped under slot 1, STORE, in 24 bytes. -/
def State.codeWrap (s : State) (code : List Byte) : List Byte := fit 24 (Config.keyWrap (s.slot 1).key code)

/-- R194: a held installation code unwrapped. -/
def State.codeOpen (s : State) (held : List Byte) : List Byte := fit 16 (Config.keyUnwrap (s.slot 1).key held)

/-- R409: a slot written by GENERATE, DERIVE, IMPORT_PUBLIC or AGREE. -/
def State.keyWrite (s : State) (c : KeyCmd) (parent kind origin : Nat) (key : List Byte) : State :=
  let p := s.slot parent
  let g := nextGen (s.slot c.slot).gen (s.slot c.twin).gen
  ((s.putSlot c.slot { key := fit (kindBytes kind) key, state := 1, kind := kind, parent := parent, depth := p.depth + 1, gen := g,
                       parentGen := p.gen, attr := c.attr % 512, origin := origin }).slotChanged c.slot).tagHold

/-- R417: the DRBG gives n bytes. -/
def State.drbgTake (s : State) (n : Nat) : List Byte × State :=
  let (f, s1) := s.free
  (fit n (Config.drbg f n), { s1 with cry := { s1.cry with requests := s1.cry.requests + 1 } })

/-- R413: the key of slot 5: KDF with label PAIR under the digest of the shared x-coordinate, over the two EUI-64s XORed. -/
def State.pairKey (s : State) : List Byte :=
  kdf (fit 32 (Config.sha256 (Config.ecdh (s.slot 3).key (s.obj 0x2B01 1)))) [0x50, 0x41, 0x49, 0x52] 0
    (List.zipWith (fun a b => a ^^^ b) s.eui (s.obj 0x2020 2)) 16

/-- Table 14.4: a derived key of a kind; a private scalar is d = (c mod (n − 1)) + 1 of FIPS 186-5 A.2.1, with n the order of its curve. -/
def derivedKey (kind : Nat) (key label : List Byte) (g : Nat) (context : List Byte) : List Byte :=
  let out (n : Nat) : List Byte := kdf key label g context n
  let scalar (bytes n : Nat) : List Byte := (toLE bytes (fromLE (out (bytes + 8)).reverse % (n - 1) + 1)).reverse
  match kind with
  | 0x11 => scalar 32 0xFFFFFFFF00000000FFFFFFFFFFFFFFFFBCE6FAADA7179E84F3B9CAC2FC632551
  | 0x12 => scalar 48 0xFFFFFFFFFFFFFFFFFFFFFFFFFFFFFFFFFFFFFFFFFFFFFFFFC7634D81F4372DDF581A0DB248B0A77AECEC196ACCC52973
  | _ => out (kindBytes kind)

/-- Table 14.5: the effect of a command whose checks have passed. -/
def State.keyApply (s : State) (code : Nat) (c : KeyCmd) : State :=
  match code with
  | 1 => let (k, s1) := s.drbgTake (kindBytes c.kind); s1.keyWrite c c.parent c.kind 2 k
  | 2 => s.keyWrite c c.parent c.kind 1 (derivedKey c.kind (s.slot c.parent).key c.label c.g c.context)
  | 3 => s.keyWrite c c.parent c.kind 3 (pointCompress c.kind c.data)
  | 4 =>
    let b := (s.keyPlain c).getD []
    let p := s.slot 8
    if (s.slot c.slot).gen = leAt b 2 2 ∧ (s.slot c.slot).key = slice b 8 16 then s
    else
      (((s.putSlot c.slot { key := fit 16 (slice b 8 16), state := 1, kind := leAt b 1 1, parent := 8, depth := p.depth + 1, gen := leAt b 2 2,
                            parentGen := p.gen, attr := (s.slot c.slot).attr, origin := 3 }).slotChanged c.slot).tagHold).bumpU32 0x2B00 2 4 1
  | 5 => s.keyWrite c 3 1 4 s.pairKey
  | 6 => (s.putSlot c.slot { s.slot c.slot with state := 2 }).slotChanged c.slot
  | 7 => ((s.putSlot c.slot {}).slotChanged c.slot).tagHold
  | _ => s

/-- Table 14.12: KEY_CMD_RESULT. -/
def keyResult (status slot gen : Nat) : Nat := status + slot % 256 * 256 + gen % 65536 * 65536

/-- R408: a key command: checked, then applied, counted and recorded; its result and CMD_DONE follow. -/
def State.keyCommand (s : State) (code : Nat) (c : KeyCmd) : State :=
  let st := s.keyCheck code c
  if st = 0 then
    let s1 := s.keyApply code c
    let g := (s1.slot c.slot).gen
    (((s1.bumpU32 0x2B00 2 2 1).record 0x12 2 c.slot code g).wrN Reg.KEY_CMD_RESULT (keyResult 0 c.slot g)).wrB Reg.KEY_INT_STAT 0 true
  else
    ((s.bumpU32 0x2B00 2 3 1).wrN Reg.KEY_CMD_RESULT (keyResult st c.slot 0)).wrB Reg.KEY_INT_STAT 0 true

/-- R408, R419: the initiators that may write KEY_CMD. -/
def State.keyRow (s : State) (ini : Initiator) (code : Nat) (c : KeyCmd) : State :=
  s.regWrite ini ini.resident Reg.KEY_CMD (fun t => t.keyCommand code c)

/-- GENERATE, R408. -/
def execKeyGenerate (ini : Initiator) (c : KeyCmd) (s : State) : Host.Outcome State Fault Refusal := .next (s.keyRow ini 1 c)

/-- DERIVE, R406. -/
def execKeyDerive (ini : Initiator) (c : KeyCmd) (s : State) : Host.Outcome State Fault Refusal := .next (s.keyRow ini 2 c)

/-- IMPORT_PUBLIC, R408. -/
def execImportPublic (ini : Initiator) (c : KeyCmd) (s : State) : Host.Outcome State Fault Refusal := .next (s.keyRow ini 3 c)

/-- IMPORT_WRAPPED, R414. -/
def execImportWrapped (ini : Initiator) (c : KeyCmd) (s : State) : Host.Outcome State Fault Refusal := .next (s.keyRow ini 4 c)

/-- AGREE, R413. -/
def execKeyAgree (ini : Initiator) (c : KeyCmd) (s : State) : Host.Outcome State Fault Refusal := .next (s.keyRow ini 5 c)

/-- INVALIDATE, R410. -/
def execKeyInvalidate (ini : Initiator) (c : KeyCmd) (s : State) : Host.Outcome State Fault Refusal := .next (s.keyRow ini 6 c)

/-- ERASE, R408. -/
def execKeyErase (ini : Initiator) (c : KeyCmd) (s : State) : Host.Outcome State Fault Refusal := .next (s.keyRow ini 7 c)

/-- R404: a slot whose tag fails becomes TAG_FAIL and unusable. -/
def State.tagFail (s : State) (i : Nat) : State :=
  let s1 := (s.putSlot i { s.slot i with state := 3 }).slotChanged i
  (((((s1.wrB Reg.KEY_INT_STAT 1 true).bump Reg.KEY_TAG_FAILS 1).bumpU32 0x2B00 2 0 1).record 0x12 1 i 0 0).raiseActive 24)

/-- R403, R404: does a slot carry a tag that can fail: not slot 0, not one that is EMPTY or has failed? -/
def State.tagged (s : State) (i : Nat) : Bool := Nat.blt 0 i && !(Nat.beq (s.slot i).state 0) && !(Nat.beq (s.slot i).state 3)

/-- KEY_SCRUB, R404: the scrub visits the next slot, whose tag fails or passes as the array holds it. Slot 0 carries no tag and
an EMPTY slot none to check. -/
def execKeyScrub (fails : Bool) (s : State) : Host.Outcome State Fault Refusal :=
  .next (
    let i := s.key.scrubNext % 256
    let s1 := if fails && s.tagged i then s.tagFail i else s
    let p := if i = 255 then min 65535 (s.key.scrubPasses + 1) else s.key.scrubPasses
    ({ s1 with key := { s1.key with scrubNext := (i + 1) % 256, scrubPasses := p } }).wrN Reg.KEY_SCRUB ((i + 1) % 256 + p * 65536))

end Sys2Proof.Machine
end

