-- ==== Sys2Proof/Machine/Memory.lean ====
section
/-! DEFINITION. The address map and the fabric's filters: which region an address lies in, whom it admits, and accesses of the
block initiators through the filters (R13, R17, R18, R502, Tables 1.2, 1.4 and 1.5). -/

namespace Sys2Proof.Machine

/-- Tables 1.2, 1.4 and 1.5: the regions of memory. -/
inductive Region where
  | rom | tcm | log | metering | dictionary | journal | mramReserved | registers
  | supervisor | control | packet | integrator | dramReserved | resident | absent
  deriving DecidableEq, Repr

/-- Tables 1.2, 1.4 and 1.5: the region of an address. -/
def regionOf (a : Nat) : Region :=
  if a < 0x10000 then .rom
  else if 0x100000 ≤ a ∧ a < 0x180000 then .tcm
  else if 0x20000000 ≤ a ∧ a < 0x20800000 then .log
  else if 0x20800000 ≤ a ∧ a < 0x20900000 then .metering
  else if 0x20900000 ≤ a ∧ a < 0x20B00000 then .dictionary
  else if 0x20B00000 ≤ a ∧ a < 0x20C00000 then .journal
  else if 0x20C00000 ≤ a ∧ a < 0x21000000 then .mramReserved
  else if 0x40000000 ≤ a ∧ a < 0x40180000 then .registers
  else if 0x80000000 ≤ a ∧ a < 0x90000000 then .supervisor
  else if 0x90000000 ≤ a ∧ a < 0x98000000 then .control
  else if 0x98000000 ≤ a ∧ a < 0xB8000000 then .packet
  else if 0xB8000000 ≤ a ∧ a < 0xD8000000 then .integrator
  else if 0xD8000000 ≤ a ∧ a < 0xE0000000 then .dramReserved
  else if 0xE0000000 ≤ a ∧ a < 0x160000000 then .resident
  else .absent

/-- Is the initiator one of cores 0 to 2? -/
def coreResident (i : Initiator) : Bool := decide (i = .app0 ∨ i = .app1 ∨ i = .app2)

/-- Does a region admit a read? `integ` marks a DMA channel granted to core 3, or queue 3 of CRY. -/
def Region.reads (r : Region) (i : Initiator) (integ : Bool) : Bool :=
  match r with
  | .rom | .tcm | .supervisor => decide (i = .sup)
  | .log => decide (i = .sup ∨ i = .evr) || coreResident i
  | .metering => decide (i = .sup ∨ i = .mtr) || coreResident i
  | .dictionary | .mramReserved => decide (i = .sup) || coreResident i
  | .journal => decide (i = .sup ∨ i = .upd) || coreResident i
  | .control => decide (i = .ctl ∨ i = .sup) || coreResident i
  | .packet => coreResident i || (decide (i = .dma ∨ i = .cry) && !integ) || decide (i = .mac0 ∨ i = .mac1 ∨ i = .mac2 ∨ i = .mac3 ∨ i = .scan)
  | .integrator => decide (i = .app3) || coreResident i || (decide (i = .dma ∨ i = .cry) && integ)
  | .resident => coreResident i || (decide (i = .cry) && !integ)
  | .registers | .dramReserved | .absent => false

/-- Does a region admit a write? Table 1.4 names the writers of the MRAM; the boot ROM has none. -/
def Region.writes (r : Region) (i : Initiator) (integ : Bool) : Bool :=
  match r with
  | .rom | .mramReserved => false
  | .log => decide (i = .evr)
  | .metering => decide (i = .mtr ∨ i = .sup)
  | .dictionary => decide (i = .app1)
  | .journal => decide (i = .upd ∨ i = .sup)
  | _ => r.reads i integ

/-- Does every byte of a range lie in the region of its first byte? -/
def rangeIn (a n : Nat) : Bool := decide (regionOf a = regionOf (a + (n - 1)))

/-- R18, R21: does the filter pass an access of n bytes? -/
def admits (write : Bool) (i : Initiator) (integ : Bool) (a n : Nat) : Bool :=
  let one (r : Region) : Bool := if write then r.writes i integ else r.reads i integ
  one (regionOf a) && one (regionOf (a + (n - 1)))

/-- The bytes a read of memory returns: the event log shows its records (R449), the reserved part of the MRAM reads 0, every
other byte is what was written. The records at and above LOG_COUNT have undefined content (R450). -/
def State.memByte (s : State) (a : Nat) : Byte :=
  match regionOf a with
  | .log =>
    let i := (a - 0x20000000) / 32
    match s.evr.log[i]? with
    | some r => (r.bytes).getD ((a - 0x20000000) % 32) 0
    | none => BitVec.ofNat 8 (Config.staleLog (a - 0x20000000) s.freeIx)
  | .mramReserved => 0
  | _ => s.rdMem a

/-- n bytes as a reader sees them. -/
def State.memBytes (s : State) (a : Nat) : Nat → List Byte
  | 0 => []
  | n + 1 => s.memByte a :: s.memBytes (a + 1) n

/-- R472, R504: does an access of n bytes meet the word whose access the drill unit makes return an error response? -/
def State.errorAt (s : State) (a n : Nat) : Bool :=
  match s.fault.errorAddr with
  | some e => Nat.blt e (a + n) && Nat.blt a (e + 16)
  | none => false

/-- R354, R472: an error response that the drill unit injected has been returned: FABRIC is raised, marked in DRILL. -/
def State.errorTaken (s : State) : State :=
  ({ s with fault := { s.fault with errorAddr := none } }).raiseWith 30 false s.inDrill

/-- R13, R502: the SYS_BUS_ERR flag of an access refused at an address: ABSENT outside every region, PERM elsewhere. -/
def refusedFlag (a : Nat) : Nat := if regionOf a = .absent then 3 else 2

/-- R13, R502: a block initiator's access of n bytes refused: the first byte that is not admitted names the flag and the address. -/
def State.busRefused (s : State) (write : Bool) (i : Initiator) (integ : Bool) (a n : Nat) : State :=
  let at_ := if admits write i integ a 1 then a + (n - 1) else a
  s.busError (refusedFlag at_) i at_

/-- A read of memory by a block initiator other than the DMA engine's copies: the bytes and whether they were read; a refused read gives
zeros and sets PERM or ABSENT (R13, R502), and an injected error response gives zeros (R504). -/
def State.busRead (s : State) (i : Initiator) (integ : Bool) (a n : Nat) : List Byte × Bool × State :=
  if !admits false i integ a n then (List.replicate n 0, false, s.busRefused false i integ a n)
  else if decide (i ≠ .dma) && s.errorAt a n then (List.replicate n 0, false, s.errorTaken)
  else (s.memBytes a n, true, s)

/-- The bytes a block initiator's read answers, the read's effect on SYS_BUS_ERR left to `busRead` (R18, R502). -/
def State.busBytes (s : State) (i : Initiator) (integ : Bool) (a n : Nat) : List Byte := (s.busRead i integ a n).1

/-- A write of memory by a block initiator; a refused write has no effect and sets PERM or ABSENT (R13, R502). -/
def State.busWrite (s : State) (i : Initiator) (integ : Bool) (a : Nat) (bs : List Byte) : State :=
  if !admits true i integ a bs.length then s.busRefused true i integ a bs.length
  else if decide (i ≠ .dma) && s.errorAt a bs.length then s.errorTaken
  else s.writeMem a bs

end Sys2Proof.Machine
end

