-- ==== Sys2Proof/Machine/Cards.lean ====
section
/-! DEFINITION. Report cards and neighbour entries: the data the membership rules and the MAC engines share (R168, R187, R188,
R214, Table 5.19). -/

namespace Sys2Proof.Machine

/-- The value listed for a number, if any. -/
def assoc? {α : Type} (k : Nat) (l : List (Nat × α)) : Option α := (l.find? (fun e => Nat.beq e.1 k)).map (fun e => e.2)

/-- A field of lantern N's report card, as a number. -/
def State.card (s : State) (n sub : Nat) : Nat := s.objN (0x6000 + n) sub

/-- A field of a report card replaced, in `len` bytes. -/
def State.setCard (s : State) (n sub len v : Nat) : State := s.setObjN (0x6000 + n) sub len v

/-- Table 6.1: the states that hold a neighbour entry and count toward MEMBERS. -/
def holdsEntry (st : Nat) : Bool := Nat.ble 3 st && Nat.ble st 6

/-- R297: the accumulator of the interval that holds a boundary. -/
def State.accAt (s : State) (b : Ns) : ReconAcc :=
  let per := s.objN 0x2650 1 * 1000000000
  let st := b / per * per
  (s.mtr.accs.find? (fun a => Nat.beq a.start st)).getD { start := st }

/-- The accumulator replaced. -/
def State.setAcc (s : State) (a : ReconAcc) : State :=
  { s with mtr := { s.mtr with accs := s.mtr.accs.filter (fun (x : ReconAcc) => !(Nat.beq x.start a.start)) ++ [a] } }

/-- R298: a lantern whose membership state moves counts in the interval in progress where either state makes it count. -/
def State.reconMove (s : State) (n old dest : Nat) : State :=
  if (holdsEntry old || holdsEntry dest) && !(Nat.beq (s.card n 0x60) 0xFF) then
    let a := s.accAt s.time.now
    s.setAcc { a with lanterns := union a.lanterns [n] }
  else s

/-- R188: the membership state moves, with or without the event STATE_CHANGE. -/
def State.cardMove (s : State) (n dest : Nat) (event : Bool) : State :=
  let old := s.card n 3
  let s1 := (s.setCard n 3 1 dest).reconMove n old dest
  if event then s1.record 0x31 1 n old dest else s1

/-- The lantern numbers whose card lists a state, from the object store. -/
def State.listedCards (s : State) : List Nat :=
  (s.objs.filter (fun e => Nat.ble 0x600000 e.1 && Nat.blt e.1 0x700000 && Nat.beq (e.1 % 256) 3)).map (fun e => e.1 / 256 - 0x6000)

/-- The lanterns of a cohort whose state passes a test. -/
def State.cohortCards (s : State) (c : Nat) (p : Nat → Bool) : List Nat :=
  s.listedCards.filter (fun n => Nat.beq (s.card n 5) c && p (s.card n 3))

/-- Table 6.15: MEMBERS of a cohort. -/
def State.members (s : State) (c : Nat) : Nat := (s.cohortCards c holdsEntry).length

/-! ## Neighbour entries -/

/-- R187: is neighbour entry i of MAC n valid? -/
def State.nbValid (s : State) (n i : Nat) : Bool := s.rdB (Reg.MAC_NB n i 0) 12

/-- Table 5.19: the lantern of a neighbour entry. -/
def State.nbLantern (s : State) (n i : Nat) : Nat := s.rdF (Reg.MAC_NB n i 0) 11 0

/-- R176: is a neighbour DEMOTED? -/
def State.nbDemoted (s : State) (n i : Nat) : Bool := s.rdB (Reg.MAC_NB n i 0) 13

/-- The valid neighbour entries of MAC n. -/
def State.nbAll (s : State) (n : Nat) : List Nat := (upFrom 0 1024).filter (fun i => s.nbValid n i)

/-- The valid neighbour entry of a lantern. -/
def State.nbFind (s : State) (n lantern : Nat) : Option Nat :=
  (upFrom 0 1024).find? (fun i => s.nbValid n i && Nat.beq (s.nbLantern n i) lantern)

/-- Table 5.19: the EUI-64 of a neighbour entry. -/
def State.nbEui (s : State) (n i : Nat) : List Byte :=
  toLE 4 (s.rd (Reg.MAC_NB n i 6)).toNat ++ toLE 4 (s.rd (Reg.MAC_NB n i 7)).toNat

/-- R187, R191: VALID set from 0 to 1 restarts MISSED, WINDOW and SILENT_SF at 0. -/
def State.nbSetValid (s : State) (n i : Nat) : State :=
  let a := Reg.MAC_NB n i 0
  if s.nbValid n i then s else (s.wrF a 27 14 0).wrB a 12 true

/-- R187, R190: VALID cleared; the entry is released. -/
def State.nbRelease (s : State) (n i : Nat) : State := s.wrB (Reg.MAC_NB n i 0) 12 false

/-- R265: the hops of a lantern from the module, by its card's PARENT, four at most. -/
def State.lampDepth (s : State) : Nat → Nat → Nat
  | 0, _ => 1
  | k + 1, n => let p := s.card n 0x0A; if p / 0x4000 = 0 then 1 + s.lampDepth k (p % 0x1000) else 1

/-- R179, R200: a neighbour entry's counters saved with its lantern's card, so that they never restart while the card exists. -/
def State.nbSave (s : State) (n i : Nat) : State :=
  (s.setCard (s.nbLantern n i) 0x0E 4 (s.rd (Reg.MAC_NB n i 4)).toNat).setCard (s.nbLantern n i) 0x0F 4 (s.rd (Reg.MAC_NB n i 5)).toNat

/-- A command for a lantern (Table 6.11): its number, code and body; it waits for the cohort's transmit ring. -/
def State.sendCommand (s : State) (n code : Nat) (body : List Byte) : State :=
  { s with member := { s.member with outbox := s.member.outbox ++ [{ cohort := s.card n 5, lantern := n, type := 4, code := code, body := body }] } }

/-- A DATA body for a lantern (Table 5.11). -/
def State.sendData (s : State) (n code : Nat) (body : List Byte) : State :=
  { s with member := { s.member with outbox := s.member.outbox ++ [{ cohort := s.card n 5, lantern := n, type := 1, code := code, body := body }] } }

/-- R209: a member at the boundary is sent PROBE_CFG with PROBE_INTERVAL; 0 stops the probes of one that no longer is. -/
def State.probeConfig (s : State) (n : Nat) : State :=
  let st := s.card n 3
  if st = 4 ∨ st = 5 ∨ st = 6 then s.sendCommand n 0x17 (toLE 2 (if s.card n 0x18 = 1 then s.objN 0x7000 0x0A else 0)) else s

/-- A MAC engine's state. -/
def State.mac (s : State) (n : Nat) : MacState := s.macs.getD n {}

/-- A MAC engine's state replaced. -/
def State.setMac (s : State) (n : Nat) (m : MacState) : State := { s with macs := setAt s.macs n m }

/-- The ASN of MAC n (R153). -/
def State.asn (s : State) (n : Nat) : Nat := (s.rd (Reg.MAC_ASN_LO n)).toNat + s.rdF (Reg.MAC_ASN_HI n) 7 0 * 2 ^ 32

/-- R187, R190: the first neighbour entry of MAC n that no lantern holds and that is free since the last commit. -/
def State.nbFree (s : State) (n : Nat) : Option Nat := (upFrom 0 1024).find? (fun i => !s.nbValid n i && !(s.mac n).released.contains i)

/-- R153: the ASN of MAC n replaced, modulo 2^40. -/
def State.setAsn (s : State) (n v : Nat) : State :=
  (s.wrN (Reg.MAC_ASN_LO n) (v % 2 ^ 32)).wrF (Reg.MAC_ASN_HI n) 7 0 (v / 2 ^ 32)

/-- Table 5.19: a lantern is DEMOTED or not. -/
def State.nbDemote (s : State) (n i : Nat) (b : Bool) : State := s.wrB (Reg.MAC_NB n i 0) 13 b

/-- R176, R188, R206: a lantern heard again: DEMOTED and SILENT_SF cleared, RECOVERED raised; the event and the move to MEMBER
are recorded unless the lantern is PARKED, which moves only where it was heard in a DAY cell of its own. -/
def State.recovered (s : State) (n i : Nat) (ownDay : Bool) : State :=
  let a := Reg.MAC_NB n i 0
  let l := s.nbLantern n i
  let s1 := ((s.wrB a 13 false).wrF a 27 20 0).wrB (Reg.MAC_INT_STAT n) 3 true
  if s.card l 3 = 6 then (s1.record (4 + n) 2 l 0 0).cardMove l 4 true
  else if s.card l 3 = 5 ∧ ownDay = true then s1.cardMove l 4 false
  else s1

/-- R176, R188, R206: a silent lantern is demoted; PARKED lanterns' demotions are not recorded. -/
def State.demote (s : State) (n i : Nat) : State :=
  let l := s.nbLantern n i
  let s1 := (s.nbDemote n i true).wrB (Reg.MAC_INT_STAT n) 2 true
  if s.card l 3 = 5 then s1
  else
    let s2 := s1.record (4 + n) 1 l 0 0
    if s.card l 3 = 4 then ((s2.cardMove l 6 true).setCard l 0x10 2 (s.card l 0x10 + 1)) else s2

/-- R188, R209: the first frame accepted from an ENROLLING lantern in its own cells makes it a MEMBER. -/
def State.heardFrom (s : State) (l : Nat) (own : Bool) : State :=
  let s1 := s.setObj (0x6000 + l) 0x0C (time80 s.time.now)
  if s.card l 3 = 3 ∧ own = true then
    let s2 := s1.cardMove l 4 true
    if s.card l 0x18 = 1 then s2.probeConfig l else s2
  else s1

/-- R222: the efficiency in use for a lantern, in units of 1/65,536: 65,536 until one has been formed. -/
def State.efficiency (s : State) (l : Nat) : Nat :=
  let e := s.card l 0x42
  if e = 0 ∨ e = 65535 then 65536 else max e (s.objN 0x2400 4)

end Sys2Proof.Machine
end

