-- ==== Sys2Proof/Machine/Estimates.lean ====
section
/-! DEFINITION. The estimates CAL forms from frames and events as they arrive (R399, R400). -/

namespace Sys2Proof.Machine

/-- Is a function of object 0x2A00:04 FUNCTIONS on (R401)? -/
def State.calFunction (s : State) (k : Nat) : Bool := Nat.testBit (s.objN 0x2A00 4) k

/-- The entry of an association list with a key replaced. -/
def putKey {α : Type} (k : Nat) (v : α) (l : List (Nat × α)) : List (Nat × α) :=
  l.filter (fun (e : Nat × α) => !(Nat.beq e.1 k)) ++ [(k, v)]

/-- The value of an association list at a key. -/
def getKey {α : Type} (k : Nat) (d : α) (l : List (Nat × α)) : α :=
  match l.find? (fun (e : Nat × α) => Nat.beq e.1 k) with
  | some e => e.2
  | none => d

/-- R399: an integer quotient rounded as the spec leaves open. -/
def openQuot (num : Int) (den : Nat) : Int := num / (den : Int) + (if num % (den : Int) = 0 then 0 else (b2n (Config.roundUp num den) : Int))

/-- A quotient rounded to nearest; a tie is rounded as the spec leaves open. -/
def nearQuot (num : Int) (den : Nat) : Int := if (2 * num) % (2 * (den : Int)) = (den : Int) then openQuot num den else divRound num den

/-- R399: a daily mean joined by an offset; a new day brings FREQ_TREND up to date, over the last 90 days. -/
def State.freqDay (s : State) (l : Nat) (x : Int) : State :=
  let day := s.time.now / 86400000000000
  let ds := getKey l [] s.cal.daily
  match ds.getLast? with
  | some d =>
    if d.1 = day then { s with cal := { s.cal with daily := putKey l (ds.dropLast ++ [(day, d.2.1 + x, d.2.2 + 1)]) s.cal.daily } }
    else
      let keep := ds.filter (fun (e : Nat × Int × Nat) => Nat.blt day (e.1 + 91))
      ({ s with cal := { s.cal with daily := putKey l (keep ++ [(day, x, 1)]) s.cal.daily } }).setCard l 0x41 2 (enc 16 (Config.trend keep))
  | none => { s with cal := { s.cal with daily := putKey l [(day, x, 1)] s.cal.daily } }

/-- R399: the limit: FREQ_HIGH is set above it and recorded once, and clears below 0.8 of it. -/
def State.freqLimit (s : State) (l : Nat) (x : Int) : State :=
  let lim := s.objN 0x2A40 1
  let high := Nat.testBit (s.card l 0x44) 0
  if !high && Nat.blt lim x.natAbs then (s.setCard l 0x44 1 1).record 0x0B 6 l (enc 32 x) 0
  else if high && Nat.blt (10 * x.natAbs) (8 * lim) then s.setCard l 0x44 1 0 else s

/-- R399: a frame accepted by MAC n from a lantern: FREQ_OFFSET, in 0.1 ppm, filtered with a weight of 1/16; the filter keeps
0.001 ppm. -/
def State.freqUpdate (s : State) (n l : Nat) (cfo : Int) : State :=
  if s.calFunction 3 then
    let y := getKey l 0 s.cal.offsets
    let x := cfo * 100 + sx 32 (s.rd (Reg.CAL_RAD_PPM n)).toNat
    let y1 := y + openQuot (x - y) 16
    let o := openQuot y1 100
    let s1 := ({ s with cal := { s.cal with offsets := putKey l y1 s.cal.offsets } }).setCard l 0x40 2 (enc 16 o)
    (s1.freqDay l o).freqLimit l o
  else s

/-- R400: an accepted event kept for the sensor pairs. -/
def State.calEvent (s : State) (l group dir : Nat) (t : Ns) : State :=
  if s.calFunction 4 then
    { s with cal := { s.cal with events := s.cal.events ++ [{ lantern := l, group := group, dir := dir, time := t }] } }
  else s

end Sys2Proof.Machine
end

