-- ==== Sys2Proof/Machine/Mac.lean ====
section
/-! DEFINITION. The MAC engines and SCAN: slots, the schedule, hopping, transmission, the receive checks, acknowledgements and the
frame rings (R149 to R187). -/

namespace Sys2Proof.Machine

/-- Table 1.1: the initiator of MAC n. -/
def macInitiator (n : Nat) : Initiator :=
  match n with
  | 0 => .mac0 | 1 => .mac1 | 2 => .mac2 | _ => .mac3

/-- Table 5.20: counter c of MAC n advances. -/
def State.macCount (s : State) (n c : Nat) : State := s.bump (Reg.MAC_COUNTER n c) 1

/-- Table 5.17: bit i of MACn_INT_STAT is set. -/
def State.macInt (s : State) (n i : Nat) : State := s.wrB (Reg.MAC_INT_STAT n) i true

/-! ## The PHY -/

/-- Table 5.1: the channel spacing of a mode, in kHz; 0 for a code the table does not list. -/
def phySpacing (code : Nat) : Nat :=
  if code = 1 ∨ code = 2 ∨ code = 0x14 then 200 else if code = 3 ∨ code = 4 ∨ code = 5 ∨ code = 0x13 then 400
  else if code = 0x12 then 800 else if code = 0x11 then 1200 else 0

/-- Table 5.1: the rate of an MR-FSK mode, in kbit/s. -/
def fskRate (code : Nat) : Nat :=
  if code = 1 then 50 else if code = 2 then 100 else if code = 3 then 150 else if code = 4 then 200 else 300

/-- R149, R161: the duration in µs of a PPDU of n bytes, rounded up. -/
def airTime (phy : Word) (n : Nat) : Nat :=
  let code := fld phy 7 0
  if 0x11 ≤ code then Config.ofdmAir code (fld phy 11 8) n
  else ((fld phy 23 16 + 4 + n) * 8000 + fskRate code - 1) / fskRate code

/-! ## Hopping -/

/-- R159: one step of the hop sequence's shift register. -/
def hopBit (l : Nat) : Nat := l / 2 + ((l + l / 4 + l / 8 + l / 32) % 2) * 2 ^ 15

/-- R159: sixteen steps. -/
def hopSteps : Nat → Nat → Nat
  | 0, l => l
  | k + 1, l => hopSteps k (hopBit l)

/-- R159: the shuffle from place i down to 1. -/
def hopShuffle : Nat → Nat → List Nat → List Nat
  | 0, _, seq => seq
  | i + 1, l, seq =>
    let l1 := hopSteps 16 l
    let j := l1 % (i + 2)
    hopShuffle i l1 (setAt (setAt seq (i + 1) (seq.getD j 0)) j (seq.getD (i + 1) 0))

/-- R159: the hop sequence, a permutation of 0 to HOP_LEN − 1. -/
def hopSequence (len seed : Nat) : List Nat := hopShuffle (len - 1) (if seed = 0 then 0xACE1 else seed) (upFrom 0 len)

/-- R159: the hop-set channel a non-discovery cell of transceiver n uses. -/
def State.hopChannel (s : State) (n a chOffset : Nat) : Nat :=
  let m := s.mac n
  let len := fld m.hop 6 0
  let ix := (hopSequence len (fld m.hop 31 16)).getD ((4 * (a + chOffset) + (n + a / m.len) % 4) % len) 0
  fld (m.hopch.getD (ix / 4) 0) (8 * (ix % 4) + 7) (8 * (ix % 4))

/-- R159: the discovery channel of a slot. -/
def State.discChannel (s : State) (n a : Nat) : Nat :=
  let k := a % (fld (s.mac n).hop 11 10 + 1)
  s.rdF (Reg.MAC_DISC n) (8 * k + 7) (8 * k)

/-! ## Cells and commits -/

/-- Table 5.3: the running cell entry of a slot offset. -/
def MacState.cell (m : MacState) (o : Nat) : Word := Sparse.get (fun _ => (0 : Word)) m.cells o

/-- R156: the entry that governs a slot offset, that of the first slot of its cell, and how many slots the cell has run; idle where none does. -/
def MacState.cellOver (m : MacState) (o : Nat) : Nat × Word :=
  match (upFrom 0 8).find? (fun k => Nat.ble k o && !bit (m.cell (o - k)) 3) with
  | some k => if k ≤ fld (m.cell (o - k)) 24 22 then (k, m.cell (o - k)) else (0, 0)
  | none => (0, 0)

/-- R156, R158: the entry that governs the slot of an ASN and the slots its cell has run; under day duty only DAY cells run. -/
def State.cellAt (s : State) (n a : Nat) : Nat × Word :=
  let r := (s.mac n).cellOver (a % (s.mac n).len)
  if fld r.2 1 0 = 0 ∨ (s.rdB (Reg.MAC_STATUS n) 1 && !bit r.2 2) then (0, 0) else r

/-- R156: the entry that governs the current slot. -/
def State.cellNow (s : State) (n : Nat) : Word := (s.cellAt n (s.asn n)).2

/-- R156: the entry of a cell that begins in the current slot; idle where none begins. -/
def State.cellFirst (s : State) (n : Nat) : Word := if (s.cellAt n (s.asn n)).1 = 0 then s.cellNow n else 0

/-- R156, R159: the channel of a cell whose first slot has an ASN, for the cell's whole length: of the discovery channels or of the hop set. -/
def State.cellChannel (s : State) (n first : Nat) (cell : Word) : Bool × Nat :=
  if fld cell 5 4 = 3 then (true, s.discChannel n first) else (false, s.hopChannel n first (fld cell 9 6))

/-- R157: the staged cells that are listed, by slot offset. -/
def State.stagedCells (s : State) (n : Nat) : List (Nat × Word) :=
  let base := Reg.MAC_CELL n 0
  (s.regs.filter (fun e => Nat.ble base e.1 && Nat.blt e.1 (base + 4 * 4099))).map (fun e => ((e.1 - base) / 4, e.2))

/-- R157: the REASON a commit is refused, 0 for none; 5 is R151's spacing rule. -/
def State.commitReason (s : State) (n : Nat) : Nat :=
  let l := s.rdF (Reg.MAC_SLOTFRAME n) 12 0
  let h := s.rdF (Reg.MAC_HOP n) 6 0
  let cells := s.stagedCells n
  let used (c : Word) : Bool := !bit c 3 && !(Nat.beq (fld c 1 0) 0)
  let day := (cells.filter (fun e => Nat.blt e.1 l && used e.2 && bit e.2 2)).foldl (fun a e => a + fld e.2 24 22 + 1) 0
  if l < 101 ∨ 4099 < l then 1
  else if h < 4 ∨ 64 < h ∨ h % 4 ≠ 0 then 2
  else if cells.any (fun e => Nat.blt e.1 l && used e.2 && Nat.blt l (e.1 + fld e.2 24 22 + 1)) then 3
  else if l < 10 * day then 4
  else if phySpacing (s.rdF (Reg.MAC_PHY n) 7 0) = phySpacing (s.objN 0x2210 1 % 256) then 0 else 5

/-- SCHEDULE_COMMIT, R157: COMMIT stands until the boundary, or the commit is refused. -/
def State.scheduleCommit (s : State) (n : Nat) : State :=
  let r := s.commitReason n
  let a := Reg.MAC_SCHED_CTRL n
  if r = 0 then (s.wrB a 0 true).wrF a 7 4 0
  else (((s.wrB a 0 false).wrB a 1 true).wrF a 7 4 r).macInt n 9

/-- SCHEDULE_COMMIT. -/
def execScheduleCommit (ini : Initiator) (n : Fin 4) (s : State) : Host.Outcome State Fault Refusal :=
  .next (s.regWrite ini ini.resident (Reg.MAC_SCHED_CTRL n.val) (fun t => t.scheduleCommit n.val))

/-- R185: the registers outside the staging copy that follow the mesh objects, written at the commit after the objects. -/
def State.radioLive (s : State) (c : Nat) : State :=
  if (s.mac c).liveDue then
    let s0 := s.setMac c { s.mac c with liveDue := false }
    let s1 := (s0.wrF (Reg.MAC_ADDR c) 15 0 (s.objN 0x2200 1)).wrN (Reg.MAC_DISC c) (leAt (s.obj 0x2200 4) 0 4)
    let s2 := (s1.wrF (Reg.MAC_TIMING c) 11 0 (s.objN 0x2200 5)).wrF (Reg.MAC_TIMING c) 23 12 (s.objN 0x2200 6)
    ((s2.wrF (Reg.MAC_RETRY c) 3 0 (s.objN 0x2200 7)).wrF (Reg.MAC_RETRY c) 15 8 (s.objN 0x2200 8)).wrF (Reg.MAC_KEY c) 31 24 (s.objN 0x2200 9)
  else s

/-- R157: at slot offset 0 a pending commit applies the whole staging copy, or is refused if the copy no longer passes; entries released
before it are free from then on (R190). -/
def State.commitApply (s0 : State) (n : Nat) : State :=
  let a := Reg.MAC_SCHED_CTRL n
  if s0.rdB a 0 then
    if s0.commitReason n = 0 then
      let s := s0.radioLive n
      let s := { s with member := { s.member with cells := setAt s.member.cells n (s.stagedCells n) } }
      ((s.setMac n { s.mac n with released := [], len := s.rdF (Reg.MAC_SLOTFRAME n) 12 0, hop := s.rd (Reg.MAC_HOP n), phy := s.rd (Reg.MAC_PHY n),
                                  hopch := (upFrom 0 16).map (fun k => s.rd (Reg.MAC_HOPCH n k)), cells := s.stagedCells n }).wrB a 0 false).macInt n 8
    else s0.scheduleCommit n
  else s0

/-- R157: a commit asked for; a MAC that does not run takes the schedule at once. A commit that waits for an announced APPLY_ASN keeps its
instant (R202). -/
def State.commitNow (s : State) (n : Nat) : State :=
  if (s.mac n).commitAt.isSome then s
  else
    let s1 := s.scheduleCommit n
    if s1.rdB (Reg.MAC_STATUS n) 0 then s1 else s1.commitApply n

/-- R202: a commit that takes effect at an announced APPLY_ASN, a slotframe boundary; a MAC that does not run takes the schedule at once. -/
def State.commitFor (s : State) (n apply : Nat) : State :=
  if s.rdB (Reg.MAC_STATUS n) 0 then s.setMac n { s.mac n with commitAt := some apply }
  else (s.setMac n { s.mac n with commitAt := none }).commitNow n

/-- R202: at the slotframe boundary before an announced APPLY_ASN the commit is asked for. -/
def State.commitDue (s : State) (n : Nat) : State :=
  match (s.mac n).commitAt with
  | some a => if a ≤ s.asn n + (s.mac n).len then (s.setMac n { s.mac n with commitAt := none }).scheduleCommit n else s
  | none => s

/-- R202: the staged cells of a lantern that no longer is a neighbour are taken out. -/
def State.cellsDrop (s : State) (c lantern : Nat) : State :=
  ((s.stagedCells c).filter (fun e => !bit e.2 3 && Nat.beq (fld e.2 1 0) 2 && Nat.beq (fld e.2 5 4) 0 && Nat.beq (fld e.2 21 10) lantern)).foldl
    (fun t e => (upFrom e.1 (fld e.2 24 22 + 1)).foldl (fun u k => u.wrN (Reg.MAC_CELL c k) 0) t) s

/-- R190, R200, R202: neighbour entry i of a cohort released: its counters saved with the card, VALID cleared, its lantern's cells taken out,
and the entry free for another lantern from the next commit on. -/
def State.nbLeave (s : State) (c i : Nat) : State :=
  let l := s.nbLantern c i
  let s1 := ((s.nbSave c i).nbRelease c i).cellsDrop c l
  (s1.setMac c { s1.mac c with released := (s1.mac c).released ++ [i] }).commitNow c

/-- R190, R200: the neighbour entry of a lantern in its card's cohort is released. -/
def State.nbReleaseCard (s : State) (n : Nat) : State :=
  let c := s.card n 5
  if c < 4 then
    match s.nbFind c n with
    | some i => s.nbLeave c i
    | none => s
  else s

/-! ## Slots -/

/-- R153, R154: a slot starts: the ASN advances by 1, or takes MACn_ASN_SET where LOAD stands; its start is kept for 64 slotframes
(R219). -/
def State.slotStart (s : State) (n : Nat) : State :=
  let hi := Reg.MAC_ASN_SET_HI n
  let s1 := if s.rdB hi 31 then (s.setAsn n ((s.rd (Reg.MAC_ASN_SET_LO n)).toNat + s.rdF hi 7 0 * 2 ^ 32)).wrB hi 31 false
    else s.setAsn n ((s.asn n + 1) % 2 ^ 40)
  let m := s1.mac n
  let a := s1.asn n
  s1.setMac n { m with slotStart := s.time.now,
                       marks := m.marks.filter (fun e => Nat.blt a (e.1 + 64 * m.len) && !(Nat.beq e.1 a)) ++ [(a, s.time.now)] }

/-- R176: at a slotframe boundary SILENT_SF advances for a neighbour not heard in the slotframe just ended; at 8 it is demoted. -/
def State.silentEntry (n : Nat) (s : State) (i : Nat) : State :=
  if (s.mac n).heard.contains i then s
  else
    let a := Reg.MAC_NB n i 0
    let k := min 255 (s.rdF a 27 20 + 1)
    let s1 := s.wrF a 27 20 k
    if Nat.beq k 8 && !s.nbDemoted n i && !s.rdB (Reg.MAC_CTRL n) 2 then s1.demote n i else s1

/-- R176, R177: the silence of a slotframe just ended; nothing is demoted while the MAC listens only (R182). RADIO is raised with
SILENT (Table 17.1). -/
def State.silentAdvance (s : State) (n : Nat) : State :=
  let s1 := (s.nbAll n).foldl (State.silentEntry n) s
  let q := if (s.mac n).heard.isEmpty then (s.mac n).quiet + 1 else 0
  let s2 := s1.setMac n { s1.mac n with heard := [], quiet := q }
  if Nat.ble 3 q && !s.rdB (Reg.MAC_STATUS n) 4 && (s2.nbAll n).any (fun i => !s2.nbDemoted n i) then
    (((s2.wrB (Reg.MAC_STATUS n) 4 true).macInt n 5).raiseActive 18)
  else s2

/-- Is any transceiver SILENT, without marks or without its clock? RADIO is held while one is. -/
def State.radioHold (s : State) : State :=
  if (upFrom 0 4).any (fun n => s.rdB (Reg.MAC_STATUS n) 4 || s.rdB (Reg.MAC_STATUS n) 3 || s.fault.lost.contains (3 + n)) then s else s.unhold 18

/-! ## Rings -/

/-- R181: the address of entry `ix` of the ring whose BASE_LO register is at `a`. -/
def State.ringAddr (s : State) (a ix : Nat) : Nat :=
  (s.rd a).toNat + s.rdF (a + 4) 7 0 * 2 ^ 32 + 16 * (ix % s.rdF (a + 8) 12 0)

/-- R181: the ring's HEAD. -/
def State.ringHead (s : State) (a : Nat) : Nat := (s.rd (a + 12)).toNat

/-- R181: the ring's TAIL. -/
def State.ringTail (s : State) (a : Nat) : Nat := (s.rd (a + 16)).toNat

/-- Bytes of an entry as its engine reads them (R18, R502): zeros where the fabric refuses the read. -/
def State.ringBytes (s : State) (ini : Initiator) (a ix o n : Nat) : List Byte := s.busBytes ini false (s.ringAddr a ix + o) n

/-- R181: is entry `ix` owned by the engine? -/
def State.ringOwned (s : State) (ini : Initiator) (a ix : Nat) : Bool := Nat.testBit (leAt (s.ringBytes ini a ix 14 1) 0 1) 0

/-- Indices of a ring from TAIL to HEAD, SIZE at most. -/
def State.ringIndices (s : State) (a : Nat) : List Nat :=
  (upFrom 0 (min ((s.ringHead a + 2 ^ 32 - s.ringTail a) % 2 ^ 32) (s.rdF (a + 8) 12 0))).map (fun k => (s.ringTail a + k) % 2 ^ 32)

/-- R13, R502: what the engine's read of the ring's oldest entry does to SYS_BUS_ERR. -/
def State.ringTouch (s : State) (ini : Initiator) (a : Nat) : State :=
  if Nat.beq (s.ringHead a) (s.ringTail a) then s else (s.busRead ini false (s.ringAddr a (s.ringTail a)) 16).2.2

/-- R181: TAIL moves to the oldest entry still owned. -/
def State.ringAdvance (s : State) (ini : Initiator) (a : Nat) : State :=
  let l := (s.ringIndices a).takeWhile (fun ix => !s.ringOwned ini a ix)
  s.wrN (a + 16) ((s.ringTail a + l.length) % 2 ^ 32)

/-- R181: a received frame fills the next owned entry of a receive ring: the frame without MIC and FCS, its length, RSSI, stamp,
SRC and flags. Answers none where no entry is free. -/
def State.ringFill (s : State) (ini : Initiator) (a : Nat) (f : RadioFrame) (frame : List Byte) (flags : Nat) : Option State :=
  let ix := s.ringTail a
  if Nat.beq (s.ringHead a) ix || !s.ringOwned ini a ix then none
  else
    let e := s.ringAddr a ix
    let s1 := s.busWrite ini false (fromLE (s.ringBytes ini a ix 0 5)) frame
    let s2 := s1.busWrite ini false (e + 5) ([f.rssi] ++ toLE 2 frame.length ++ toLE 4 (f.stamp % 2 ^ 32) ++ slice frame 6 2 ++
      [BitVec.ofNat 8 flags, f.cfo])
    some (s2.wrN (a + 16) ((ix + 1) % 2 ^ 32))

/-- R181: the frame of a transmit entry, as the MAC reads it from its buffer. -/
def State.txBytes (s : State) (n ix : Nat) : List Byte :=
  let e := s.ringBytes (macInitiator n) (Reg.MAC_TXR_BASE_LO n) ix 0 16
  s.busBytes (macInitiator n) false (leAt e 0 5) (leAt e 6 2)

/-- R181: what the tries of an entry not yet returned were: the frame that awaits its ACK, or one to be sent again. -/
def MacState.tried (m : MacState) (ix : Nat) : Option MacAwait := (m.awaiting.toList ++ m.retries).find? (fun w => Nat.beq w.entry ix)

/-- R190: a LEAVE to a retired lantern, acknowledged or not, releases the lantern's entry. -/
def State.leaveReturned (s : State) (n : Nat) (b : List Byte) : State :=
  let l := leAt b 4 2 % 0x1000
  if Nat.beq (leAt b 0 1 % 8) 4 && Nat.beq (leAt b 15 1) 0x16 && Nat.beq (s.card l 3) 8 then
    match s.nbFind n l with
    | some i => s.nbLeave n i
    | none => s
  else s

/-- Table 5.14: a transmit entry returned with its status, its retries and the stamp of its last transmission; one never sent keeps both
fields as they were. -/
def State.txReturn (s : State) (n ix status : Nat) : State :=
  let a := Reg.MAC_TXR_BASE_LO n
  let ini := macInitiator n
  let e := s.ringAddr a ix
  let fl := leAt (s.ringBytes ini a ix 14 1) 0 1
  let s1 := match (s.mac n).tried ix with
    | some w => (s.busWrite ini false (e + 5) (toLE 1 (w.tries - 1))).busWrite ini false (e + 8) (toLE 4 w.stamp)
    | none => s
  let s2 := s1.busWrite ini false (e + 14) [BitVec.ofNat 8 (fl - fl % 2), BitVec.ofNat 8 status]
  let m := s2.mac n
  let s3 := s2.setMac n { m with awaiting := m.awaiting.filter (fun r => !(Nat.beq r.entry ix)), retries := m.retries.filter (fun r => !(Nat.beq r.entry ix)),
                                 backoff := m.backoff.filter (fun (r : Nat × Nat × Nat) => !(Nat.beq r.1 ix)) }
  ((s3.ringAdvance ini a).macInt n 1).leaveReturned n (s.txBytes n ix)

/-! ## Security -/

/-- R164: the nonce: the sender's EUI-64, FRAME_COUNTER big-endian, the security level. -/
def macNonce (eui : List Byte) (counter level : Nat) : List Byte := eui ++ (toLE 4 counter).reverse ++ [BitVec.ofNat 8 level]

/-- R193: the link key of a lantern under a cohort's active slot, with the label NLLK. -/
def State.linkKey (s : State) (n : Nat) (eui : List Byte) : List Byte :=
  kdf (s.slot (s.rdF (Reg.MAC_KEY n) 7 0)).key [0x4E, 0x4C, 0x4C, 0x4B] 0 eui 16

/-- R193: the cohort's broadcast key, with the label NLCB. -/
def State.cohortKey (s : State) (n : Nat) : List Byte :=
  kdf (s.slot (s.rdF (Reg.MAC_KEY n) 7 0)).key [0x4E, 0x4C, 0x43, 0x42] 0 (List.replicate 8 0) 16

/-- R164: the MIC of a frame: associated data from FRAME_CTRL to KEY_GEN, the payload as message. -/
def ccmMic (key nonce aad p : List Byte) : List Byte := fit 8 ((Config.ccmSeal 8 key nonce aad p).drop p.length)

/-- R163, R164: what follows KEY_GEN: the payload, encrypted or not, and the MIC, in a frame of the sender with an EUI-64 and FRAME_COUNTER. -/
def ccmFrame (enc : Bool) (key eui : List Byte) (counter : Nat) (aad p : List Byte) : List Byte :=
  let nonce := macNonce eui counter (if enc then 6 else 2)
  (if enc then fit p.length (Config.ccmSeal 8 key nonce aad p) else p) ++ ccmMic key nonce aad p

/-- R168, R193: the link key of a lantern under the generation a frame names, which is the one replaced while it is still accepted. -/
def State.rxKey (s : State) (n gen : Nat) (eui : List Byte) : List Byte :=
  let slot := if gen = s.rdF (Reg.MAC_KEY n) 15 8 then s.rdF (Reg.MAC_KEY n) 7 0 else (s.mac n).overlapSlot
  kdf (s.slot slot).key [0x4E, 0x4C, 0x4C, 0x4B] 0 eui 16

/-- R160, R171: the cell's channel, and the frame on it, as MAC n puts them on the air. -/
def State.onAir (s : State) (n : Nat) (b : List Byte) : State :=
  let r := s.cellAt n (s.asn n)
  s.setMac n { s.mac n with air := b, airOn := some (s.cellChannel n (s.asn n - r.1) r.2) }

/-- R204: is a link key in the derived-key cache? -/
def State.cached (s : State) (n : Nat) (eui : List Byte) (gen : Nat) : Bool := (s.mac n).cache.contains (eui, gen)

/-- R204: a link key joins the cache, or is used again: the least recently used of 256 gives way. Nothing is derived under a
slot whose chain check fails (R405). -/
def State.cacheUse (s : State) (n : Nat) (eui : List Byte) (gen : Nat) : State :=
  if s.chainCheck (s.rdF (Reg.MAC_KEY n) 7 0) ≠ .ok then s
  else
    let m := s.mac n
    let c := m.cache.filter (fun e => !(decide (e = (eui, gen))))
    s.setMac n { m with cache := (if c.length < 256 then c else c.tail) ++ [(eui, gen)] }

/-! ## Receiving -/

/-- Table 5.5: FRAME_CTRL.TYPE. -/
def frType (b : List Byte) : Nat := leAt b 0 1 % 8

/-- Table 5.5: a bit of FRAME_CTRL. -/
def frBit (b : List Byte) (i : Nat) : Bool := Nat.testBit (leAt b 0 1) i

/-- Table 5.5: the length of the header. -/
def frHeader (b : List Byte) : Nat := if frBit b 7 then 18 else 10

/-- R163: FRAME_COUNTER of a secured frame. -/
def frCounter (b : List Byte) : Nat := leAt b (frHeader b) 4

/-- R163: KEY_GEN of a secured frame. -/
def frKeyGen (b : List Byte) : Nat := leAt b (frHeader b + 4) 1

/-- Table 5.6: must a frame of the type be encrypted? -/
def typeEncrypted (t : Nat) : Bool := decide (t = 1 ∨ t = 3 ∨ t = 4)

/-- Table 5.18: the cohort MAC n serves. -/
def State.macCohort (s : State) (n : Nat) : Nat := s.rdF (Reg.MAC_ADDR n) 17 16

/-- R164: a received frame's payload: what stands on the air, or its decryption. -/
def State.rxPlain (s : State) (n i : Nat) (f : RadioFrame) : List Byte :=
  let b := f.bytes
  if frBit b 4 then
    fit f.body.length (Config.ccmOpen (s.rxKey n (frKeyGen b) (s.nbEui n i)) (macNonce (s.nbEui n i) (frCounter b) 6) b (f.body ++ f.mic))
  else f.body

/-- R164: the MIC that verifies for a received frame. -/
def State.rxMic (s : State) (n i : Nat) (f : RadioFrame) : List Byte :=
  let b := f.bytes
  ccmMic (s.rxKey n (frKeyGen b) (s.nbEui n i)) (macNonce (s.nbEui n i) (frCounter b) (if frBit b 4 then 6 else 2)) b (s.rxPlain n i f)

/-- Checks 1 and 2 of Table 5.12 for a frame heard under a cell entry: does the frame fail one, and its counter: 1 FCS, 2 FILTERED. -/
def rxFormat (cell : Word) (f : RadioFrame) : Option Nat :=
  let b := f.bytes
  if !f.fcsOk then some 1
  else if leAt b 1 1 ≠ 1 ∨ 6 ≤ frType b ∨ (frType b = 5 ∧ fld cell 5 4 ≠ 3) then some 2
  else none

/-- Checks 1 to 8 of Table 5.12: the counter of the first that fails, or the neighbour entry. Counters: 1 FCS, 2 FILTERED,
3 UNKNOWN, 4 SEC_FAIL, 5 KEY_MISS. A DISCOVERY frame carries no security header and meets no key (Table 5.6). -/
def State.rxKnown (s : State) (n : Nat) (cell : Word) (f : RadioFrame) : Except Nat Nat :=
  let b := f.bytes
  let dst := leAt b 4 2
  match rxFormat cell f with
  | some c => .error c
  | none =>
    if leAt b 2 2 ≠ s.rdF (Reg.MAC_ADDR n) 15 0 then .error 2
    else if dst ≠ 0x4000 + 0x1000 * s.macCohort n ∧ dst ≠ 0x8FFF + 0x1000 * s.macCohort n then .error 2
    else
      match (if frBit b 7 || !(Nat.beq (leAt b 6 2 / 0x1000) (s.macCohort n)) then none else s.nbFind n (leAt b 6 2 % 0x1000)) with
      | none => .error 3
      | some i =>
        if frType b = 5 then (if frBit b 3 then .error 4 else .ok i)
        else if !frBit b 3 || frBit b 4 != typeEncrypted (frType b) then .error 4
        else if frKeyGen b ≠ s.rdF (Reg.MAC_KEY n) 15 8 ∧ !((s.mac n).overlap && Nat.beq (frKeyGen b) (s.rdF (Reg.MAC_KEY n) 23 16)) then .error 4
        else if !s.cached n (s.nbEui n i) (frKeyGen b) then .error 5
        else .ok i

/-- Checks 1 to 9 of Table 5.12, the ninth the MIC of a secured frame (4 SEC_FAIL). -/
def State.rxChecks (s : State) (n : Nat) (cell : Word) (f : RadioFrame) : Except Nat Nat :=
  match s.rxKnown n cell f with
  | .error c => .error c
  | .ok i => if frType f.bytes ≠ 5 ∧ f.mic ≠ s.rxMic n i f then .error 4 else .ok i

/-! ## When a frame is heard -/

/-- R160, R173: the start of a neighbour's preamble past TX_OFFSET that the module expects, times 10⁹ ns: DRIFT times the time since the last
correction sent to it; 0 before the first (log entry 57). -/
def State.nbEstimate (s : State) (n i : Nat) : Int :=
  match (s.mac n).corrected.find? (fun e => Nat.beq e.1 i) with
  | some e => sx 32 (s.rd (Reg.MAC_NB n i 2)).toNat * ((s.time.now - e.2 : Nat) : Int)
  | none => 0

/-- R160, R174: the receive window of a cell's expected start in µs: GUARD, or that of a lantern whose frames were missed. -/
def State.rxWidth (s : State) (n : Nat) (i : Option Nat) : Nat :=
  match i with
  | none => s.rdF (Reg.MAC_TIMING n) 23 12
  | some j =>
    match s.rdF (Reg.MAC_NB n j 0) 19 18 with
    | 0 => s.rdF (Reg.MAC_TIMING n) 23 12
    | 1 => 2000
    | 2 => 4000
    | _ => 8000

/-- R160, R174: the neighbour entry whose lantern a receive cell is dedicated to. -/
def State.cellNeighbour (s : State) (n : Nat) (cell : Word) : Option Nat :=
  if fld cell 1 0 = 2 ∧ fld cell 21 10 ≠ 0xFFF then s.nbFind n (fld cell 21 10) else none

/-- R160, R174: does a preamble that begins t ns after a cell's first slot mark begin within the cell's receive window? -/
def State.inWindow (s : State) (n : Nat) (cell : Word) (t : Int) : Bool :=
  let i := s.cellNeighbour n cell
  let est := match i with
    | some j => s.nbEstimate n j
    | none => 0
  let d := (t - (s.rdF (Reg.MAC_TIMING n) 11 0 * 1000 : Nat)) * 1000000000 - est
  let w : Int := (s.rxWidth n i * 1000 : Nat) * 1000000000
  decide (-w ≤ d ∧ d ≤ w)

/-- R156, R160, R175: the cell a frame is heard in: its entry, the ASN of its first slot, and the preamble's start in ns from that slot's
mark. A window wider than its cell reaches into the slot before the cell and the slot after it while those are idle. -/
def State.rxHeard (s : State) (n : Nat) (f : RadioFrame) : Option (Word × Nat × Int) :=
  let a := s.asn n
  let now := s.cellAt n a
  let next := s.cellAt n (a + 1)
  let last := s.cellAt n (a - 1)
  let found : Option (Word × Nat × Int) :=
    if fld now.2 1 0 = 2 ∨ fld now.2 1 0 = 3 then some (now.2, a - now.1, f.start + 10000000 * (now.1 : Int))
    else if fld now.2 1 0 ≠ 0 then none
    else if fld next.2 1 0 = 2 ∧ next.1 = 0 ∧ s.inWindow n next.2 (f.start - 10000000) then some (next.2, a + 1, f.start - 10000000)
    else if fld last.2 1 0 = 2 ∧ 0 < a then some (last.2, a - 1 - last.1, f.start + 10000000 * ((last.1 : Int) + 1))
    else none
  match found with
  | some r => if s.inWindow n r.1 r.2.2 && decide (s.cellChannel n r.2.1 r.1 = (f.discovery, f.channel)) then found else none
  | none => none

/-- R160, R170: is a frame an ACK heard in the window after the frame that awaits it, on that frame's channel? Its start counts from that
frame's end. -/
def State.ackHeard (s : State) (n : Nat) (f : RadioFrame) : Bool :=
  Nat.beq (frType f.bytes) 2 && (s.mac n).awaiting.isSome && decide (900000 ≤ f.start ∧ f.start ≤ 1100000) &&
    decide ((s.mac n).airOn = some (f.discovery, f.channel))

/-! ## What a frame leaves -/

/-- R173: the rate, in ppb, of the interval between two frames of a neighbour: what its start gained since it applied the correction sent. -/
def driftRate (x y : Ns × Int × Int) (s : State) : Int × State := if y.1 ≤ x.1 then (0, s) else s.openDiv ((y.2.1 - x.2.2) * 1000000000) (y.1 - x.1)

/-- R173: the sum of the rates of consecutive intervals and their number. -/
def driftSum : List (Ns × Int × Int) → Int × Nat × State → Int × Nat × State
  | x :: y :: t, (a, k, s) => let r := driftRate x y s; driftSum (y :: t) (a + r.1, k + 1, r.2)
  | _, r => r

/-- R173: OFFSET and DRIFT of a neighbour after a frame or an ACK whose preamble began `gap` ns past TX_OFFSET; DRIFT is the mean rate of the
last 8 intervals. -/
def State.nbTime (s : State) (n i : Nat) (gap offset : Int) : State :=
  let m := s.mac n
  let h := ((match m.history.find? (fun e => Nat.beq e.1 i) with
    | some e => e.2
    | none => []) ++ [(s.time.now, gap, gap)])
  let h9 := h.drop (h.length - 9)
  let r := driftSum h9 (0, 0, s)
  let d := if r.2.1 = 0 then ((0 : Int), r.2.2) else r.2.2.openDiv r.1 r.2.1
  ((d.2.setMac n { m with history := m.history.filter (fun e => !(Nat.beq e.1 i)) ++ [(i, h9)] }).wrN (Reg.MAC_NB n i 1) (enc 32 offset)).wrN
    (Reg.MAC_NB n i 2) (enc 32 (clampI (-100000) 100000 d.1))

/-- R173: a correction sent to a neighbour, which it is assumed to have applied. -/
def State.nbCorrected (s : State) (n i : Nat) (us : Int) : State :=
  let m := s.mac n
  s.setMac n { m with corrected := m.corrected.filter (fun e => !(Nat.beq e.1 i)) ++ [(i, s.time.now)],
                      history := m.history.map (fun e => if e.1 = i then (e.1, e.2.dropLast ++ (e.2.getLast?.map (fun x => (x.1, x.2.1, x.2.2 + us * 1000))).toList) else e) }

/-- R174, R176, R177: a frame accepted from a neighbour: MISSED and the window restart, it counts as heard, SILENT clears, and a
demoted neighbour recovers. `cell` is the cell it was heard in. -/
def State.nbHeard (s : State) (n i : Nat) (cell : Word) : State :=
  let m := s.mac n
  let own := decide (fld cell 1 0 = 1 ∨ fld cell 1 0 = 2) && Nat.beq (fld cell 21 10) (s.nbLantern n i)
  let s1 := (s.wrF (Reg.MAC_NB n i 0) 19 14 0).setMac n { m with heard := if m.heard.contains i then m.heard else m.heard ++ [i], quiet := 0 }
  let s2 := (s1.wrB (Reg.MAC_STATUS n) 4 false).radioHold
  let s3 := if s.nbDemoted n i then s2.recovered n i (own && bit cell 2) else s2
  (s3.wrF (Reg.MAC_NB n i 0) 27 20 0).heardFrom (s.nbLantern n i) own

/-- R168, R179: RX_COUNTER of a neighbour entry taken, and saved with the report card at every 1,024th value. -/
def State.nbRxCounter (s : State) (n i v : Nat) : State :=
  let old := (s.rd (Reg.MAC_NB n i 4)).toNat
  let s1 := s.wrN (Reg.MAC_NB n i 4) v
  if Nat.blt (old / 1024) (v / 1024) then s1.setCard (s.nbLantern n i) 0x0E 4 v else s1

/-- R164, R179: TX_COUNTER of a neighbour entry after a transmission, saved with the report card at every 1,024th value. -/
def State.nbTxNext (s : State) (n i tc : Nat) : State :=
  let s1 := s.wrN (Reg.MAC_NB n i 5) (tc + 1)
  if Nat.beq ((tc + 1) % 1024) 0 then s1.setCard (s.nbLantern n i) 0x0F 4 (tc + 1) else s1

/-- R164, R179: the broadcast counter after a transmission, saved at every 1,024th value. -/
def State.bcastNext (s : State) (n : Nat) : State :=
  let c := (s.mac n).bcast + 1
  s.setMac n { s.mac n with bcast := c, bcastSaved := if c % 1024 = 0 then c else (s.mac n).bcastSaved }

/-- R171: is another cell active when an acknowledgement is due, 1,000 µs after the end of a frame that began t ns after the first slot mark of
its cell? -/
def State.ackBlocked (s : State) (n first : Nat) (cell : Word) (f : RadioFrame) (t : Int) : Bool :=
  let due := t + (airTime (s.mac n).phy (f.bytes.length + f.body.length + f.mic.length + 4) * 1000 : Nat) + 1000000
  let q := due / 10000000
  if due < 0 ∨ q.toNat ≤ fld cell 24 22 then false else fld (s.cellAt n (first + q.toNat)).2 1 0 ≠ 0

/-- Tables 5.5 and 5.9: an acknowledgement sent on a frame heard in a cell: ACK with the frame's LSN, the module's next FRAME_COUNTER,
TIME_CORR = −OFFSET in whole µs, and ACK_FLAGS. Not sent while listening only (R182), without TX_EN or with MARKS_LOST (R154), nor while the
transceiver has another cell active, which is counted (R171); an invalidated cohort slot suppresses it (R172). -/
def State.sendAck (s : State) (n i : Nat) (f : RadioFrame) (flags : Nat) (hd : Word × Nat × Int) : State :=
  let b := f.bytes
  if s.rdB (Reg.MAC_CTRL n) 2 || !s.rdB (Reg.MAC_CTRL n) 1 || s.rdB (Reg.MAC_STATUS n) 3 then s
  else if s.ackBlocked n hd.2.1 hd.1 f hd.2.2 then s.macCount n 14
  else if f.ackOrphaned && decide (s.chainCheck (s.rdF (Reg.MAC_KEY n) 7 0) ≠ .ok) then s.macInt n 6
  else
    let tc := (s.rd (Reg.MAC_NB n i 5)).toNat
    if tc = 0xFFFFFFFF then s
    else
      let corr := -(divRound (sx 32 (s.rd (Reg.MAC_NB n i 1)).toNat) 1000)
      let h : List Byte := [0x0A, 0x01] ++ slice b 2 2 ++ slice b 6 2 ++ toLE 2 (0x4000 + 0x1000 * s.macCohort n) ++ slice b 8 2 ++ toLE 4 tc ++
        toLE 1 (s.rdF (Reg.MAC_KEY n) 15 8)
      let air := h ++ ccmFrame false (s.linkKey n (s.nbEui n i)) s.eui tc h (toLE 2 (enc 16 corr) ++ toLE 1 flags)
      let s1 := (s.nbTxNext n i tc).nbCorrected n i (sx 16 (enc 16 corr))
      s1.setMac n { s1.mac n with air := air, airOn := some (s.cellChannel n hd.2.1 hd.1) }

/-! ## What resident firmware reads of a delivered frame -/

/-- Table 5.11, R211: is the CODE of a DATA (1) or COMMAND (4) payload listed? -/
def codeListed (type code : Nat) : Bool :=
  if type = 1 then [1, 2, 3, 0x10, 0x20, 0x21].contains code else Nat.ble 1 code && Nat.ble code 2 || Nat.ble 0x10 code && Nat.ble code 0x1A

/-- R180: the link key of a lantern at the far end of a relayed payload. -/
def State.farKey (s : State) (n lantern : Nat) : List Byte := s.linkKey n (s.obj (0x6000 + lantern) 1)

/-- R180: the BODY of a relayed payload opened: the end-to-end counter, then the ciphertext under the far lantern's link key. -/
def State.farOpen (s : State) (n lantern : Nat) (body : List Byte) : List Byte :=
  fit (body.length - 12) (Config.ccmOpen (s.farKey n lantern) (macNonce (s.obj (0x6000 + lantern) 1) (leAt body 0 4) 6) [] (body.drop 4))

/-- R180: a BODY sealed for a lantern reached through relays. -/
def State.farSeal (s : State) (n lantern counter : Nat) (body : List Byte) : List Byte :=
  toLE 4 counter ++ ccmFrame true (s.farKey n lantern) (s.obj (0x6000 + lantern) 1) counter [] body

/-- R167, R180: firmware reads a DATA or COMMAND payload: a reserved CODE is counted and has no other effect; a relayed payload for the module is
opened; one for another lantern is queued again, with one hop less, while hops remain. What a listed payload does is its own command's meaning
(log entry 57). -/
def State.fwRead (s : State) (n src dst type : Nat) (p : List Byte) : State :=
  let origin := leAt p 2 2
  let final := leAt p 4 2
  let hops := leAt p 1 1 % 16
  if (type ≠ 1 ∧ type ≠ 4) then s
  else if !codeListed type (leAt p 0 1) then { s with member := { s.member with reserved := s.member.reserved + 1 } }
  else if type = 4 ∨ (origin = src ∧ final = dst) then s
  else if final / 0x4000 = 1 then
    { s with member := { s.member with opened := s.member.opened ++ [(origin % 0x1000, leAt p 0 1, s.farOpen n (origin % 0x1000) (p.drop 6))] } }
  else if final / 0x4000 = 0 ∧ 0 < hops then
    { s with member := { s.member with outbox := s.member.outbox ++
      [{ cohort := n, lantern := final % 0x1000, type := 1, code := 0, body := p.take 1 ++ toLE 1 (hops - 1) ++ p.drop 2, whole := true }] } }
  else s

/-! ## Receiving -/

/-- R168, R169: checks 10 to 12 and delivery. d = 0 is a duplicate, d ≥ 32,768 a replay; a new frame fills a receive entry, or is
acknowledged BUSY where none is free. -/
def State.rxDeliver (s : State) (n i : Nat) (f : RadioFrame) (hd : Word × Nat × Int) : State :=
  let b := f.bytes
  let ackReq := frBit b 5
  if frCounter b ≤ (s.rd (Reg.MAC_NB n i 4)).toNat then s.macCount n 6
  else
    let gap := hd.2.2 - (s.rdF (Reg.MAC_TIMING n) 11 0 * 1000 : Nat)
    let off := s.openDiv (gap * 1000000000 - s.nbEstimate n i) 1000000000
    let s1 := (off.2.nbRxCounter n i (frCounter b)).nbTime n i gap off.1
    let d := (leAt b 8 2 + 2 ^ 16 - s.rdF (Reg.MAC_NB n i 3) 31 16) % 2 ^ 16
    if 32768 ≤ d then s1.macCount n 6
    else
      let s2 := s1.nbHeard n i hd.1
      if d = 0 then
        let s3 := s2.macCount n 7
        if ackReq then s3.sendAck n i f 1 hd else s3
      else
        let frame := b ++ s.rxPlain n i f
        let flags := if s.rdB (Reg.MAC_CTRL n) 2 then 2 else 0
        let s2 := s2.ringTouch (macInitiator n) (Reg.MAC_RXR_BASE_LO n)
        match s2.ringFill (macInitiator n) (Reg.MAC_RXR_BASE_LO n) f frame flags with
        | none =>
          let s3 := (s2.macCount n 8).macInt n 10
          if ackReq then s3.sendAck n i f 2 hd else s3
        | some s3 =>
          let s4 := (((s3.wrF (Reg.MAC_NB n i 3) 31 16 (leAt b 8 2)).macCount n 0).macInt n 0).freqUpdate n (s.nbLantern n i) f.cfo.toInt
          let s5 := s4.fwRead n (leAt b 6 2) (leAt b 4 2) (frType b) (s.rxPlain n i f)
          if ackReq then s5.sendAck n i f 0 hd else s5

/-- R168, R195: a DISCOVERY frame that passes its checks in a discovery cell takes a receive entry. -/
def State.rxDiscovery (s : State) (n i : Nat) (f : RadioFrame) (cell : Word) : State :=
  let s0 := (s.nbHeard n i cell).ringTouch (macInitiator n) (Reg.MAC_RXR_BASE_LO n)
  match s0.ringFill (macInitiator n) (Reg.MAC_RXR_BASE_LO n) f (f.bytes ++ f.body) (if s.rdB (Reg.MAC_CTRL n) 2 then 6 else 4) with
  | none => (s0.macCount n 8).macInt n 10
  | some s1 => (s1.macCount n 0).macInt n 0

/-- R170: an unacknowledged frame is sent again in its destination's next cell, or returned NO_ACK after TX_RETRIES. -/
def State.txAgain (s : State) (n : Nat) (w : MacAwait) : State :=
  let m := s.mac n
  if w.tries ≤ s.rdF (Reg.MAC_RETRY n) 3 0 then
    s.setMac n { m with awaiting := none, retries := m.retries.filter (fun r => !(Nat.beq r.entry w.entry)) ++ [w] }
  else (s.txReturn n w.entry 2).macCount n 11

/-- R168, R170: an ACK that passes the checks completes the entry that awaits it; one that says BUSY leaves the frame to be sent again; any
other is ignored. -/
def State.macAck (s : State) (n i : Nat) (f : RadioFrame) (cell : Word) : State :=
  let b := f.bytes
  if frCounter b ≤ (s.rd (Reg.MAC_NB n i 4)).toNat then s.macCount n 6
  else
    match (s.mac n).awaiting with
    | none => s
    | some w =>
      if w.nb = i ∧ leAt b 8 2 = w.lsn then
        let corr := sx 16 (leAt f.body 0 2)
        let s1 := (((s.nbRxCounter n i (frCounter b)).nbTime n i (-(corr * 1000)) (-(corr * 1000))).nbHeard n i cell)
        if Nat.testBit (leAt f.body 2 1) 1 then s1.txAgain n w else (s1.txReturn n w.entry 0).macCount n 10
      else s

/-- R170: does a frame complete the entry that awaits its ACK? -/
def State.ackTaken (s : State) (n : Nat) (f : RadioFrame) : Bool :=
  match s.rxChecks n (s.cellNow n) f, (s.mac n).awaiting with
  | .ok i, some w => s.ackHeard n f && s.rdB (Reg.MAC_CTRL n) 0 && decide (w.nb = i ∧ leAt f.bytes 8 2 = w.lsn ∧
      (s.rd (Reg.MAC_NB n i 4)).toNat < frCounter f.bytes) && !Nat.testBit (leAt f.body 2 1) 1
  | _, _ => false

/-- Table 5.12, R172: a frame heard by a MAC is judged by the checks; a key missing from the cache is derived for a later retransmission (R204); a
CCM* operation whose cohort slot was invalidated meanwhile discards the frame. -/
def State.rxJudge (s : State) (n : Nat) (f : RadioFrame) (hd : Word × Nat × Int) : State :=
  match s.rxChecks n hd.1 f with
  | .error 5 =>
    match s.nbFind n (leAt f.bytes 6 2 % 0x1000) with
    | some i => (s.macCount n 5).cacheUse n (s.nbEui n i) (frKeyGen f.bytes)
    | none => s
  | .error c => s.macCount n c
  | .ok i =>
    if frType f.bytes = 5 then s.rxDiscovery n i f hd.1
    else if f.orphaned && decide (s.chainCheck (s.rdF (Reg.MAC_KEY n) 7 0) ≠ .ok) then (s.macCount n 4).macInt n 6
    else
      let s1 := s.cacheUse n (s.nbEui n i) (frKeyGen f.bytes)
      if frType f.bytes = 2 then s1.macAck n i f hd.1 else s1.rxDeliver n i f hd

/-- R160, R168: a received frame. The MAC hears it in its cell's window and on its channel, or as an ACK awaited; a frame the drill unit
drops was never received (R471); a queue that is full drops it (R183). -/
def State.macReceive (s : State) (n : Nat) (f : RadioFrame) : State :=
  let hd := if s.ackHeard n f then some (s.cellNow n, s.asn n, f.start) else s.rxHeard n f
  match hd with
  | none => s
  | some h =>
    if !s.rdB (Reg.MAC_CTRL n) 0 then s
    else if f.dropped && s.rdB Reg.DRL_CTRL 0 && !(Nat.beq (s.rdF (Reg.DRL_RADIO n) 31 16) 0) then s
    else if Nat.ble 64 ((s.queue n).wcount 6) then s.macCount n 9
    else (s.setMac n { s.mac n with air := [] }).rxJudge n f h

/-- FRAME_RECEIVE, R168. -/
def execFrameReceive (n : Fin 4) (f : RadioFrame) (s : State) : Host.Outcome State Fault Refusal := .next (s.macReceive n.val f)

/-- ACK_TIMEOUT, R170: no ACK in its window. -/
def execAckTimeout (n : Fin 4) (s : State) : Host.Outcome State Fault Refusal :=
  .next (match (s.mac n.val).awaiting with
    | none => s
    | some w => s.txAgain n.val w)

/-- EXPECTED_FRAME_MISSED, R174: MISSED advances, and the window widens at 2, 3 and 4; nothing is counted for a demoted neighbour
(R176) or while listening only (R182). -/
def execExpectedFrameMissed (n : Fin 4) (i : Fin 1024) (s : State) : Host.Outcome State Fault Refusal :=
  .next (
    let a := Reg.MAC_NB n.val i.val 0
    if s.nbValid n.val i.val && !s.nbDemoted n.val i.val && !s.rdB (Reg.MAC_CTRL n.val) 2 then
      let k := min 15 (s.rdF a 17 14 + 1)
      let w := if k < 2 then 0 else min 3 (k - 1)
      let s1 := (s.wrF a 17 14 k).wrF a 19 18 w
      if s.rdF a 19 18 < w then s1.macInt n.val 4 else s1
    else s)

/-! ## Transmitting -/

/-- R161: does a frame of n PSDU bytes in a PHY mode, its acknowledgement included where one is due, end in a cell's time? -/
def cellFits (phy : Word) (txOffset : Nat) (cell : Word) (n : Nat) (ack : Bool) : Bool :=
  let slots := (fld cell 24 22 + 1) * 10000
  let a := txOffset + airTime phy n + 1000
  if ack then Nat.ble (a + airTime phy 30 + 1000) slots else Nat.ble a slots

/-- R163: the PSDU of a frame whose buffer holds n bytes: with SEC its MIC, and the FCS. -/
def psduLength (b : List Byte) (n : Nat) : Nat := n + (if frBit b 3 then 12 else 4)

/-- R181, R262: does a cell serve an entry with a destination and a first byte? Dedicated cells serve their lantern; broadcast and shared ones
carry 0xFFF: a transmit cell then serves the cohort broadcast, a light-map cell its LIGHT_MAP frames alone, a shared cell any unicast destination. -/
def cellServes (cell : Word) (dst type : Nat) : Bool :=
  let k := fld cell 1 0
  let nb := fld cell 21 10
  let role := fld cell 5 4
  if bit cell 3 then false
  else if k = 3 then decide (dst / 0x4000 = 0)
  else if k = 1 then
    (if nb = 0xFFF then decide (dst / 0x4000 = 2) && (if role = 2 then Nat.beq type 3 else Nat.beq role 0 && !(Nat.beq type 3))
     else decide (dst / 0x4000 = 0 ∧ dst % 0x1000 = nb))
  else false

/-- Table 5.14: a transmit entry's DST. -/
def State.txDst (s : State) (n ix : Nat) : Nat := leAt (s.ringBytes (macInitiator n) (Reg.MAC_TXR_BASE_LO n) ix 12 2) 0 2

/-- Table 5.14: a transmit entry's ACK_REQ. -/
def State.txAck (s : State) (n ix : Nat) : Bool := Nat.testBit (leAt (s.ringBytes (macInitiator n) (Reg.MAC_TXR_BASE_LO n) ix 14 1) 0 1) 1

/-- R181: the first 256 owned entries of the transmit ring. -/
def State.txOwned (s : State) (n : Nat) : List Nat :=
  ((s.ringIndices (Reg.MAC_TXR_BASE_LO n)).filter (fun ix => s.ringOwned (macInitiator n) (Reg.MAC_TXR_BASE_LO n) ix)).take 256

/-- R161, R176, R181: does a cell serve an entry? Nothing is sent to a demoted lantern. -/
def State.txServed (s : State) (n : Nat) (cell : Word) (ix : Nat) : Bool :=
  let dst := s.txDst n ix
  cellServes cell dst (frType (s.txBytes n ix)) && (match s.nbFind n (dst % 0x1000) with
    | some i => !s.nbDemoted n i
    | none => decide (dst / 0x4000 = 2))

/-- R161: does an entry's frame fit a cell? -/
def State.txFits (s : State) (n : Nat) (cell : Word) (ix : Nat) : Bool :=
  let b := s.txBytes n ix
  cellFits (s.mac n).phy (s.rdF (Reg.MAC_TIMING n) 11 0) cell (psduLength b b.length) (s.txAck n ix)

/-- R161: an entry that fits no cell of its destination in the running schedule is returned TOO_LONG. -/
def State.txTooLong (s : State) (n : Nat) : State :=
  (s.txOwned n).foldl (fun t ix =>
    if (s.mac n).cells.any (fun c => cellServes c.2 (s.txDst n ix) (frType (s.txBytes n ix)) && s.txFits n c.2 ix) then t else t.txReturn n ix 3) s

/-- R162: the shared cells an entry still leaves out. -/
def MacState.deferred (m : MacState) (ix : Nat) : Nat :=
  match m.backoff.find? (fun (r : Nat × Nat × Nat) => Nat.beq r.1 ix) with
  | some r => r.2.2
  | none => 0

/-- R181: the oldest owned entry that a cell serves, among the first 256 owned; in a shared cell one that its backoff does not defer. -/
def State.txPick (s : State) (n : Nat) (cell : Word) : Option Nat :=
  (s.txOwned n).find? (fun ix => s.txServed n cell ix && (decide (fld cell 1 0 ≠ 3) || Nat.beq ((s.mac n).deferred ix) 0))

/-- R162: a shared cell passes for the entries it serves and their backoff defers. -/
def State.backoffPass (s : State) (n : Nat) (cell : Word) : State :=
  if fld cell 1 0 = 3 then
    s.setMac n { s.mac n with backoff := (s.mac n).backoff.map (fun (r : Nat × Nat × Nat) => if s.txServed n cell r.1 then (r.1, r.2.1, r.2.2 - 1) else r) }
  else s

/-- R162: a busy channel defers an entry by a draw of 0 to 2^BE − 1 shared cells, BE from 1 up to MAX_BE. -/
def State.backoffDraw (s : State) (n ix : Nat) : State :=
  let be := match (s.mac n).backoff.find? (fun (r : Nat × Nat × Nat) => Nat.beq r.1 ix) with
    | some r => r.2.1
    | none => 1
  let (f, s1) := s.free
  let rest := (s1.mac n).backoff.filter (fun (r : Nat × Nat × Nat) => !(Nat.beq r.1 ix))
  s1.setMac n { s1.mac n with backoff := rest ++ [(ix, min (max 1 (s.rdF (Reg.MAC_RETRY n) 7 4)) (be + 1), f % 2 ^ be)] }

/-- R163, R164, R181: a frame goes on the air: LSN, FRAME_COUNTER and KEY_GEN filled, the payload sealed, under the lantern's link
key or the cohort key; a frame with SEC 0 has neither security header nor MIC. -/
def State.txFrame (s : State) (n ix nb lsn counter : Nat) (broadcast : Bool) : State :=
  let b := s.txBytes n ix
  let h0 := slice b 0 8 ++ toLE 2 lsn ++ (b.drop 10).take (frHeader b - 10)
  if frBit b 3 then
    let h := h0 ++ toLE 4 counter ++ toLE 1 (s.rdF (Reg.MAC_KEY n) 15 8)
    let key := if broadcast then s.cohortKey n else s.linkKey n (s.nbEui n nb)
    s.onAir n (h ++ ccmFrame (frBit b 4) key s.eui counter h (b.drop (frHeader b + 5)))
  else s.onAir n (h0 ++ b.drop (frHeader b))

/-- R160: STAMP32 of the preamble a cell's transmission begins with, TX_OFFSET after its slot mark. -/
def State.preambleStamp (s : State) (n : Nat) : Nat := ((s.mac n).slotStart + s.rdF (Reg.MAC_TIMING n) 11 0 * 1000) % 2 ^ 32

/-- R164, R165, R179: a broadcast entry goes out once, with the broadcast stream's LSN and FRAME_COUNTER, and returns SENT. -/
def State.txBroadcast (s : State) (n ix : Nat) : State :=
  let m := s.mac n
  let sec := frBit (s.txBytes n ix) 3
  if sec && Nat.ble 0xFFFFFFFF m.bcast then s
  else
    let s1 := (if sec then s.bcastNext n else s).txFrame n ix 0 m.bcastLsn m.bcast true
    let s2 := s1.setMac n { s1.mac n with bcastLsn := (m.bcastLsn + 1) % 2 ^ 16,
                                          retries := (s1.mac n).retries ++ [{ entry := ix, nb := 0, lsn := m.bcastLsn, tries := 1, stamp := s.preambleStamp n }] }
    (s2.txReturn n ix 1).macCount n 10

/-- R164 to R170: an entry for a lantern goes out: a new LSN unless it is sent again, a new FRAME_COUNTER; with ACK_REQ it awaits its
acknowledgement, else it returns SENT. -/
def State.txUnicast (s : State) (n ix i : Nat) : State :=
  let m := s.mac n
  let sec := frBit (s.txBytes n ix) 3
  let tc := (s.rd (Reg.MAC_NB n i 5)).toNat
  if sec && Nat.ble 0xFFFFFFFF tc then s
  else
    let again := m.tried ix
    let lsn := match again with
      | some r => r.lsn
      | none => s.rdF (Reg.MAC_NB n i 3) 15 0
    let tries := (match again with
      | some r => r.tries
      | none => 0) + 1
    let s0 := if sec then (s.nbTxNext n i tc).cacheUse n (s.nbEui n i) (s.rdF (Reg.MAC_KEY n) 15 8) else s
    let s1 := s0.txFrame n ix i lsn tc false
    let s2 := if again.isNone then s1.wrF (Reg.MAC_NB n i 3) 15 0 ((lsn + 1) % 2 ^ 16) else s1
    let w : MacAwait := { entry := ix, nb := i, lsn := lsn, tries := tries, stamp := s.preambleStamp n }
    let rest := (s2.mac n).retries.filter (fun r => !(Nat.beq r.entry ix))
    if s.txAck n ix then s2.setMac n { s2.mac n with awaiting := some w, retries := rest }
    else ((s2.setMac n { s2.mac n with retries := rest ++ [w] }).txReturn n ix 1).macCount n 10

/-- R161 to R170: in a transmit or shared cell the oldest owned entry the cell serves goes out. `energy` is what the CCA of a shared cell
measures, in dBm; `late` says that the frame's words had not reached the transceiver by TX_OFFSET, `orphaned` that the cohort slot was
invalidated during the CCM* operation. -/
def State.cellSend (s : State) (n : Nat) (energy : Int) (late orphaned : Bool) : State :=
  let cell := s.cellFirst n
  let s0 := (s.ringTouch (macInitiator n) (Reg.MAC_TXR_BASE_LO n)).txTooLong n
  let pick := s0.txPick n cell
  let s1 := s0.backoffPass n cell
  if (s.mac n).awaiting.isSome then s
  else
    match pick with
    | none => s1
    | some ix =>
      let dst := s1.txDst n ix
      let broadcast := decide (dst / 0x4000 = 2)
      let i := (s1.nbFind n (dst % 0x1000)).getD 0
      let gen := s1.rdF (Reg.MAC_KEY n) 15 8
      let sec := frBit (s1.txBytes n ix) 3
      if !s1.txFits n cell ix then s1
      else if decide (fld cell 1 0 = 3) && decide (-((s1.rdF (Reg.MAC_RETRY n) 15 8 : Nat) : Int) < energy) then (s1.backoffDraw n ix).macCount n 12
      else if late then s1.macCount n 13
      else if sec && orphaned && decide (s1.chainCheck (s1.rdF (Reg.MAC_KEY n) 7 0) ≠ .ok) then (s1.txReturn n ix 4).macInt n 6
      else if sec && !broadcast && !s1.cached n (s1.nbEui n i) gen then (s1.macCount n 13).cacheUse n (s1.nbEui n i) gen
      else if broadcast then s1.txBroadcast n ix
      else s1.txUnicast n ix i

/-- Table 8.2: is a light map delivered in the mode? -/
def lightMapMode (m : Mode) : Bool :=
  match m with
  | .transition | .nightScheduled | .nightFollowing | .islanded | .drill => true
  | _ => false

/-- R266: does the slotframe in progress contain a delivery? -/
def State.delivers (s : State) (n : Nat) : Bool :=
  lightMapMode s.mode.mode && !s.rdB (Reg.MAC_STATUS n) 1 && (s.mac n).cells.any (fun c => Nat.beq (fld c.2 5 4) 2)

/-- Table 5.8: the BEACON payload of the slot in progress. -/
def State.beaconPayload (s : State) (n : Nat) : List Byte :=
  let m := s.mac n
  toLE 5 (s.asn n) ++ time80 m.slotStart ++ toLE 2 m.len ++ toLE 1 (fld m.hop 6 0) ++ toLE 2 (fld m.hop 31 16) ++
    toLE 2 (s.rdF (Reg.MAC_TIMING n) 11 0) ++ toLE 2 (s.rdF (Reg.MAC_TIMING n) 23 12) ++ toLE 1 (b2n (s.rdB (Reg.MAC_STATUS n) 1)) ++
    toLE 1 (s.time.servoState % 4 + 4 * b2n (decide (s.mode.mode = .islanded))) ++ s.obj 0x2100 2 ++
    toLE 1 (b2n (s.inModes (s.objN 0x7000 2)) + 2 * b2n (s.delivers n))

/-- Table 5.6: a broadcast frame of the module: type, payload, MIC only or encrypted, under the cohort key, with the broadcast stream's LSN and
FRAME_COUNTER (R165, R179). -/
def State.broadcast (s : State) (n type : Nat) (p : List Byte) : State :=
  let counter := (s.mac n).bcast
  if 0xFFFFFFFF ≤ counter then s
  else
    let s1 := s.bcastNext n
    let enc := typeEncrypted type
    let h := toLE 1 (type + 8 + 16 * b2n enc) ++ toLE 1 1 ++ toLE 2 (s.rdF (Reg.MAC_ADDR n) 15 0) ++ toLE 2 (0x8FFF + 0x1000 * s.macCohort n) ++
      toLE 2 (0x4000 + 0x1000 * s.macCohort n) ++ toLE 2 (s.mac n).bcastLsn ++ toLE 4 counter ++ toLE 1 (s.rdF (Reg.MAC_KEY n) 15 8)
    let s2 := s1.setMac n { s1.mac n with bcastLsn := ((s.mac n).bcastLsn + 1) % 2 ^ 16 }
    s2.onAir n (h ++ ccmFrame enc (s.cohortKey n) s.eui counter h p)

/-- R161, R172: the beacon of a beacon cell that it fits; a cohort slot invalidated meanwhile suppresses it. -/
def State.cellBeacon (s : State) (n : Nat) (orphaned : Bool) : State :=
  let p := s.beaconPayload n
  if !cellFits (s.mac n).phy (s.rdF (Reg.MAC_TIMING n) 11 0) (s.cellFirst n) (p.length + 27) false then s
  else if orphaned && decide (s.chainCheck (s.rdF (Reg.MAC_KEY n) 7 0) ≠ .ok) then s.macInt n 6
  else s.broadcast n 0 p

/-- R238: the slots a ramp takes. -/
def rampSlots (r : Nat) : Nat := if r = 0 then 0 else if r = 1 then 10 else if r = 2 then 200 else 1000

/-- R260, R261, R263: a block's entries sent to a cohort: what each of its lanterns was sent last, the ramps they began, and the levels it is
commanded to (R298). An entry with the LEVEL the lantern already shows begins no ramp (R238). -/
def State.lmMark (s : State) (c : Nat) (p : List Byte) : State :=
  let b := leAt p 0 1
  let a := s.asn c
  let apply := a + (leAt p 2 2 + 2 ^ 16 - a % 2 ^ 16) % 2 ^ 16
  let entry (n : Nat) : Nat := leAt p (4 + 2 * (n - 128 * b)) 2
  let ls := (s.cohortCards c holdsEntry).filter (fun n => Nat.beq (n / 128) b)
  let s1 := { s with ctl := { s.ctl with
    sentBlock := Sparse.set (fun _ => 0) s.ctl.sentBlock (c * 32 + b) s.ctl.deliveries,
    sentLevel := (upFrom (128 * b) 128).foldl (fun l n => Sparse.set (fun _ => 0) l (c * 4096 + n) (entry n % 1024 + 1)) s.ctl.sentLevel } }
  let at_ := (s.mac c).slotStart + (apply - a) * 10000000
  ls.foldl (fun t n =>
    let w := entry n
    let h := (assoc? n t.mtr.levels).getD []
    let old := (h.filter (fun e => Nat.ble (e.1 + 8000000000000) at_)).length
    let was := (assoc? n t.ctl.entries).getD []
    let l := was ++ [(apply, w % 1024, w / 1024 % 4)]
    let ramps := (assoc? n t.ctl.ramps).getD []
    let still := (was.getLast?.map (fun (e : Nat × Nat × Nat) => e.2.1)) = some (w % 1024) ∧ (ramps.getLast?.map (fun (e : Nat × Nat) => e.2)).getD 0 ≤ apply
    let rs := if still then ramps else ramps ++ [(apply, apply + rampSlots (w / 1024 % 4))]
    ({ t with
      mtr := { t.mtr with levels := t.mtr.levels.filter (fun (e : Nat × List (Ns × Nat)) => !(Nat.beq e.1 n)) ++
        [(n, (if (h.getLast?.map (fun (e : Nat × Nat) => e.2)) = some (w % 1024) then h else h ++ [(at_, w % 1024)]).drop (old - 1))] },
      ctl := { t.ctl with entries := t.ctl.entries.filter (fun (e : Nat × List (Nat × Nat × Nat)) => !(Nat.beq e.1 n)) ++ [(n, l.drop (l.length - 2))],
                          ramps := t.ctl.ramps.filter (fun (e : Nat × List (Nat × Nat)) => !(Nat.beq e.1 n)) ++ [(n, rs.drop (rs.length - 2))] } }).setCard
      n 0x33 2 (w % 1024)) s1

/-- R263, R264: the frames of a light-map cell, back to back and 500 µs apart, as many as the cell's time takes; `used` is the time gone since the
slot mark in µs, before the next preamble. -/
def State.lmSend (n : Nat) (orphaned : Bool) : List Nat → Nat → State → State
  | [], _, s => s
  | ix :: rest, used, s =>
    let b := s.txBytes n ix
    let done := used + airTime (s.mac n).phy (psduLength b b.length)
    if (fld (s.cellFirst n) 24 22 + 1) * 10000 < done + 1000 then s
    else if orphaned && decide (s.chainCheck (s.rdF (Reg.MAC_KEY n) 7 0) ≠ .ok) then State.lmSend n orphaned rest used ((s.txReturn n ix 4).macInt n 6)
    else State.lmSend n orphaned rest (done + 500) ((s.txBroadcast n ix).lmMark n (b.drop (frHeader b + 5)))

/-- R262 to R266: a light-map cell, in a mode that delivers and under full duty. -/
def State.cellLightMap (s : State) (n : Nat) (late orphaned : Bool) : State :=
  let cell := s.cellFirst n
  if !lightMapMode s.mode.mode || s.rdB (Reg.MAC_STATUS n) 1 then s
  else
    let s0 := (s.ringTouch (macInitiator n) (Reg.MAC_TXR_BASE_LO n)).txTooLong n
    let l := (s0.txOwned n).filter (fun ix => s0.txServed n cell ix)
    if l.isEmpty then s0 else if late then s0.macCount n 13 else State.lmSend n orphaned l (s.rdF (Reg.MAC_TIMING n) 11 0) s0

/-- CELL_TRANSMIT, R161: the cell that begins in the current slot: a beacon cell sends the BEACON, a light-map cell the frames of a
delivery, every other transmit or shared cell the oldest entry it serves. -/
def execCellTransmit (n : Fin 4) (energy : Int) (late orphaned : Bool) (s : State) : Host.Outcome State Fault Refusal :=
  .next (
    let cell := s.cellFirst n.val
    let k := fld cell 1 0
    let may := s.rdB (Reg.MAC_STATUS n.val) 0 && s.rdB (Reg.MAC_CTRL n.val) 1 && !s.rdB (Reg.MAC_CTRL n.val) 2 && !s.rdB (Reg.MAC_STATUS n.val) 3
    if (k ≠ 1 ∧ k ≠ 3) ∨ may = false then s
    else if k = 1 ∧ fld cell 5 4 = 1 then s.cellBeacon n.val orphaned
    else if k = 1 ∧ fld cell 5 4 = 2 then s.cellLightMap n.val late orphaned
    else s.cellSend n.val energy late orphaned)

/-! ## Resident firmware's frames -/

/-- R161, R211: the bytes of payload one frame to a destination may carry in the longest cell that serves it. -/
def State.frameRoom (s : State) (c dst type : Nat) (ack : Bool) : Nat :=
  let m := s.mac c
  let best := m.cells.foldl (fun (w : Word) e => if cellServes e.2 dst type && (decide (w = 0) || Nat.blt (fld w 24 22) (fld e.2 24 22)) then e.2 else w) 0
  if best = 0 then 0
  else (upFrom 1 1024).foldl (fun r p => if cellFits m.phy (s.rdF (Reg.MAC_TIMING c) 11 0) best (p + 27) ack then p else r) 0

/-- R211: a body in fragments of at most `room` bytes with their FRAG bytes; whole where no room is known. -/
def meshFragments (room : Nat) (body : List Byte) : List (List Byte) :=
  let r := if room < 2 then max 1 body.length else room - 1
  let k := max 1 ((body.length + r - 1) / r)
  (upFrom 0 k).map (fun i => toLE 1 (i % 128 + 128 * b2n (Nat.beq (i + 1) k)) ++ slice body (i * r) (min r (body.length - i * r)))

/-- R180, R211: the link-layer destination of a lantern's DATA frames: the relay it stands behind, else itself. -/
def State.linkDst (s : State) (o : OutFrame) : Nat :=
  let p := s.card o.lantern 0x0A
  if o.type = 3 then 0x8FFF + 0x1000 * o.cohort
  else if o.type = 1 ∧ p / 0x4000 = 0 then p
  else o.lantern + 0x1000 * o.cohort

/-- Table 5.11, R180, R211: the payloads of a frame firmware sends, one each but for a body longer than one frame can carry. A DATA body for a
lantern behind a relay is sealed for it, with an end-to-end counter. -/
def State.outPayloads (s : State) (o : OutFrame) : List (List Byte) × State :=
  let dst := s.linkDst o
  let room := s.frameRoom o.cohort dst o.type (decide (o.type ≠ 3))
  if o.whole then ([o.body], s)
  else if o.type = 4 then
    (if o.body.length + 1 ≤ room ∧ o.code ≠ 0x19 then ([toLE 1 o.code ++ o.body], s)
     else ((meshFragments (room - 1) o.body).map (fun p => toLE 1 o.code ++ p), s))
  else
    let far := decide (dst ≠ o.lantern + 0x1000 * o.cohort)
    let head := toLE 1 o.code ++ toLE 1 (if far then s.lampDepth 4 o.lantern - 1 else 0) ++ toLE 2 (0x4000 + 0x1000 * o.cohort) ++ toLE 2 (o.lantern + 0x1000 * o.cohort)
    let bodies := if o.code = 0x10 then meshFragments (room - (if far then 18 else 6)) o.body else [o.body]
    let k := Sparse.get (fun _ => 0) s.member.farCounters o.lantern
    if far then
      (mapFrom (fun i b => head ++ s.farSeal o.cohort o.lantern (k + i) b) 0 bodies,
       { s with member := { s.member with farCounters := Sparse.set (fun _ => 0) s.member.farCounters o.lantern (k + bodies.length) } })
    else (bodies.map (fun b => head ++ b), s)

/-- R181: firmware writes a frame to a buffer and gives its entry to the MAC. `buffers` is where its buffers lie, 2,048 bytes apart. -/
def State.ringGive (s : State) (c buffers dst type : Nat) (ack : Bool) (p : List Byte) : State :=
  let a := Reg.MAC_TXR_BASE_LO c
  let ix := s.ringHead a
  let b := buffers + 2048 * (ix % s.rdF (a + 8) 12 0)
  let frame := toLE 1 (type + 8 + 16 * b2n (typeEncrypted type) + 32 * b2n ack) ++ toLE 1 1 ++ toLE 2 (s.rdF (Reg.MAC_ADDR c) 15 0) ++ toLE 2 dst ++
    toLE 2 (0x4000 + 0x1000 * s.macCohort c) ++ List.replicate 7 0 ++ p
  let s1 := (s.busWrite .app0 false b frame).busWrite .app0 false (s.ringAddr a ix)
    (toLE 5 b ++ [0] ++ toLE 2 frame.length ++ toLE 4 0 ++ toLE 2 dst ++ toLE 1 (1 + 2 * b2n ack) ++ [0])
  s1.wrN (a + 12) ((ix + 1) % 2 ^ 32)

/-- Where resident firmware places a cohort's rings and buffers, in the packet and DMA buffer region: area k of it, on a 16-byte boundary. The
spec leaves the place open (log entry 56). -/
def ringPlace (k : Nat) : Nat := 0x98000000 + 16 * (Config.ringArea k % 0x1F00000)

/-- R181, R211: firmware gives the MAC the frames that wait for a cohort, in order, while its ring has room for them. -/
def State.outboxPost (s : State) (c : Nat) : State :=
  let a := Reg.MAC_TXR_BASE_LO c
  if (s.mac c).rings then
    let r := s.member.outbox.foldl (fun (acc : List OutFrame × Bool × State) o =>
      let (keep, full, t) := acc
      if Nat.beq o.cohort c && !full then
        let (ps, u) := t.outPayloads o
        if (u.ringHead a + 2 ^ 32 - u.ringTail a) % 2 ^ 32 + ps.length ≤ u.rdF (a + 8) 12 0 then
          (keep, false, ps.foldl (fun v p => v.ringGive c (ringPlace (9 + c)) (t.linkDst o) o.type (decide (o.type ≠ 3)) p) u)
        else (keep ++ [o], true, t)
      else (keep ++ [o], full, t)) ([], false, s)
    { r.2.2 with member := { r.2.2.member with outbox := r.1 } }
  else s

/-- R181: firmware takes the frames a receive ring holds and gives the entries back, up to SIZE of them. -/
def State.ringRefill (s : State) (a k : Nat) : State :=
  let size := s.rdF (a + 8) 12 0
  if Nat.beq ((s.rd a).toNat + s.rdF (a + 4) 7 0 * 2 ^ 32) (ringPlace k) then
    let n := (size + s.ringTail a + 2 ^ 32 - s.ringHead a) % 2 ^ 32
    (upFrom 0 (if n ≤ size then n else 0)).foldl (fun t _ =>
      let ix := t.ringHead a
      let b := ringPlace (k + 9) + 2048 * (ix % size)
      ((t.busWrite .app0 false (t.ringAddr a ix) (toLE 5 b ++ List.replicate 9 0 ++ [1, 0])).wrN (a + 12) ((ix + 1) % 2 ^ 32))) s
  else s

/-- R181: firmware's part at a slot's start: frames taken, entries given back, frames given. -/
def State.ringsServe (s : State) (c : Nat) : State :=
  if (s.mac c).rings then
    let s1 := (s.ringRefill (Reg.MAC_RXR_BASE_LO c) (4 + c)).outboxPost c
    if c = 0 then s1.ringRefill Reg.SCAN_RXR_BASE_LO 8 else s1
  else s

/-- R181: firmware sets up a cohort's rings at a start, and SCAN's with cohort 0's. -/
def State.ringsStart (s : State) (c : Nat) : State :=
  let base (t : State) (a k : Nat) : State :=
    (((t.wrN a (ringPlace k)).wrF (a + 4) 7 0 (ringPlace k / 2 ^ 32)).wrN (a + 12) 0).wrN (a + 16) 0
  let s1 := (base (base s (Reg.MAC_TXR_BASE_LO c) c) (Reg.MAC_RXR_BASE_LO c) (4 + c)).ringRefill (Reg.MAC_RXR_BASE_LO c) (4 + c)
  let s2 := s1.setMac c { s1.mac c with rings := true }
  if c = 0 then (base s2 Reg.SCAN_RXR_BASE_LO 8).ringRefill Reg.SCAN_RXR_BASE_LO 8 else s2

/-- R181: every owned transmit entry returned with FLUSHED. -/
def State.macFlush (s : State) (n : Nat) : State :=
  let a := Reg.MAC_TXR_BASE_LO n
  let s1 := ((s.ringIndices a).filter (fun ix => s.ringOwned (macInitiator n) a ix)).foldl (fun t ix => t.txReturn n ix 5) s
  s1.setMac n { s1.mac n with awaiting := none, retries := [], backoff := [] }

/-- MAC_FLUSH, R181. -/
def execMacFlush (ini : Initiator) (n : Fin 4) (s : State) : Host.Outcome State Fault Refusal :=
  .next (s.regWrite ini ini.resident (Reg.MAC_CTRL n.val) (fun t => t.macFlush n.val))

/-- Table 5.17: a write of MACn_CTRL: EN is refused while HOP_CHANNELS is empty; FLUSH acts. -/
def State.macCtrlWrite (s0 : State) (n : Nat) (v : Word) : State :=
  let s := s0.setMac n { s0.mac n with ctrlDue := none }
  let en := bit v 0 && !(s.obj 0x2200 2).isEmpty
  let s1 := (s.wrF (Reg.MAC_CTRL n) 3 0 (fld v 3 1 * 2 + b2n en)).wrB (Reg.MAC_STATUS n) 0 en
  if bit v 4 then s1.macFlush n else s1

/-- R43: at a slotframe boundary the duty that the mode has set meanwhile takes effect. -/
def State.ctrlApply (s : State) (n : Nat) : State :=
  match (s.mac n).ctrlDue with
  | some v => s.macCtrlWrite n v
  | none => s

/-! ## SCAN -/

/-- SCAN_RECEIVE, R183, R184: while EN is 1 and MAC0 runs, SCAN takes DISCOVERY frames on the slot's discovery channel into its own ring, from any
segment; other types are counted. `full` says that the transceiver had no room for the frame. -/
def execScanReceive (f : RadioFrame) (full : Bool) (s : State) : Host.Outcome State Fault Refusal :=
  .next (
    if !s.rdB Reg.SCAN_CTRL 0 || !s.rdB (Reg.MAC_STATUS 0) 0 || !f.discovery || !(Nat.beq f.channel (s.discChannel 0 (s.asn 0))) then s
    else if full then s.bump (Reg.SCAN_COUNTER 4) 1
    else if !f.fcsOk then s.bump (Reg.SCAN_COUNTER 1) 1
    else if leAt f.bytes 1 1 ≠ 1 ∨ frType f.bytes ≠ 5 then s.bump (Reg.SCAN_COUNTER 2) 1
    else
      let s0 := s.ringTouch .scan Reg.SCAN_RXR_BASE_LO
      match s0.ringFill .scan Reg.SCAN_RXR_BASE_LO f (f.bytes ++ f.body) 4 with
      | none => (s0.bump (Reg.SCAN_COUNTER 3) 1).wrB Reg.SCAN_INT_STAT 1 true
      | some s1 => (s1.bump (Reg.SCAN_COUNTER 0) 1).wrB Reg.SCAN_INT_STAT 0 true)

/-! ## The cohort key in use -/

/-- R179: a link whose counter has reached its end carries frames again under a renewed key: the counter begins anew. -/
def State.nbRekey (n : Nat) (s : State) (i : Nat) : State :=
  let s1 := if (s.rd (Reg.MAC_NB n i 4)).toNat = 0xFFFFFFFF then s.wrN (Reg.MAC_NB n i 4) 0 else s
  if (s1.rd (Reg.MAC_NB n i 5)).toNat = 0xFFFFFFFF then s1.wrN (Reg.MAC_NB n i 5) 0 else s1

/-- R205, step 3: MACn_KEY takes another slot and its generation; the generation replaced is accepted until the overlap ends. -/
def State.macKeySwitch (s : State) (n slot : Nat) : State :=
  let a := Reg.MAC_KEY n
  let old := s.rdF a 7 0
  let s1 := ((s.wrF a 7 0 slot).wrF a 15 8 ((s.slot slot).gen % 256)).wrF a 23 16 (s.rdF a 15 8)
  let s2 := (s1.nbAll n).foldl (State.nbRekey n) s1
  let m := s2.mac n
  s2.setMac n { m with overlap := decide ((s.slot old).gen ≠ 0 ∧ 0 < s.rdF a 31 24), overlapSlot := old,
                       bcast := if 0xFFFFFFFF ≤ m.bcast then 0 else m.bcast }

/-- KEY_OVERLAP_END, R168: the previous generation is no longer accepted. -/
def execKeyOverlapEnd (n : Fin 4) (s : State) : Host.Outcome State Fault Refusal :=
  .next (s.setMac n.val { s.mac n.val with overlap := false })

end Sys2Proof.Machine
end

