-- ==== Sys2Proof/Machine/Image.lean ====
section
/-! DEFINITION. Image sets, and the distribution of lantern images over the mesh (R421, R436 to R439). -/

namespace Sys2Proof.Machine

/-! ## Manifests -/

/-- Table 15.1: N_PARTS. -/
def manifestParts (m : List Byte) : Nat := leAt m 6 2

/-- Table 15.1: SEQUENCE. -/
def manifestSeq (m : List Byte) : Nat := leAt m 12 4

/-- Table 15.2: part entry k. -/
def partEntry (m : List Byte) (k : Nat) : List Byte := slice m (64 * (k + 1)) 64

/-- Table 15.2: a part's TYPE. -/
def partType (m : List Byte) (k : Nat) : Nat := leAt (partEntry m k) 0 1

/-- Table 15.2: a part's VERSION. -/
def partVersion (m : List Byte) (k : Nat) : Nat := leAt (partEntry m k) 4 4

/-- Table 15.2: a part's LENGTH. -/
def partLength (m : List Byte) (k : Nat) : Nat := leAt (partEntry m k) 8 4

/-- Table 15.2: a part's DIGEST. -/
def partDigest (m : List Byte) (k : Nat) : List Byte := slice (partEntry m k) 16 48

/-- Table 15.2: the lantern image of a hardware class. -/
def imagePart (m : List Byte) (cls : Nat) : Option Nat :=
  ((upFrom 8 (manifestParts m - 8)).find? (fun k => Nat.beq (partType m k) 16 && Nat.beq (leAt (partEntry m k) 2 2) cls))

/-- R440: UPDATE_STATE: 0 IDLE, 1 STAGING, 2 STAGED, 3 ACTIVATING, 4 PROBATION, 5 FALLING_BACK. -/
def State.updState (s : State) : Nat := s.objN 0x2C00 1

/-- R440, Table 15.9: UPDATE_STATE written to the journal, the object and UPD_STATUS. -/
def State.setUpdState (s : State) (v : Nat) : State := (s.setObjN 0x2C00 1 1 v).wrF Reg.UPD_STATUS 2 0 v

/-- Table 15.9: the active bank. -/
def State.activeBankOf (s : State) : Nat := b2n (s.rdB Reg.UPD_STATUS 3)

/-- A bank's set. -/
def State.bankSet (s : State) (b : Nat) : ImageSet := s.upd.banks.getD b {}

/-- A bank's set replaced. -/
def State.setBank (s : State) (b : Nat) (v : ImageSet) : State := { s with upd := { s.upd with banks := setAt s.upd.banks b v } }

/-- The active, confirmed set (R436). -/
def State.activeSet (s : State) : ImageSet := s.bankSet s.activeBankOf

/-! ## Distribution -/

/-- R436: is the dusk condition more than 900 s away? -/
def State.duskFar (s : State) : Bool :=
  match s.tonight s.time.now with
  | some n => Nat.blt (s.time.now + 900000000000) n.dusk
  | none => true

/-- R436: do the module's conditions for distribution hold? -/
def State.imagesGo (s : State) : Bool :=
  decide (s.mode.mode = .day) && Nat.beq (s.objN 0x2C10 1) 1 && s.duskFar && !(Nat.beq s.updState 4) && !s.activeSet.manifest.isEmpty

/-- R436: the part to offer to a lantern, if it needs one: MEMBER (a day sleeper is PARKED by day, log entry 31), its class matched, its FW_VERSION different, not FAILED for the tag. -/
def State.imageNeeds (s : State) (n : Nat) : Option Nat :=
  let m := s.activeSet.manifest
  match imagePart m (s.card n 7) with
  | none => none
  | some k =>
    if (s.card n 3 = 4 ∨ s.card n 3 = 5) ∧ s.card n 8 ≠ partVersion m k % 65536 ∧ (s.card n 0x50 = 6 ∧ s.card n 0x51 = manifestSeq m) = false then some k
    else none

/-- R437: the OFFER of a part. -/
def State.offerBody (s : State) (k : Nat) : List Byte :=
  let m := s.activeSet.manifest
  [1] ++ toLE 4 (manifestSeq m) ++ slice (partEntry m k) 2 2 ++ toLE 2 (partVersion m k) ++ toLE 4 (partLength m k) ++
    toLE 1 (s.objN 0x2C10 3) ++ partDigest m k

/-- R437: a BLOCK of a part. -/
def State.blockBody (s : State) (k b : Nat) : List Byte :=
  let m := s.activeSet
  let size := s.objN 0x2C10 3
  toLE 4 (manifestSeq m.manifest) ++ toLE 3 b ++ slice (m.parts.getD k []) (b * size) size

/-- R437: how many blocks a part has. -/
def State.blockCount (s : State) (k : Nat) : Nat :=
  let size := max 1 (s.objN 0x2C10 3)
  (partLength s.activeSet.manifest k + size - 1) / size

/-- R202, R436: a COMMAND SCHEDULE that gives a lantern a DAY uplink cell at an offset, or withdraws it. -/
def State.dayCellSend (s : State) (c n : Nat) (o : Option Nat) : State :=
  let m := s.mac c
  let cells := match o with
    | some x => toLE 1 1 ++ toLE 2 x ++ [0, 5]
    | none => [0]
  let apply := (s.asn c / m.len + 2) * m.len
  s.sendCommand n 0x11 (toLE 1 (s.objN (0x7001 + c) 7) ++ toLE 1 (s.objN 0x7000 6) ++ cells ++ toLE 5 apply)

/-- R157, R436: may a DAY cell be added to a cohort's staged schedule? -/
def State.dayRoom (s : State) (c : Nat) : Bool :=
  let len := s.rdF (Reg.MAC_SLOTFRAME c) 12 0
  Nat.blt ((upFrom 0 len).filter (fun o => bit (s.rd (Reg.MAC_CELL c o)) 2)).length (len / 10)

/-- R436: a day sleeper of FEED 0 is given a DAY uplink cell for its transfer. -/
def State.dayCellGive (s : State) (c n : Nat) : Option Nat × State :=
  let has := (s.mac c).cells.any (fun e => Nat.beq (fld e.2 1 0) 2 && Nat.beq (fld e.2 21 10) n && bit e.2 2)
  let free := (upFrom 0 (s.rdF (Reg.MAC_SLOTFRAME c) 12 0)).filter (fun o => s.rd (Reg.MAC_CELL c o) = 0)
  if has || free.isEmpty || !s.dayRoom c then (none, s)
  else
    let (f, s1) := s.free
    let o := free.getD (f % free.length) 0
    let s2 := (s1.wrN (Reg.MAC_CELL c o) (6 + n * 2 ^ 10)).setObjN (0x7001 + c) 7 1 (s.objN (0x7001 + c) 7 + 1)
    (some o, (s2.dayCellSend c n (some o)).commitFor c ((s.asn c / (s.mac c).len + 2) * (s.mac c).len))

/-- R436: a lantern's transfer ends; its DAY cell is withdrawn. -/
def State.transferEnd (s : State) (n : Nat) : State :=
  match s.upd.transfers.find? (fun (e : ImageTransfer) => Nat.beq e.lantern n) with
  | none => s
  | some e =>
    let c := s.card n 5
    let s1 := { s with upd := { s.upd with transfers := s.upd.transfers.filter (fun (x : ImageTransfer) => !(Nat.beq x.lantern n)) } }
    match e.dayCell with
    | none => s1
    | some o =>
      (((s1.wrN (Reg.MAC_CELL c o) 0).setObjN (0x7001 + c) 7 1 (s1.objN (0x7001 + c) 7 + 1)).dayCellSend c n none).commitFor c
        ((s.asn c / (s.mac c).len + 2) * (s.mac c).len)

/-- R436, R437: an offer made to a lantern, or UNREACHABLE shown for one unpowered by day. -/
def State.imageOffer (c : Nat) (s : State) (n : Nat) : State :=
  match s.imageNeeds n with
  | none => s
  | some k =>
    let busy := s.upd.transfers.any (fun (e : ImageTransfer) => Nat.beq e.lantern n) || (Nat.ble 3 (s.card n 0x50) && Nat.ble (s.card n 0x50) 4 &&
      Nat.beq (s.card n 0x51) (manifestSeq s.activeSet.manifest))
    let many := (s.upd.transfers.filter (fun (e : ImageTransfer) => Nat.beq (s.card e.lantern 5) c)).length
    if busy then s
    else if s.card n 9 = 1 then s.setCard n 0x50 1 7
    else if s.objN 0x2C10 2 ≤ many then s
    else
      let r := s.dayCellGive c n
      let s1 := ((r.2.setCard n 0x50 1 1).setCard n 0x51 4 (manifestSeq s.activeSet.manifest)).sendData n 0x21 (s.offerBody k)
      { s1 with upd := { s1.upd with transfers := s1.upd.transfers ++ [{ lantern := n, next := 0, dayCell := r.1 }] } }

/-- R437: the next block of a transfer under way is sent. -/
def State.imageBlock (c : Nat) (s : State) (e : ImageTransfer) : State :=
  match imagePart s.activeSet.manifest (s.card e.lantern 7) with
  | some k =>
    if Nat.beq (s.card e.lantern 5) c && Nat.beq (s.card e.lantern 0x50) 2 && Nat.blt e.next (s.blockCount k) then
      let s1 := s.sendData e.lantern 0x20 (s.blockBody k e.next)
      { s1 with upd := { s1.upd with transfers := s1.upd.transfers.map (fun (x : ImageTransfer) =>
        if x.lantern = e.lantern then { x with next := x.next + 1 } else x) } }
    else s
  | none => s

/-- R439: a verified lantern is told when to activate. -/
def State.imageActivate (c : Nat) (s : State) (n : Nat) : State :=
  let m := s.mac c
  let at_ := (s.asn c / m.len + 3) * m.len
  let s1 := ((s.setCard n 0x50 1 4).transferEnd n).sendData n 0x21 ([3] ++ toLE 4 (s.card n 0x51) ++ toLE 5 at_)
  { s1 with upd := { s1.upd with activating := s1.upd.activating.filter (fun (e : Nat × Nat) => !(Nat.beq e.1 n)) ++ [(n, at_)] } }

/-- R439: the lanterns of a cohort that may be activated now: VERIFIED, with LANTERN_AUTO or their class released. -/
def State.imageReady (s : State) (c : Nat) : List Nat :=
  (s.cohortCards c (fun st => Nat.beq st 4 || Nat.beq st 5)).filter (fun n => Nat.beq (s.card n 0x50) 3 &&
    Nat.beq (s.card n 0x51) (manifestSeq s.activeSet.manifest) && (Nat.beq (s.objN 0x2C10 4) 1 || s.upd.released.contains (s.card n 7)))

/-- R436 to R439: distribution at a cohort's slotframe boundary: activations up to ACT_BATCH, offers up to DIST_CONCURRENT, and the next
block of each transfer (log entry 31). -/
def State.imageStep (s : State) (c : Nat) : State :=
  if s.imagesGo then
    let s1 := ((s.imageReady c).take (s.objN 0x2C10 6)).foldl (State.imageActivate c) s
    let s2 := (s1.cohortCards c (fun st => Nat.beq st 4 || Nat.beq st 5)).foldl (State.imageOffer c) s1
    s2.upd.transfers.foldl (State.imageBlock c) s2
  else s

/-- R438, R439: PROGRESS of a lantern: OP, IMAGE_TAG, HELD, NEXT_MISSING, FLAGS. -/
def State.imageProgress (s : State) (n : Nat) (body : List Byte) : State :=
  let held := leAt body 5 3
  let flags := leAt body 11 1
  if Nat.beq body.length 12 && Nat.beq (leAt body 0 1) 2 && Nat.beq (leAt body 1 4) (s.card n 0x51) &&
      Nat.ble 1 (s.card n 0x50) && Nat.ble (s.card n 0x50) 3 && (Nat.beq (s.card n 3) 4 || Nat.beq (s.card n 3) 5) then
    let s1 := s.setCard n 0x52 4 held
    if Nat.testBit flags 1 then (s1.setCard n 0x50 1 0).transferEnd n
    else if Nat.testBit flags 0 then (s1.setCard n 0x50 1 3).transferEnd n
    else
      let s2 := s1.setCard n 0x50 1 2
      { s2 with upd := { s2.upd with transfers := s2.upd.transfers.map (fun (x : ImageTransfer) =>
        if x.lantern = n then { x with next := leAt body 8 3 } else x) } }
  else s

/-- PROGRESS, R439. -/
def execImageProgress (l : Fin 4096) (body : List Byte) (s : State) : Host.Outcome State Fault Refusal := .next (s.imageProgress l.val body)

/-- R439: a JOIN that reports the new version in time makes the card DONE. -/
def State.imageJoined (s : State) (n : Nat) : State :=
  let m := s.activeSet.manifest
  match imagePart m (s.card n 7), s.upd.activating.find? (fun (e : Nat × Nat) => Nat.beq e.1 n) with
  | some k, some e =>
    if s.card n 0x50 = 4 ∧ s.card n 8 = partVersion m k % 65536 ∧ s.asn (s.card n 5) ≤ e.2 + 60000 + 2 * (s.mac (s.card n 5)).len then
      let s1 := (s.setCard n 0x50 1 5).setObj (0x6000 + n) 0x53 (time80 s.time.now)
      { s1 with upd := { s1.upd with activating := s1.upd.activating.filter (fun (x : Nat × Nat) => !(Nat.beq x.1 n)) } }
    else s
  | _, _ => s

/-- IMAGE_ACTIVATION_TIMEOUT, R439: no such JOIN within 600 s plus 2 slotframes of ACTIVATE_ASN: the card becomes FAILED. -/
def execImageActivationTimeout (l : Fin 4096) (s : State) : Host.Outcome State Fault Refusal :=
  .next (
    let n := l.val
    match s.upd.activating.find? (fun (e : Nat × Nat) => Nat.beq e.1 n) with
    | some e =>
      if s.card n 0x50 = 4 ∧ e.2 + 60000 + 2 * (s.mac (s.card n 5)).len < s.asn (s.card n 5) then
        let s1 := (s.setCard n 0x50 1 6).record 0x15 7 n (s.card n 0x51) 0
        { s1 with upd := { s1.upd with activating := s1.upd.activating.filter (fun (x : Nat × Nat) => !(Nat.beq x.1 n)) } }
      else s
    | none => s)

/-- R433: each transceiver's slotframes without MARKS_LOST, counted at its boundaries. -/
def State.macRunCount (s : State) (n : Nat) : State :=
  let k := if s.rdB (Reg.MAC_STATUS n) 3 then 0 else s.upd.macRuns.getD n 0 + 1
  { s with upd := { s.upd with macRuns := setAt s.upd.macRuns n k } }

end Sys2Proof.Machine
end

