-- ==== Sys2Proof/Machine/Trig.lean ====
section
/-! DEFINITION. Trigger units: their instant and one-shot arming (R134 to R137). -/

namespace Sys2Proof.Machine

/-- A trigger unit's own state. -/
def State.trigger (s : State) (n : Nat) : Trig := s.time.trig.getD n {}

/-- A trigger unit's own state replaced. -/
def State.setTrigger (s : State) (n : Nat) (t : Trig) : State := { s with time := { s.time with trig := setAt s.time.trig n t } }

/-- Is a unit armed? -/
def State.trigArmed (s : State) (n : Nat) : Bool := s.rdB (Reg.TIME_TRIG_CTRL n) 0

/-- Table 4.11: a unit's instant registers, in quarters of a nanosecond. -/
def State.trigInstant (s : State) (n : Nat) : Nat :=
  ((s.rdF (Reg.TIME_TRIG_SEC_HI n) 15 0 * 2 ^ 32 + (s.rd (Reg.TIME_TRIG_SEC_LO n)).toNat) * 1000000000 +
    s.rdF (Reg.TIME_TRIG_NS n) 29 0) * 4 + s.rdF (Reg.TIME_TRIG_NS n) 31 30

/-- Table 4.11: a unit's instant registers set to a number of quarters of a nanosecond. -/
def State.setTrigInstant (s : State) (n q : Nat) : State :=
  let ns := q / 4
  (((s.wrF (Reg.TIME_TRIG_SEC_HI n) 15 0 (ns / 1000000000 / 2 ^ 32)).wrN (Reg.TIME_TRIG_SEC_LO n) (ns / 1000000000)).wrF
    (Reg.TIME_TRIG_NS n) 29 0 (ns % 1000000000)).wrF (Reg.TIME_TRIG_NS n) 31 30 (q % 4)

/-- R135, R136: resident firmware arms a unit for an instant ahead of the local clock, with a period; MISSED is cleared. -/
def State.trigSet (s : State) (n q period : Nat) : State :=
  let s1 := ((s.setTrigInstant n q).wrN (Reg.TIME_TRIG_PERIOD n) period).wrF (Reg.TIME_TRIG_STAT n) 31 16 0
  (s1.wrB (Reg.TIME_TRIG_CTRL n) 0 true).setTrigger n { s1.trigger n with next := q }

/-- R155, R246, R276: an armed unit's next instant moved, its period kept. -/
def State.trigMove (s : State) (n q : Nat) : State :=
  if s.trigArmed n then (s.setTrigInstant n q).setTrigger n { s.trigger n with next := q } else s

/-- R136: a unit disarmed: its pin rests inactive. -/
def State.trigDisarm (s : State) (n : Nat) : State :=
  (s.wrB (Reg.TIME_TRIG_CTRL n) 0 false).setTrigger n { s.trigger n with pin := false, pulseEnd := 0 }

end Sys2Proof.Machine
end

