-- ==== Sys2Proof/Machine/Member.lean ====
section
/-! DEFINITION. Lantern membership: registration, enrolment, day sleep, hand-over, key renewal and reports (R188 to R215). -/

namespace Sys2Proof.Machine

/-! ## Registration -/

/-- R189: the card that holds an EUI-64. -/
def State.cardByEui (s : State) (eui : List Byte) : Option Nat :=
  s.listedCards.find? (fun n => decide (s.obj (0x6000 + n) 1 = eui) && !(Nat.beq (s.card n 3) 0))

/-- R189: may REGISTRATION take the value? -/
def State.registrationOk (s : State) (n v : Nat) : Bool :=
  let st := s.card n 3
  if v = 1 ∨ v = 2 then decide (st = 0) && !(Nat.beq (s.card n 1) 0) && !(s.obj (0x6000 + n) 2).isEmpty
  else if v = 3 then decide (st ≠ 0)
  else if v = 0 then decide (st = 8)
  else false

/-- R189: the objects of a report card. -/
def cardSubs : List Nat := upFrom 1 0x1A ++ upFrom 0x20 0x41

/-- R190: a lantern that holds a neighbour entry retires: LEAVE with REASON 1, whose return releases the entry; at once where its cohort's MAC
sends it nothing. What waited to be sent to it is dropped. -/
def State.retire (s : State) (n : Nat) : State :=
  let c := s.card n 5
  let s0 := { s with member := { s.member with responses := s.member.responses.filter (fun (r : Response) => !(Nat.beq r.lantern n)),
                                               outbox := s.member.outbox.filter (fun (o : OutFrame) => !(Nat.beq o.lantern n)) } }
  match s.nbFind c n with
  | none => s0
  | some i =>
    if s.nbDemoted c i || !s.rdB (Reg.MAC_STATUS c) 0 || !s.rdB (Reg.MAC_CTRL c) 1 || s.rdB (Reg.MAC_CTRL c) 2 then s0.nbLeave c i
    else s0.sendCommand n 0x16 [1]

/-- R189, R190: a REGISTRATION accepted. A retired lantern is sent LEAVE and its entry released; 0 erases the card. -/
def State.registrationApply (s : State) (n v : Nat) : State :=
  let st := s.card n 3
  if v = 1 then (s.setCard n 4 1 1).cardMove n 1 true
  else if v = 2 then (s.setCard n 4 1 2).cardMove n 2 true
  else if v = 3 then (((if Nat.ble st 8 then s.retire n else s)).setCard n 4 1 3).cardMove n 8 true
  else
    let s1 := (s.nbReleaseCard n).cardMove n 0 true
    cardSubs.foldl (fun t i => t.setObj (0x6000 + n) i (Obj.default (Obj.key (0x6000 + n) i))) s1

/-! ## Enrolment -/

/-- R3, R199: a cohort with room for a lantern: MEMBERS below LIMIT, and a neighbour entry that is the lantern's or free. -/
def State.cohortRoom (s : State) (c n : Nat) : Bool :=
  Nat.blt (s.members c) (s.objN (0x7001 + c) 2) && ((s.nbFind c n).isSome || (s.nbFree c).isSome)

/-- R199: the cohort of lowest MEMBERS / LIMIT, the lowest number on a tie. -/
def State.lowestRatio (s : State) (l : List Nat) : Option Nat :=
  l.foldl (fun (best : Option Nat) c =>
    match best with
    | none => some c
    | some b => if s.members c * s.objN (0x7001 + b) 2 < s.members b * s.objN (0x7001 + c) 2 then some c else some b) none

/-- R199: the cohort chosen for a request; a MOVE's cohort takes the place of step 2 (R203). -/
def State.chooseCohort (s : State) (n : Nat) (r : EnrolRequest) : Option Nat :=
  let pin := s.card n 6
  let heard (c : Nat) : Bool := Nat.testBit r.flags (2 + c)
  let last := match assoc? n s.member.moved with
    | some c => c
    | none => s.card n 5
  if pin ≤ 3 ∧ s.cohortRoom pin n = true then some pin
  else if Nat.testBit r.flags 0 && Nat.ble last 3 && (heard last || (assoc? n s.member.moved).isSome) && s.cohortRoom last n then some last
  else s.lowestRatio ((upFrom 0 4).filter (fun c => (heard c || Nat.beq c r.cohort) && s.cohortRoom c n))

/-- The staged cell of a slot offset. -/
def State.stagedCell (s : State) (n o : Nat) : Word := s.rd (Reg.MAC_CELL n o)

/-- R202: the slot offsets of a cohort's staged schedule that hold nothing. -/
def State.idleOffsets (s : State) (n : Nat) : List Nat :=
  (upFrom 0 (s.rdF (Reg.MAC_SLOTFRAME n) 12 0)).filter (fun o => s.stagedCell n o = 0)

/-- R202: the offset of the staged receive cell dedicated to a lantern. -/
def State.stagedOffset (s : State) (c n : Nat) : Option Nat :=
  ((s.stagedCells c).find? (fun e => !bit e.2 3 && Nat.beq (fld e.2 1 0) 2 && Nat.beq (fld e.2 5 4) 0 && Nat.beq (fld e.2 21 10) n)).map (fun e => e.1)

/-- R200, R202: a dedicated receive cell staged for a direct neighbour, the one it has or one at an offset the module chooses among the idle ones
(log entry 2), SCHED_VERSION advanced and the schedule committed. Answers the offset, none where no offset is idle. -/
def State.placeCell (s : State) (c n : Nat) : Option Nat × State :=
  match s.stagedOffset c n, s.idleOffsets c with
  | some o, _ => (some o, s.commitNow c)
  | none, [] => (none, s)
  | none, l =>
    let (f, s1) := s.free
    let o := l.getD (f % l.length) 0
    (some o, ((s1.wrN (Reg.MAC_CELL c o) (2 + n * 2 ^ 10)).setObjN (0x7001 + c) 7 1 (s.objN (0x7001 + c) 7 + 1)).commitNow c)

/-- R265: may a lantern be a relay at its depth h: (h + 1) × LM_LEN is at most 10? -/
def State.relayFits (s : State) (n : Nat) : Bool := Nat.ble ((s.lampDepth 4 n + 1) * s.objN 0x2500 4) 10

/-- R202, R265: the lanterns of a cohort that may serve as a relay for a lantern: other members with RELAY capability. -/
def State.relays (s : State) (c n : Nat) : List Nat :=
  (s.cohortCards c (fun st => Nat.beq st 4)).filter (fun m => !(Nat.beq m n) && Nat.testBit ((assoc? m s.member.caps).getD 0) 0 && s.relayFits m)

/-- R265: the slot offsets outside the light-map cells and a relay's repetitions of them, where the relay and the lanterns it serves have their
cells. -/
def State.relayOffsets (s : State) (c relay : Nat) : List Nat :=
  let p := s.objN 0x2500 5
  (upFrom 0 (s.mac c).len).filter (fun o => Nat.blt (o % 10) p || Nat.ble (p + (s.lampDepth 4 relay + 1) * s.objN 0x2500 4) (o % 10))

/-- R265, Table 6.8: a relay's transmit cells, LM_LEN slots h × LM_LEN after each light-map cell, h its depth. -/
def State.relayCells (s : State) (c relay : Nat) : List Byte :=
  let lm := s.objN 0x2500 4
  let l := (s.mac c).len
  let o := s.lampDepth 4 relay * lm
  ((upFrom 0 l).filter (fun k => Nat.beq (k % 10) (s.objN 0x2500 5) && Nat.ble (k + lm) l && Nat.ble (k + o + lm) l)).flatMap
    (fun k => toLE 2 (k + o) ++ [0] ++ toLE 1 (1 + 8 * (lm - 1)))

/-- R202: COMMAND SCHEDULE: SCHED_VERSION, WAKE_INTERVAL, the cells as the lantern sees them, APPLY_ASN. -/
def State.sendSchedule (s : State) (c n : Nat) (cells : List Byte) (apply : Nat) : State :=
  s.sendCommand n 0x11 (toLE 1 (s.objN (0x7001 + c) 7) ++ toLE 1 (s.objN 0x7000 6) ++ toLE 1 (cells.length / 4) ++ cells ++ toLE 5 apply)

/-- R202: the APPLY_ASN of a change announced now: a slotframe boundary at least one slotframe away. -/
def State.applyAsn (s : State) (c : Nat) : Nat := (s.asn c / (s.mac c).len + 2) * (s.mac c).len

/-- R211, R265: a member becomes a relay: RELAY_CFG with an offset for its discovery cell that the module chooses (log entry 2), its own cell moved
out of the slots in which it repeats the light map, and COMMAND SCHEDULE with its cells. -/
def State.makeRelay (s : State) (c m : Nat) : State :=
  let (f, s1) := s.free
  let (g, s2) := s1.free
  let disc := (s.idleOffsets c).filter (fun o => Nat.beq (o % 32) (4 * c))
  let offs := s.relayOffsets c m
  let s3 := (s2.setCard m 0x1A 1 1).sendCommand m 0x1A (toLE 1 1 ++ toLE 2 (disc.getD (f % disc.length) 0))
  let apply := s.applyAsn c
  let up := (s.stagedOffset c m).getD 0
  let free := offs.filter (fun o => s.stagedCell c o = 0)
  let o := if offs.contains up then up else free.getD (g % free.length) up
  let s4 := if o = up then s3 else
    ((s3.wrN (Reg.MAC_CELL c o) (s.stagedCell c up).toNat).wrN (Reg.MAC_CELL c up) 0).setObjN (0x7001 + c) 7 1 (s.objN (0x7001 + c) 7 + 1)
  (s4.sendSchedule c m (toLE 2 o ++ [0, 1] ++ s.relayCells c m) apply).commitFor c apply

/-- R202, R211: where no offset remains, the lantern goes behind the member with RELAY capability from which it is heard strongest, so far as
relays have reported it; among relays that none reported the choice is left free. Answers the relay's short address and the offset of the
lantern's cell. -/
def State.placeRelay (s : State) (c n : Nat) : Nat × Nat × State :=
  let (f, s1) := s.free
  let (g, s2) := s1.free
  let l := s.relays c n
  let heard := (s.member.relayRssi.filter (fun (e : Nat × Nat × Int) => Nat.beq e.1 n && l.contains e.2.1)).map (fun (e : Nat × Nat × Int) => e.2)
  let best := heard.foldl (fun (b : Option (Nat × Int)) e =>
    match b with
    | none => some e
    | some x => if x.2 < e.2 then some e else b) none
  let m := match best with
    | some e => e.1
    | none => l.getD (f % l.length) 0
  let offs := s.relayOffsets c m
  let o := offs.getD (g % offs.length) 0
  (m + 0x1000 * c, o, if s2.card m 0x1A = 0 then s2.makeRelay c m else s2)

/-- R200, R202, R211: an enrolling lantern's time parent, the offset of its uplink cell, and the state: behind the relay that forwarded its request,
else in a cell of the cohort's schedule, else behind a relay. -/
def State.placeLantern (s : State) (c n relay : Nat) : Nat × Nat × State :=
  if relay ≠ 0 then
    let (f, s1) := s.free
    let offs := s.relayOffsets c (relay % 0x1000)
    (relay, offs.getD (f % offs.length) 0, s1)
  else
    match s.placeCell c n with
    | (some o, s1) => (0x4000 + 0x1000 * c, o, s1)
    | (none, _) => s.placeRelay c n

/-- R202, R265: is there a place for one more lantern in a cohort? -/
def State.placeable (s : State) (c n relay : Nat) : Bool :=
  if !(Nat.beq relay 0) then s.relayFits (relay % 0x1000) else (s.stagedOffset c n).isSome || !(s.idleOffsets c).isEmpty || !(s.relays c n).isEmpty

/-- R200: the neighbour entry of an enrolling lantern. -/
def State.nbWrite (s : State) (c i n : Nat) : State :=
  let eui := s.obj (0x6000 + n) 1
  let w (k v : Nat) (t : State) : State := t.wrN (Reg.MAC_NB c i k) v
  let s1 := w 5 (s.card n 0x0F) (w 4 (s.card n 0x0E) (w 3 1 (w 7 (leAt eui 4 4) (w 6 (leAt eui 0 4) (w 2 0 (w 1 0 (w 0 n (s.nbRelease c i))))))))
  s1.nbSetValid c i

/-- R192, R194: K_AUTH or K_WRAP of a lantern, by its label, under its installation code, which is held wrapped under slot 1, STORE. -/
def State.enrolKey (s : State) (n : Nat) (label : List Byte) : List Byte :=
  kdf (s.codeOpen (s.obj (0x6000 + n) 2)) label 0 (s.obj (0x6000 + n) 1) 16

/-- R195: the MIC of a DISCOVERY payload under K_AUTH: the nonce kind (0 enrolment, 1 probes), the counter and CODE; header and payload as
associated data. -/
def State.discMic (s : State) (n kind counter code : Nat) (aad : List Byte) : List Byte :=
  fit 8 (Config.ccmSeal 8 (s.enrolKey n [0x4E, 0x4C, 0x45, 0x41])
    (s.obj (0x6000 + n) 1 ++ toLE 1 0 ++ toLE 1 kind ++ (toLE 2 counter).reverse ++ toLE 1 code) aad [])

/-- R195, Tables 6.3, 6.5 and 6.7: the header and the payload before the MIC of a request (code 2) or a probe (code 5). -/
def requestBytes (r : EnrolRequest) (code : Nat) : List Byte :=
  [0x85, 1] ++ toLE 2 r.segment ++ toLE 2 (0x4000 + 0x1000 * r.cohort) ++ [0xFF, 0xFF, 0, 0] ++ r.eui ++ toLE 1 code ++
    (if code = 2 then toLE 1 r.flags ++ toLE 2 r.hwClass else [0]) ++ toLE 2 r.counter

/-- R195: the MIC that verifies for a request or a probe of a lantern. -/
def State.requestMic (s : State) (n : Nat) (r : EnrolRequest) (code : Nat) : List Byte :=
  s.discMic n (if code = 5 then 1 else 0) r.counter code (requestBytes r code)

/-- R194, R195: does a request or a probe verify? None does while the slot that wraps the installation codes fails its chain check (log entry 56). -/
def State.requestOk (s : State) (n : Nat) (r : EnrolRequest) (code : Nat) : Bool :=
  decide (s.chainCheck 1 = .ok) && decide (r.mic = s.requestMic n r code)

/-- The header of a DISCOVERY frame of the module for a cohort (Tables 5.5 and 6.3). -/
def State.discHeader (s : State) (c : Nat) : List Byte :=
  [5, 1] ++ toLE 2 (s.rdF (Reg.MAC_ADDR c) 15 0) ++ toLE 2 (0x8FFF + 0x1000 * c) ++ toLE 2 (0x4000 + 0x1000 * c) ++ [0, 0]

/-- Table 6.6: the ENROL_ACCEPT payload. -/
def State.acceptPayload (s : State) (c n : Nat) (r : EnrolRequest) (offset : Nat) : List Byte :=
  let m := s.mac c
  let eui := s.obj (0x6000 + n) 1
  let keys := fit 40 (Config.keyWrap (s.enrolKey n [0x4E, 0x4C, 0x45, 0x57]) (s.linkKey c eui ++ s.cohortKey c))
  let hop := s.obj 0x2200 2
  let disc := fit 4 (s.obj 0x2200 4 ++ List.replicate 4 0xFF)
  let cells := toLE 2 offset ++ [0, 1]
  let p := [3, if s.card n 0x0A < 0x4000 then 1 else 0] ++ eui ++ toLE 2 r.counter ++ toLE 2 (n + 0x1000 * c) ++ toLE 2 (s.card n 0x0A) ++
    toLE 1 (s.rdF (Reg.MAC_KEY c) 15 8) ++ keys ++ toLE 4 (s.card n 0x0E) ++ toLE 2 m.len ++ toLE 1 (s.objN (0x7001 + c) 7) ++
    s.obj 0x2210 (c + 1) ++ toLE 2 (fld m.hop 31 16) ++ toLE 2 (s.rdF (Reg.MAC_TIMING c) 11 0) ++ toLE 2 (s.rdF (Reg.MAC_TIMING c) 23 12) ++
    s.obj 0x7000 6 ++ disc ++ toLE 1 hop.length ++ toLE 1 (cells.length / 4) ++ hop ++ cells
  p ++ s.discMic n 0 r.counter 3 (s.discHeader c ++ p)

/-- Table 6.7: the ENROL_REJECT payload. -/
def State.rejectPayload (s : State) (n : Nat) (r : EnrolRequest) (reason retry : Nat) : List Byte :=
  let p := [4, BitVec.ofNat 8 reason] ++ s.obj (0x6000 + n) 1 ++ toLE 2 r.counter ++ toLE 2 retry ++ [0, 0]
  p ++ s.discMic n 0 r.counter 4 (s.discHeader r.cohort ++ p)

/-- R196: RESP_WAIT, the slots within which a response is sent, as the DISC_BEACON gives it; the spec states no value. -/
def respWait : Nat := Config.respWait

/-- R188, R196: an ENROL_ACCEPT sent makes the lantern ENROLLING, from the states that Table 6.2 lists; its former state is kept for
JOIN_TIMEOUT. -/
def State.acceptSent (s : State) (n : Nat) : State :=
  let st := s.card n 3
  if st = 0 ∨ 8 ≤ st then s
  else
    let prev := if st = 3 then (match assoc? n s.member.enrolling with
      | some p => p.1
      | none => 1) else st
    ({ s with member := { s.member with enrolling := s.member.enrolling.filter (fun (e : Nat × Nat × Nat) => !(Nat.beq e.1 n)) ++ [(n, prev, 0)] } }.setObj
      (0x6000 + n) 0x0B (time80 s.time.now)).cardMove n 3 false

/-- R196, R211: a response joins its cohort's queue; one to a request that a relay forwarded returns through it as ENROL_RETURN. -/
def State.queueResponse (s : State) (c n relay : Nat) (accept : Bool) (p : List Byte) : State :=
  if relay = 0 then
    { s with member := { s.member with responses := s.member.responses ++
      [{ cohort := c, lantern := n, accept := accept, payload := p, earliest := s.time.now + 50000000, lastAsn := s.asn c + respWait }] } }
  else
    let s1 := s.sendCommand (relay % 0x1000) 0x19 (s.discHeader c ++ p)
    if accept then s1.acceptSent n else s1

/-- R199, R200: a lantern's neighbour entries in other cohorts than one are released. -/
def State.nbElsewhere (s : State) (c n : Nat) : State :=
  ((upFrom 0 4).filter (fun k => !(Nat.beq k c))).foldl (fun t k =>
    match t.nbFind k n with
    | some i => t.nbLeave k i
    | none => t) s

/-- R200: an ENROL_ACCEPT prepared: the neighbour entry, the one the lantern has in the cohort or a new one, the dedicated cell, the payload. -/
def State.enrolAccept (s : State) (c n : Nat) (r : EnrolRequest) : State :=
  let s1 := s.nbElsewhere c n
  let s2 := (s1.setCard n 5 1 c).setCard n 7 2 r.hwClass
  let s3 := match s2.nbFind c n with
    | some i => (s2.nbSave c i).nbWrite c i n
    | none =>
      match s2.nbFree c with
      | some i => s2.nbWrite c i n
      | none => s2
  let (parent, o, s4) := s3.placeLantern c n r.relay
  let s5 := { s4.setCard n 0x0A 2 parent with member := { s4.member with moved := s4.member.moved.filter (fun (e : Nat × Nat) => !(Nat.beq e.1 n)) } }
  s5.queueResponse c n r.relay true (s5.acceptPayload c n r o)

/-- Object 0x7000:10: an enrolment counter advances. -/
def State.enrolCount (s : State) (k : Nat) : State := s.bumpU32 0x7000 0x10 k 1

/-- ENROL_REQUEST, R198, Table 6.9: the first failing check decides; a REJECT after check 7 or 8 carries 600 s, and the
RETRY_AFTER of one after check 6 is left open. -/
def State.enrolRequest (s : State) (r : EnrolRequest) : State :=
  if r.segment ≠ s.objN 0x2200 1 ∨ s.rdB (Reg.MAC_STATUS r.cohort) 0 = false then s
  else
    match s.cardByEui r.eui with
    | none => s.enrolCount 0
    | some n =>
      if !s.requestOk n r 2 then s.enrolCount 1
      else if r.counter ≤ s.card n 0x0D then s.enrolCount 2
      else
        let s1 := (s.setCard n 0x0D 2 r.counter).setCard n 0x16 1 (r.flags / 4 % 16)
        let st := s.card n 3
        let reject (reason retry : Nat) : State := s1.queueResponse r.cohort n r.relay false (s1.rejectPayload n r reason retry)
        if st = 8 then reject 3 0xFFFF
        else if st = 2 ∧ Nat.testBit r.flags 1 = false then
          let (f, s2) := s1.free
          s2.queueResponse r.cohort n r.relay false (s2.rejectPayload n r 4 (f % 2 ^ 16))
        else if s.inModes (s.objN 0x7000 2) = false ∧ ¬(st = 4 ∨ st = 5 ∨ st = 6 ∨ st = 7) then reject 1 600
        else
          match s1.chooseCohort n r with
          | none => reject 2 600
          | some c => if s1.placeable c n r.relay then s1.enrolAccept c n r else reject 2 600

/-- ENROL_REQUEST. -/
def execEnrolRequest (r : EnrolRequest) (s : State) : Host.Outcome State Fault Refusal := .next (s.enrolRequest r)

/-- ENROL_FORWARD, R202, R211: a request heard by a relay, with the strength the relay heard it at, is decided in the same way; the response
returns through the relay by ENROL_RETURN. -/
def execEnrolForward (relay : Nat) (rssi : BitVec 8) (r : EnrolRequest) (s : State) : Host.Outcome State Fault Refusal :=
  .next (
    let m := relay % 0x1000
    let s1 := match s.cardByEui r.eui with
      | some n =>
        let rest := s.member.relayRssi.filter (fun (e : Nat × Nat × Int) => !(Nat.beq e.1 n && Nat.beq e.2.1 m))
        { s with member := { s.member with relayRssi := rest ++ [(n, m, rssi.toInt)] } }
      | none => s
    s1.enrolRequest { r with relay := relay })

/-- Table 6.4: the DISC_BEACON payload. -/
def State.discBeacon (s : State) (c : Nat) : List Byte :=
  let m := s.mac c
  let isOpen := b2n (s.inModes (s.objN 0x7000 2))
  [1] ++ toLE 1 (isOpen + 2 * isOpen + 4 * b2n (s.rdB (Reg.MAC_STATUS c) 1)) ++ toLE 5 (s.asn c) ++ time80 m.slotStart ++ toLE 2 m.len ++
    toLE 2 (s.rdF (Reg.MAC_TIMING c) 11 0) ++ toLE 2 (s.rdF (Reg.MAC_TIMING c) 23 12) ++ toLE 1 c ++ toLE 1 (s.objN (0x7001 + c) 7) ++
    toLE 2 (s.members c) ++ s.obj 0x7000 3 ++ toLE 2 respWait ++ toLE 1 (s.time.servoState % 4 + 4 * b2n (decide (s.mode.mode = .islanded)))

/-- R161: does a DISCOVERY frame with a payload fit the cell? It goes in MR-FSK 50 kbit/s with an 8-octet preamble. -/
def State.discFits (s : State) (n : Nat) (p : List Byte) : Bool :=
  cellFits 0x1C080001 (s.rdF (Reg.MAC_TIMING n) 11 0) (s.cellFirst n) (p.length + 14) false

/-- DISCOVERY_CELL, R161, R196: the cohort's oldest response that is due and not too late, or else a DISC_BEACON. -/
def execDiscoveryCell (c : Fin 4) (s : State) : Host.Outcome State Fault Refusal :=
  .next (
    let n := c.val
    let cell := s.cellFirst n
    if fld cell 1 0 = 1 ∧ fld cell 5 4 = 3 ∧ s.rdB (Reg.MAC_STATUS n) 0 = true ∧ s.rdB (Reg.MAC_CTRL n) 1 = true ∧
        s.rdB (Reg.MAC_CTRL n) 2 = false ∧ s.rdB (Reg.MAC_STATUS n) 3 = false then
      let live := s.member.responses.filter (fun r => !(Nat.beq r.cohort n) || Nat.ble (s.asn n) r.lastAsn)
      let send (t : State) (p : List Byte) : State := if s.discFits n p then t.onAir n (s.discHeader n ++ p) else t
      match live.find? (fun r => Nat.beq r.cohort n && Nat.ble r.earliest s.time.now && s.discFits n r.payload) with
      | some r =>
        let s1 := send { s with member := { s.member with responses := live.filter (fun q => !(decide (q = r))) } } r.payload
        if r.accept then s1.acceptSent r.lantern else s1
      | none => send { s with member := { s.member with responses := live } } (s.discBeacon n)
    else s)

/-- JOIN_TIMEOUT, R188: an ENROLLING lantern not heard for JOIN_TIMEOUT slotframes returns to its former state, or to REGISTERED
where that held a neighbour entry. -/
def execJoinTimeout (l : Fin 4096) (s : State) : Host.Outcome State Fault Refusal :=
  .next (
    let n := l.val
    match assoc? n s.member.enrolling with
    | some (prev, k) =>
      if s.card n 3 = 3 ∧ s.objN 0x7000 7 ≤ k then
        let s1 := s.nbReleaseCard n
        ({ s1 with member := { s1.member with enrolling := s1.member.enrolling.filter (fun (e : Nat × Nat × Nat) => !(Nat.beq e.1 n)) } }).cardMove n
          (if holdsEntry prev then 1 else prev) true
      else s
    | none => s)

/-- LOST_AFTER, R188: LOST_AFTER hours in DEMOTED make the lantern LOST and release its entry. -/
def execLostAfter (l : Fin 4096) (s : State) : Host.Outcome State Fault Refusal :=
  .next (if s.card l.val 3 = 6 then (s.nbReleaseCard l.val).cardMove l.val 7 true else s)

/-- LEAVE, R188: a LEAVE from a lantern. -/
def execLanternLeave (l : Fin 4096) (_reason : BitVec 8) (s : State) : Host.Outcome State Fault Refusal :=
  .next (if s.card l.val 3 = 4 ∨ s.card l.val 3 = 5 ∨ s.card l.val 3 = 6 then (s.nbReleaseCard l.val).cardMove l.val 1 true else s)

/-- R211: a JOIN records class, version and features. -/
def State.join (s : State) (n : Nat) (b : List Byte) : State :=
  if holdsEntry (s.card n 3) then
    let s1 := ((s.setCard n 7 2 (leAt b 0 2)).setCard n 8 2 (leAt b 2 2)).setCard n 9 1 (leAt b 5 1)
    ({ s1 with member := { s1.member with caps := s1.member.caps.filter (fun (e : Nat × Nat) => !(Nat.beq e.1 n)) ++ [(n, leAt b 4 1)] } }).imageJoined n
  else s

/-- HEALTH_REPORT, R212. -/
def execHealthReport (l : Fin 4096) (body : List Byte) (s : State) : Host.Outcome State Fault Refusal :=
  .next (if holdsEntry (s.card l.val 3) && Nat.beq body.length 16 then
      ((s.setObj (0x6000 + l.val) 0x11 body).setObj (0x6000 + l.val) 0x12 (time80 s.time.now)).setCard l.val 0x34 2 (leAt body 8 2 % 1024)
    else s)

/-- DICTIONARY_MESSAGE, R211, R213: a fragment of a dictionary message of a lantern; the last completes it. -/
def execDictionaryMessage (l : Fin 4096) (body : List Byte) (s : State) : Host.Outcome State Fault Refusal :=
  .next (
    let n := l.val
    let frag := leAt body 0 1
    let had := if frag % 128 = 0 then [] else (assoc? n s.member.fragments).getD []
    let all := had ++ body.drop 1
    let rest := s.member.fragments.filter (fun (e : Nat × List Byte) => !(Nat.beq e.1 n))
    if holdsEntry (s.card n 3) then
      if Nat.testBit frag 7 then { s with member := { s.member with fragments := rest, messages := s.member.messages ++ [(n, all)] } }
      else { s with member := { s.member with fragments := rest ++ [(n, all)] } }
    else s)

/-! ## Hand-over -/

/-- R209: a probe of a RESERVE lantern joins PROBES_HEARD, or updates its entry. -/
def State.probeHeard (s : State) (r : EnrolRequest) (rssi : BitVec 8) : State :=
  let l := s.obj 0x7000 0x0C
  let entry (count : Nat) : List Byte := r.eui ++ toLE 2 r.segment ++ [rssi] ++ toLE 1 (min 255 count) ++ toLE 4 (s.time.now / 1000000000)
  match (upFrom 0 (l.length / 16)).find? (fun k => decide (slice l (16 * k) 8 = r.eui)) with
  | some k => s.setObj 0x7000 0x0C (l.take (16 * k) ++ entry (leAt l (16 * k + 11) 1 + 1) ++ l.drop (16 * k + 16))
  | none => if l.length < 4096 then s.setObj 0x7000 0x0C (l ++ entry 1) else s

/-- HANDOVER_PROBE, R209: heard from a member it updates PROBE_RSSI, from a RESERVE lantern PROBES_HEARD; others are discarded, as
is one whose MIC fails (R195). -/
def execHandoverProbe (r : EnrolRequest) (rssi : BitVec 8) (s : State) : Host.Outcome State Fault Refusal :=
  .next (match s.cardByEui r.eui with
    | none => s
    | some n =>
      if !s.requestOk n r 5 then s
      else if s.card n 3 = 4 ∨ s.card n 3 = 5 ∨ s.card n 3 = 6 then s.setObj (0x6000 + n) 0x19 [rssi]
      else if s.card n 3 = 2 then s.probeHeard r rssi
      else s)

/-- R210: one entry of a peer's PROBES_HEARD against a lantern's PROBE_RSSI: HANDOVER_COUNT probes in a row at that peer above it by
HANDOVER_MARGIN send HANDOVER while both modules are in DAY. -/
def State.pollEntry (peerSegment : Nat) (peerDay : Bool) (s : State) (e : List Byte) : State :=
  match s.cardByEui (slice e 0 8) with
  | none => s
  | some n =>
    if (s.card n 3 = 4 ∨ s.card n 3 = 5 ∨ s.card n 3 = 6) ∧ s.card n 0x18 = 1 then
      let rssi := sx 8 (leAt e 10 1)
      let seen := leAt e 11 1
      let (run, last) := match s.member.probeRuns.find? (fun q => decide (q.1 = (n, peerSegment))) with
        | some q => q.2
        | none => (0, 0)
      let run1 := if seen = last then run else if s.objI (0x6000 + n) 0x19 8 + s.objN 0x7000 0x0E ≤ rssi then run + 1 else 0
      let s1 := { s with member := { s.member with probeRuns := s.member.probeRuns.filter (fun (q : (Nat × Nat) × Nat × Nat) =>
        !(decide (q.1 = (n, peerSegment)))) ++ [((n, peerSegment), run1, seen)] } }
      if s.objN 0x7000 0x0F ≤ run1 ∧ peerDay = true ∧ s.mode.mode = .day then
        s1.sendCommand n 0x15 (toLE 2 peerSegment ++ toLE 5 (s.asn (s.card n 5)))
      else s1
    else s

/-- R210: is a module, by its EUI-64, one of HANDOVER_PEERS? -/
def State.handoverPeer (s : State) (peer : List Byte) : Bool :=
  let l := s.obj 0x7000 0x0B
  (upFrom 0 (l.length / 8)).any (fun k => decide (slice l (8 * k) 8 = peer))

/-- HANDOVER_POLL, R210: the PROBES_HEARD of a module in HANDOVER_PEERS, read over a ring session; another module's is not read. -/
def execHandoverPoll (peer : List Byte) (peerSegment : Nat) (peerDay : Bool) (heard : List Byte) (s : State) : Host.Outcome State Fault Refusal :=
  .next (if s.handoverPeer peer then
      (upFrom 0 (heard.length / 16)).foldl (fun t k => t.pollEntry peerSegment peerDay (slice heard (16 * k) 16)) s
    else s)

/-- R170, R210: an acknowledged HANDOVER moves the card to RESERVE and releases its entry. -/
def State.handoverAcked (s : State) (n ix : Nat) : State :=
  let b := s.txBytes n ix
  let l := s.txDst n ix % 0x1000
  if frType b = 4 ∧ leAt b (frHeader b + 5) 1 = 0x15 ∧ (s.card l 3 = 4 ∨ s.card l 3 = 5 ∨ s.card l 3 = 6) then
    (s.nbReleaseCard l).cardMove l 2 true
  else s

/-- ACK_RECEIVE, R170: an ACK; one for a HANDOVER completes the hand-over (R210). -/
def execAckReceive (n : Fin 4) (f : RadioFrame) (s : State) : Host.Outcome State Fault Refusal :=
  .next (
    let s1 := s.macReceive n.val f
    match (s.mac n.val).awaiting with
    | some w => if s.ackTaken n.val f then s1.handoverAcked n.val w.entry else s1
    | none => s1)

/-! ## Key renewal -/

/-- Table 6.15: the key slot of a cohort that is not active. -/
def State.inactiveSlot (s : State) (c : Nat) : Nat := if s.objN (0x7001 + c) 5 = 0 then s.objN (0x7001 + c) 4 else s.objN (0x7001 + c) 3

/-- The active key slot of a cohort. -/
def State.activeSlot (s : State) (c : Nat) : Nat := if s.objN (0x7001 + c) 5 = 0 then s.objN (0x7001 + c) 3 else s.objN (0x7001 + c) 4

/-- Table 6.11: the body of KEY_UPDATE for a lantern: KEY_GEN, ACTIVATE_ASN, the new keys wrapped under K_RENEW. -/
def State.keyUpdateBody (s : State) (c slot activate n : Nat) : List Byte :=
  let eui := s.obj (0x6000 + n) 1
  let key := (s.slot slot).key
  toLE 1 ((s.slot slot).gen % 256) ++ toLE 5 activate ++
    fit 40 (Config.keyWrap (kdf (s.linkKey c eui) [0x4E, 0x4C, 0x4B, 0x57] 0 eui 16)
      (kdf key [0x4E, 0x4C, 0x4C, 0x4B] 0 eui 16 ++ kdf key [0x4E, 0x4C, 0x43, 0x42] 0 (List.replicate 8 0) 16))

/-- R205: may a renewal of a cohort begin? In DAY only, KEY_RENEWAL days after the last, 0 meaning never, with none under way, no member
ENROLLING in any cohort, and no scheduled dusk within 60 s. -/
def State.renewalMay (s : State) (c : Nat) : Bool :=
  let days := s.objN 0x7000 9
  let due := match assoc? c s.member.renewed with
    | some t => Nat.ble (t + days * 86400000000000) s.time.now
    | none => true
  decide (s.mode.mode = .day) && !(Nat.beq days 0) && due && s.member.renewals.isEmpty &&
    (s.listedCards.filter (fun n => Nat.beq (s.card n 3) 3)).isEmpty && !s.duskWithin s.time.now 59999999999

/-- KEY_RENEWAL, R205: new key material in the inactive slot, with the active one as TWIN (R409), and KEY_UPDATE to every member
with a neighbour entry; ACTIVATE_ASN lies at least 8 slotframes ahead. -/
def execKeyRenewal (c : Fin 4) (s : State) : Host.Outcome State Fault Refusal :=
  .next (
    let n := c.val
    if s.renewalMay n then
      let slot := s.inactiveSlot n
      let cmd : KeyCmd := { slot := slot, parent := 8, kind := 1, twin := s.activeSlot n, attr := 0x141 }
      let s1 := s.keyCommand 1 cmd
      if s.keyCheck 1 cmd = 0 then
        let (f, s2) := s1.free
        let at_ := s2.asn n + 8 * (s2.mac n).len + f % (s2.mac n).len
        let s3 := (s2.cohortCards n holdsEntry).foldl (fun t l => t.sendCommand l 0x12 (t.keyUpdateBody n slot at_ l)) s2
        { s3 with member := { s3.member with renewed := s3.member.renewed.filter (fun (e : Nat × Ns) => !(Nat.beq e.1 n)) ++ [(n, s.time.now)],
                                             renewals := s3.member.renewals ++ [{ cohort := n, slot := slot, gen := (s3.slot slot).gen, activate := at_, ready := [] }] } }
      else s1
    else s)

/-- KEY_READY, R205: a lantern confirms the update that names its generation. -/
def execKeyReady (l : Fin 4096) (gen : BitVec 8) (s : State) : Host.Outcome State Fault Refusal :=
  .next { s with member := { s.member with renewals := s.member.renewals.map (fun r =>
    if r.cohort = s.card l.val 5 ∧ r.gen % 256 = gen.toNat ∧ r.ready.contains l.val = false then { r with ready := r.ready ++ [l.val] } else r) } }

/-- KEY_ACTIVATION, R205: at ACTIVATE_ASN MACn_KEY.SLOT takes the renewed slot. -/
def execKeyActivation (c : Fin 4) (s : State) : Host.Outcome State Fault Refusal :=
  .next (
    let n := c.val
    match s.member.renewals.find? (fun r => Nat.beq r.cohort n) with
    | none => s
    | some r =>
      if r.activate ≤ s.asn n then
        let s1 := s.macKeySwitch n r.slot
        let s2 := (s1.setObjN (0x7001 + n) 5 1 (1 - min 1 (s.objN (0x7001 + n) 5))).setObjN (0x7001 + n) 6 1 (r.gen % 256)
        { s2 with member := { s2.member with renewals := s2.member.renewals.filter (fun (q : Renewal) => !(Nat.beq q.cohort n)) } }
      else s)

/-! ## Rebalancing -/

/-- R203: is a cohort's MEMBERS / LIMIT above the segment mean by more than 0.05, with the moves already sent taken away? The
mean is all MEMBERS over all LIMITs. -/
def State.overfull (s : State) (c : Nat) : Bool :=
  let lim (k : Nat) : Nat := s.objN (0x7001 + k) 2
  let mem := s.members c - ((s.cohortCards c holdsEntry).filter (fun n => (assoc? n s.member.moved).isSome)).length
  let total := (upFrom 0 4).foldl (fun a k => a + s.members k) 0
  let limits := (upFrom 0 4).foldl (fun a k => a + lim k) 0
  Nat.blt (20 * total * lim c + limits * lim c) (20 * mem * limits)

/-- R203: is a cohort below the segment mean? -/
def State.belowMean (s : State) (c : Nat) : Bool :=
  let total := (upFrom 0 4).foldl (fun a k => a + s.members k) 0
  let limits := (upFrom 0 4).foldl (fun a k => a + s.objN (0x7001 + k) 2) 0
  Nat.blt (s.members c * limits) (total * s.objN (0x7001 + c) 2)

/-- R203: a candidate of a cohort and the cohort it moves to: a MEMBER without a COHORT_PIN whose last request reported a cohort below the mean,
not moved already. -/
def State.moveNext (s : State) (c : Nat) : Option (Nat × Nat) :=
  match (s.cohortCards c (fun st => Nat.beq st 4)).find? (fun n => (assoc? n s.member.moved).isNone && Nat.blt 3 (s.card n 6) &&
      (upFrom 0 4).any (fun t => Nat.testBit (s.card n 0x16) t && s.belowMean t)) with
  | none => none
  | some n => (s.lowestRatio ((upFrom 0 4).filter (fun t => Nat.testBit (s.card n 0x16) t && s.belowMean t))).map (fun t => (n, t))

/-- R203: MOVE sent to candidates of a cohort, k at most. -/
def State.moveBatch (c : Nat) : Nat → State → State
  | 0, s => s
  | k + 1, s =>
    if s.overfull c then
      match s.moveNext c with
      | none => s
      | some (n, t) =>
        let s1 := s.sendCommand n 0x14 (toLE 1 t ++ toLE 5 (s.asn c))
        State.moveBatch c k { s1 with member := { s1.member with moved := s1.member.moved ++ [(n, t)] } }
    else s

/-- R203: does a rebalancing go on: is a cohort overfull that has a candidate left? -/
def State.rebalanceOn (s : State) : Bool := (upFrom 0 4).any (fun c => s.overfull c && (s.moveNext c).isSome)

/-- REBALANCE, R203: at most 32 moves per cohort per slotframe, the first at once, until no cohort is overfull or no candidate is
left. -/
def State.rebalance (s : State) : State :=
  let s1 := (upFrom 0 4).foldl (fun t c => State.moveBatch c 32 t) s
  { s1 with member := { s1.member with rebalancing := s1.rebalanceOn } }

/-! ## Sleep by day, and the slot -/

/-- R206: does a lantern have a dedicated uplink cell kept in day duty? -/
def State.dayPresent (s : State) (c n : Nat) : Bool :=
  (s.mac c).cells.any (fun e => Nat.beq (fld e.2 1 0) 2 && Nat.beq (fld e.2 21 10) n && bit e.2 2)

/-- R206: a day sleeper parked, or one heard meanwhile parked again: DEMOTED in its entry, its card PARKED. -/
def State.park (c : Nat) (s : State) (n : Nat) : State :=
  let s1 := match s.nbFind c n with
    | some i => s.nbDemote c i true
    | none => s
  if Nat.beq (s.card n 3) 5 then s1 else s1.cardMove n 5 false

/-- R206: a PARKED lantern unparked: VALID cleared, DEMOTED cleared, VALID set. -/
def State.unpark (c : Nat) (s : State) (n : Nat) : State :=
  let s1 := match s.nbFind c n with
    | some i => ((s.nbRelease c i).nbDemote c i false).nbSetValid c i
    | none => s
  s1.cardMove n 4 false

/-- R158, R206: DAY_DUTY takes effect at the boundary: sleepers are parked or unparked, and the boundary recorded. While day duty
lasts, a sleeper heard meanwhile is parked again. -/
def State.dutyEffect (s : State) (c : Nat) : State :=
  let want := s.rdB (Reg.MAC_CTRL c) 3
  let have_ := s.rdB (Reg.MAC_STATUS c) 1
  let sleepers := (s.cohortCards c (fun st => Nat.beq st 4 || Nat.beq st 5)).filter (fun n => !s.dayPresent c n)
  if want then
    let s1 := sleepers.foldl (State.park c) (s.wrB (Reg.MAC_STATUS c) 1 true)
    if have_ then s1 else s1.record 0x31 2 c 1 sleepers.length
  else if have_ then
    let l := s.cohortCards c (fun st => Nat.beq st 5)
    (l.foldl (State.unpark c) (s.wrB (Reg.MAC_STATUS c) 1 false)).record 0x31 2 c 0 l.length
  else s

/-- R155: at a slotframe boundary firmware moves a cohort's slot grid back toward whole multiples of 10 ms, by at most 250 µs, the shorter way. -/
def State.gridBack (s : State) (n : Nat) : State :=
  let q := (s.trigger (12 + n)).next
  let r := q % 40000000
  if r = 0 then s
  else if r ≤ 20000000 then s.trigMove (12 + n) (q - min r 1000000)
  else s.trigMove (12 + n) (q + min (40000000 - r) 1000000)

/-- R153 to R158, R176: a slot begins; at slot offset 0 the slotframe's silence is counted, a pending commit applied, the duty
takes effect, and rebalancing goes on. -/
def State.slotBegin (s : State) (n : Nat) : State :=
  let s1 := s.slotStart n
  if s1.asn n % (s.mac n).len = 0 then
    let s2 := (((((((s1.silentAdvance n).ctrlApply n).commitApply n).commitDue n).dutyEffect n).gridBack n).imageStep n).macRunCount n
    let s3 := { s2 with member := { s2.member with enrolling := s2.member.enrolling.map (fun (e : Nat × Nat × Nat) =>
      if s2.card e.1 5 = n then (e.1, e.2.1, e.2.2 + 1) else e) } }
    if s3.member.rebalancing then
      let s4 := State.moveBatch n 32 s3
      ({ s4 with member := { s4.member with rebalancing := s4.rebalanceOn } }).ringsServe n
    else s3.ringsServe n
  else s1.ringsServe n

/-- R471: the offset the drill unit adds to each slot mark, in µs. -/
def State.drillOffset (s : State) (n : Nat) : Int := if s.rdB Reg.DRL_CTRL 0 then sx 16 (s.rdF (Reg.DRL_RADIO n) 15 0) else 0

/-- SLOT_MARK, R154: a mark within ±250 µs of the MAC's expectation starts a slot; another starts none. -/
def execSlotMark (n : Fin 4) (err : Int) (s : State) : Host.Outcome State Fault Refusal :=
  .next (
    let e := err + s.drillOffset n.val
    if s.rdB (Reg.MAC_STATUS n.val) 0 = true ∧ s.clockPresent (.rad n) = true ∧ -250 ≤ e ∧ e ≤ 250 then
      let s1 := (s.setMac n.val { s.mac n.val with flyRun := 0 }).wrF (Reg.MAC_STATUS n.val) 3 2 0
      (s1.radioHold).slotBegin n.val
    else s)

/-- FLYWHEEL_SLOT, R154: with no mark in range the MAC starts the slot by its crystal; after 100 in a row MARKS_LOST is set and
RADIO raised (Table 17.1). -/
def execFlywheelSlot (n : Fin 4) (s : State) : Host.Outcome State Fault Refusal :=
  .next (
    if s.rdB (Reg.MAC_STATUS n.val) 0 && s.clockPresent (.rad n) then
      let k := (s.mac n.val).flyRun + 1
      let s1 := ((((s.setMac n.val { s.mac n.val with flyRun := k }).macCount n.val 15).wrB (Reg.MAC_STATUS n.val) 2 true).macInt n.val 7)
      let s2 := if k = 100 then ((s1.wrB (Reg.MAC_STATUS n.val) 3 true).record (4 + n.val) 3 0 0 0).raiseActive 18 else s1
      s2.slotBegin n.val
    else s)

/-- R179: at the power-fail flush every valid neighbour's counters go to its card, and the broadcast counters to the MRAM. -/
def State.countersSave (s : State) : State :=
  (upFrom 0 4).foldl (fun t n => (t.nbAll n).foldl (fun u i =>
    u.nbSave n i)
    (t.setMac n { t.mac n with bcastSaved := (t.mac n).bcast })) s

end Sys2Proof.Machine
end

