-- ==== Sys2Proof/Machine/Predict.lean ====
section
/-! DEFINITION. The lantern graph and the occupancy predictor (R227 to R232). -/

namespace Sys2Proof.Machine

/-- Table 7.4: TO of an edge word. -/
def edgeTo (w : Nat) : Nat := w % 4096

/-- Table 7.4: KIND of an edge word. -/
def edgeKind (w : Nat) : Nat := w / 4096 % 4

/-- Table 7.4: SPLIT of an edge word. -/
def edgeSplit (w : Nat) : Nat := w / 16384 % 256

/-- Table 7.4: LENGTH of an edge word, in metres. -/
def edgeLength (w : Nat) : Nat := w / 2 ^ 22

/-- R229: the speed of a group in a zone, in 0.01 m/s; zone 0 stands for 0xFF. -/
def Graph.speed (gr : Graph) (g zone : Nat) : Nat :=
  gr.speeds.getD (3 * (if zone ≤ 63 then zone else 0) + g) ((([140, 500, 1389] : List Nat)).getD g 0)

/-- The lantern's entry of the graph. -/
def Graph.node (gr : Graph) (i : Nat) : Option GNode := gr.nodes.find? (fun n => Nat.beq n.lantern i)

/-- R229: a_k of an edge of a lantern, for a group, as a quotient. -/
def Graph.rate (gr : Graph) (g : Nat) (n : GNode) (w : Nat) : Nat × Nat :=
  (edgeSplit w * gr.step * gr.speed g n.zone, 255 * edgeLength w * 100000)

/-- The edges of a lantern that lead somewhere. -/
def GNode.used (n : GNode) : List Nat := n.edges.filter (fun w => !(Nat.beq (edgeKind w) 0))

/-- R229: a lantern's diagonal entry 1 − Σa − e for a group, as a quotient. -/
def Graph.diagonal (gr : Graph) (g : Nat) (n : GNode) : Int × Nat :=
  let used := n.used
  let split := used.foldl (fun a w => a + edgeSplit w) 0
  let e : Int × Nat := (((255 - split) * gr.step : Nat), 255 * gr.dwell)
  used.foldl (fun (a : Int × Nat) w =>
    let (p, q) := gr.rate g n w
    (a.1 * q - p * a.2, a.2 * q)) ((e.2 : Int) - e.1, e.2)

/-- The same for any lantern: one without edges leaves the graph only. -/
def Graph.stay (gr : Graph) (g i : Nat) : Dy :=
  let d := gr.diagonal g ((gr.node i).getD { lantern := i, zone := 0xFF, edges := [] })
  coeff d.1 d.2

/-- R229: the coefficient of an edge. -/
def Graph.move (gr : Graph) (g : Nat) (n : GNode) (w : Nat) : Dy :=
  let r := gr.rate g n w
  coeff r.1 r.2

/-- R229: the flow of a step along every edge of one kind, to a head. -/
def Graph.flow (gr : Graph) (g kind dest : Nat) (x : BVec) : Dy :=
  Dy.sum (gr.nodes.flatMap (fun n => (n.used.filter (fun w => Nat.beq (edgeKind w) kind && Nat.beq (edgeTo w) dest)).map (fun w =>
    (gr.move g n w).mul (x.get n.lantern))))

/-- The heads of every edge of one kind. -/
def Graph.heads (gr : Graph) (kind : Nat) : List Nat :=
  (gr.nodes.flatMap (fun n => (n.used.filter (fun w => Nat.beq (edgeKind w) kind)).map edgeTo)).eraseDups

/-- R229: one step of a group's occupancy; `extra` joins the sum at each lantern. -/
def Graph.next (gr : Graph) (g : Nat) (x : BVec) (extra : Nat → Dy) (at_ : List Nat) : BVec × Bool :=
  BVec.norm ((union (union x.keys (gr.heads 1)) at_).map (fun i =>
    (i, (((gr.stay g i).mul (x.get i)).add (gr.flow g 1 i x)).add (extra i))))

/-- R230: exp(−p / q) for p ≤ q, as a quotient: its power series to the fortieth term, far closer than a coefficient's 24 bits. -/
def expNeg (p q : Nat) : Int × Nat := (upFrom 1 40).foldr (fun n (a : Int × Nat) => ((n * q * a.2 : Nat) - p * a.1, n * q * a.2)) (1, 1)

/-- R230: what a credit is multiplied by at each step. -/
def Graph.decay (gr : Graph) (tau : Nat) : Dy :=
  let d := expNeg gr.step tau
  coeff d.1 d.2

/-- R230: one step of a group's credits. -/
def Graph.creditNext (gr : Graph) (g tau : Nat) (c x : BVec) : BVec × Bool :=
  let d := gr.decay tau
  BVec.norm ((union c.keys (gr.heads 1)).map (fun i => (i, ((c.get i).mul d).add (gr.flow g 1 i x))))

/-- R229: what a step adds to the ports' outflow. -/
def Graph.portNext (gr : Graph) (g : Nat) (out x : BVec) : BVec × Bool :=
  BVec.norm ((union out.keys (gr.heads 2)).map (fun p => (p, (out.get p).add (gr.flow g 2 p x))))

/-- What the predictor moves: occupancy, credits and outflow by group, and the stages that saturated. -/
structure Pred where
  x : List BVec
  credit : List BVec
  out : List BVec
  sat : Bool := false
  deriving DecidableEq, Repr

/-- R229, R230: one step of every group. -/
def Graph.advance (gr : Graph) (tau : Nat) (p : Pred) : Pred :=
  let at_ (l : List BVec) (g : Nat) : BVec := l.getD g {}
  let x := (upFrom 0 3).map (fun g => gr.next g (at_ p.x g) (fun _ => {}) [])
  let c := (upFrom 0 3).map (fun g => gr.creditNext g tau (at_ p.credit g) (at_ p.x g))
  let o := (upFrom 0 3).map (fun g => gr.portNext g (at_ p.out g) (at_ p.x g))
  { x := x.map (fun v => v.1), credit := c.map (fun v => v.1), out := o.map (fun v => v.1),
    sat := p.sat || (x ++ c ++ o).any (fun v => v.2) }

/-- n steps. -/
def Graph.advanceN (gr : Graph) (tau : Nat) : Nat → Pred → Pred
  | 0, p => p
  | n + 1, p => Graph.advanceN gr tau n (gr.advance tau p)

/-- R230: occupancy placed at a lantern and advanced j steps, with the outflow of those steps. -/
def Graph.carry (gr : Graph) (g : Nat) : Nat → BVec × BVec → BVec × BVec
  | 0, v => v
  | n + 1, v => Graph.carry gr g n ((gr.next g v.1 (fun _ => {}) []).1, (gr.portNext g v.2 v.1).1)

/-- R230: an event applied, j steps before the current step. -/
def Graph.apply (gr : Graph) (p : Pred) (ev : PredEvent) (j : Nat) : Pred :=
  let g := ev.group
  let w := coeff ev.num ev.den
  let c := p.credit.getD g {}
  let ci := c.get ev.lantern
  let u := Dy.max {} (w.sub ci)
  let c1 := BVec.norm ((union c.keys [ev.lantern]).map (fun i => (i, if i = ev.lantern then Dy.max {} (ci.sub w) else c.get i)))
  let v := gr.carry g j ((BVec.norm [(ev.lantern, u)]).1, {})
  let x1 := (p.x.getD g {}).add v.1
  let o1 := (p.out.getD g {}).add v.2
  { p with x := setAt p.x g x1.1, credit := setAt p.credit g c1.1, out := setAt p.out g o1.1, sat := p.sat || c1.2 || x1.2 || o1.2 }

/-- R231, R234: the predicted inflow at a lantern in look-ahead step h, whose time is `t`. -/
def State.inflowAt (s : State) (gr : Graph) (g i : Nat) (t : Ns) : Dy :=
  Dy.sum (s.traffic.inflow.filterMap (fun e =>
    let q := e.2
    if s.objN (0x2450 + e.1) 3 = i ∧ s.objN (0x2450 + e.1) 4 = 1 ∧ q.stop ≤ t ∧ 0 < q.horizon ∧ t < q.stop + q.horizon then
      some (coeff (q.bins.getD (8 * g + (t - q.stop) * 8 / q.horizon) 0 * gr.step * 1000000 * 8) (256 * q.horizon))
    else none))

/-- R231: the look-ahead of a group from occupancy x at a step boundary: PEAK, and the occupancy at every step. -/
def State.lookAhead (s : State) (gr : Graph) (g : Nat) (t : Ns) : Nat → BVec → BVec → Bool → List BVec → BVec × Bool × List BVec
  | 0, _, peak, sat, xs => (peak, sat, xs.reverse)
  | n + 1, x, peak, sat, xs =>
    let entries := (s.traffic.inflow.map (fun e => s.objN (0x2450 + e.1) 3)).filter (fun i => Nat.blt i 4096)
    let y := gr.next g x (fun i => s.inflowAt gr g i t) entries
    let k := peak.peak y.1
    State.lookAhead s gr g (t + gr.step * 1000000) n y.1 k.1 (sat || y.2 || k.2) (y.1 :: xs)

/-- R231: H. -/
def Graph.steps (gr : Graph) : Nat := gr.horizon / gr.step

/-! ## The graph commit -/

/-- R228, Table 7.7: why a lantern's edges refuse the commit, 0 for no reason: the reasons in the order of R228. -/
def State.graphReason (s : State) (gr : Graph) (n : GNode) : Nat :=
  let used := n.used
  if used.any (fun w => Nat.beq (edgeKind w) 3) then 1
  else if used.any (fun w => Nat.beq (edgeLength w) 0) then 2
  else if used.any (fun w => Nat.beq (edgeKind w) 1 && Nat.beq (edgeTo w) n.lantern) then 3
  else if used.any (fun w => Nat.beq (edgeKind w) 2 && (Nat.ble 64 (edgeTo w) || Nat.beq (s.objN (0x2450 + edgeTo w) 1) 0)) then 4
  else if 255 < used.foldl (fun a w => a + edgeSplit w) 0 then 5
  else if (upFrom 0 3).any (fun g => decide ((gr.diagonal g n).1 < 0)) then 6
  else 0

/-- R228, R236: the model every report card now gives. -/
def State.graphBuild (s : State) : Graph :=
  let cards := (s.objs.filter (fun e => Nat.ble 0x600000 e.1 && Nat.blt e.1 0x700000 && Nat.ble 0x23 (e.1 % 256) && Nat.ble (e.1 % 256) 0x26)).map
    (fun e => e.1 / 256 - 0x6000)
  { step := s.objN 0x2400 5, horizon := s.objN 0x2400 6, dwell := s.objN 0x2400 0x0B,
    speeds := (upFrom 0 64).flatMap (fun z => [s.objN (0x2410 + z) 2, s.objN (0x2410 + z) 3, s.objN (0x2410 + z) 4]),
    nodes := cards.eraseDups.map (fun n => { lantern := n, zone := s.card n 0x20, edges := (upFrom 0x23 4).map (fun k => s.card n k) }) }

/-- GRAPH_COMMIT, R228: the model applies at the next predictor step, or GRAPH_STATUS reads why not. -/
def State.graphCommit (s : State) : State :=
  let gr := s.graphBuild
  match gr.nodes.find? (fun n => !(Nat.beq (s.graphReason gr n) 0)) with
  | some n => s.setObjN 0x2400 0x0D 4 (n.lantern + s.graphReason gr n * 2 ^ 16)
  | none => ({ s with traffic := { s.traffic with newGraph := some gr } }).setObjN 0x2400 0x0D 4 0

end Sys2Proof.Machine
end

