-- ==== Sys2Proof/Machine/Traffic.lean ====
section
/-! DEFINITION. Count reports, count windows and edge messages (R216 to R226, R233 to R236). -/

namespace Sys2Proof.Machine

/-- Object 0x2400:0E: a traffic counter advances by n. Counters: 0 EVENTS_ACCEPTED, 1 EVENTS_LATE, 2 EVENTS_TOO_OLD,
3 EVENTS_FUTURE, 4 EVENTS_UNTRUSTED, 5 EVENTS_REJECTED, 6 REPORTS_DUP, 7 REPORTS_MISSING, 8 REPORTS_MALFORMED,
9 CATCHUP_DROPPED, 10 EDGE_REJECTS, 11 EDGE_UNLOCKED. -/
def State.trafficCount (s : State) (k n : Nat) : State := if n = 0 then s else s.bumpU32 0x2400 0x0E k n

/-! ## Count windows -/

/-- R232, Table 2.1: does a transceiver receive in a mode? -/
def receives (m : Mode) : Bool :=
  match m with
  | .provision | .batteryWatch | .deepSleep | .starting => false
  | _ => true

/-- R223: COUNT_WINDOW in ns. -/
def State.winLen (s : State) : Nat := s.objN 0x2400 1 * 1000000000

/-- R223, R226: the next boundary of the window grid after an instant. -/
def State.winAfter (s : State) (t : Ns) : Ns := (t / s.winLen + 1) * s.winLen

/-- R223: windows opened, k at most, until one holds an instant. -/
def State.winExtend (s : State) (flags : Nat) (t : Ns) : Nat → List CountWin → List CountWin
  | 0, l => l
  | k + 1, l =>
    match l.getLast? with
    | none => l
    | some w =>
      if w.stop ≤ t then
        s.winExtend flags t k (l ++ [{ start := w.stop, stop := s.winAfter w.stop, length := s.objN 0x2400 1, flags := flags }])
      else l

/-- R223: the windows after the listed ones, up to the one that holds an instant. -/
def State.winUpTo (s : State) (flags : Nat) (t : Ns) (l : List CountWin) : List CountWin :=
  match l.getLast? with
  | some w => s.winExtend flags t ((t - w.stop) / s.winLen + 1) l
  | none => l

/-- Does a window hold an instant? -/
def CountWin.holds (w : CountWin) (t : Ns) : Bool := Nat.ble w.start t && Nat.blt t w.stop

/-- R223, R232: the windows open by now, in a mode in which a transceiver receives. -/
def State.winOpen (s : State) : State :=
  if receives s.mode.mode then { s with traffic := { s.traffic with wins := s.winUpTo 0 s.time.now s.traffic.wins } } else s

/-- R225, R232: counting begins: the window that holds the instant is PARTIAL. -/
def State.winBegin (s : State) : State :=
  let t := s.time.now
  if s.traffic.wins.any (fun w => w.holds t) then
    { s with traffic := { s.traffic with wins := s.traffic.wins.map (fun w => if w.holds t then { w with flags := w.flags ||| 2 } else w) } }
  else
    let w : CountWin := { start := t / s.winLen * s.winLen, stop := s.winAfter t, length := s.objN 0x2400 1, flags := 2 }
    { s with traffic := { s.traffic with wins := s.traffic.wins ++ [w] } }

/-- R232: count windows at a change of mode: those up to now are opened as counting ends, and counting begins where a transceiver again
receives. -/
def State.winMode (s : State) (old m : Mode) : State :=
  if receives old then
    if receives m then s else { s with traffic := { s.traffic with wins := s.winUpTo 0 s.time.now s.traffic.wins } }
  else if receives m then s.winBegin else s

/-- R226: a change of COUNT_WINDOW: the window current at the change ends at the next boundary of the new grid, PARTIAL; a window listed
beyond it, which a backward step has left open, ends it sooner. -/
def State.winChange (s : State) (seconds : Nat) : State :=
  let s2 := s.winOpen.setObjN 0x2400 1 2 seconds
  let t := s2.time.now
  let stop := match s2.traffic.wins.find? (fun w => Nat.blt t w.start) with
    | some w => min w.start (s2.winAfter t)
    | none => s2.winAfter t
  let l := s2.traffic.wins.map (fun w => if w.holds t then { w with stop := stop, flags := w.flags ||| 2 } else w)
  { s2 with traffic := { s2.traffic with wins := l } }

/-- A window's count of a zone's RAW index at every efficiency. -/
def CountWin.cells (w : CountWin) (z k : Nat) : List (Nat × Nat) :=
  (w.counts.filter (fun e => Nat.beq (e.1 / 65537) (12 * z + k))).map (fun e => (e.1 % 65537, e.2))

/-- R225: the CORRECTED sum in units of 1/8, as a quotient. -/
def CountWin.corrected (w : CountWin) (z k : Nat) : Nat × Nat :=
  (w.cells z k).foldl (fun (a : Nat × Nat) e => (a.1 * e.1 + e.2 * 8 * 65536 * a.2, a.2 * e.1)) (0, 1)

/-- The value of a quotient, rounded as the spec leaves open. -/
def openRound (num : Int) (den : Nat) : Int := num / (den : Int) + (if num % (den : Int) = 0 then 0 else (b2n (Config.roundUp num den) : Int))

/-- R225: is a counting lantern of the zone DEMOTED, PARKED or LOST? -/
def State.zoneSilent (s : State) (z : Nat) : Bool :=
  s.listedCards.any (fun n => Nat.beq (s.card n 0x20) z && Nat.testBit (s.card n 0x22) 0 && Nat.ble 5 (s.card n 3) && Nat.ble (s.card n 3) 7)

/-- Table 7.3: a zone's window record. -/
def State.winRecord (s : State) (w : CountWin) (z : Nat) : List Byte :=
  time80 w.start ++ toLE 2 w.length ++ toLE 1 (w.flags + 4 * b2n (s.zoneSilent z)) ++ [0] ++
    (upFrom 0 12).flatMap (fun k => toLE 2 (min 0xFFFF ((w.cells z k).foldl (fun a e => a + e.2) 0))) ++
    (upFrom 0 12).flatMap (fun k => let c := w.corrected z k; toLE 2 (min 0xFFFF (openRound c.1 c.2).toNat))

/-- R224: a window finalised: every zone's record goes to its LAST_WINDOW and to the bulk log. -/
def State.winFinish (s : State) (w : CountWin) : State :=
  (upFrom 0 64).foldl (fun t z =>
    let r := s.winRecord w z
    ({ t with traffic := { t.traffic with bulk := t.traffic.bulk ++ [r] } }).setObj (0x2410 + z) 5 r) s

/-- WINDOW_FINALISE, R224: the oldest open window, at its end + LATE_ALLOWANCE, in every zone. -/
def execWindowFinalise (s : State) : Host.Outcome State Fault Refusal :=
  .next (
    let s1 := s.winOpen
    match s1.traffic.wins with
    | [] => s1
    | w :: t =>
      if w.stop + s1.objN 0x2400 2 * 1000000000 ≤ s1.time.now then ({ s1 with traffic := { s1.traffic with wins := t } }).winFinish w else s1)

/-- R226: the windows after a step of the local clock: the windows up to the old time are opened first; the window left and the window
reached are STEPPED; windows stepped over are finalised at once. -/
def State.winStepped (s : State) (old : Ns) : State :=
  if !receives s.mode.mode then s
  else
    let mark (t : Ns) (w : CountWin) : CountWin := if w.holds t then { w with flags := w.flags ||| 1 } else w
    let l := (s.winUpTo 0 old s.traffic.wins).map (mark old)
    let t := s.time.now
    let more := (s.winUpTo 1 t l).drop l.length
    let done := more.filter (fun w => Nat.ble w.stop t)
    let open_ := (l ++ more.filter (fun w => !Nat.ble w.stop t)).map (mark t)
    done.foldl (fun u w => u.winFinish w) { s with traffic := { s.traffic with wins := open_ } }

/-! ## Count reports -/

/-- R219: T_mark of a slot of a transceiver. -/
def State.tMark (s : State) (n asn : Nat) : Option Ns := ((s.mac n).marks.find? (fun e => Nat.beq e.1 asn)).map (fun e => e.2)

/-- R219: are the stored marks corrected for a step of the local clock? -/
def State.marksStepped (s : State) (change : Int) : State :=
  { s with macs := s.macs.map (fun m => { m with marks := m.marks.map (fun e => (e.1, ((e.2 : Int) + change).toNat)) }) }

/-- R120: a stamp extended against the local clock. -/
def State.extend (s : State) (stamp : Nat) : Ns := ((s.time.now : Int) + sx 32 (stamp + 2 ^ 32 - s.stamp)).toNat

/-- R120: a stamp taken in an EPOCH, corrected by the changes of the local clock since. -/
def State.stampCorrected (s : State) (stamp epoch : Nat) : Nat :=
  let n := (s.time.epoch + 16 - epoch % 16) % 16
  enc 32 ((stamp : Int) + (s.time.changes.take n).foldl (fun (a : Int) (d : Int) => a + d) 0)

/-- R229: the predictor group of a class. -/
def classGroup (c : Nat) : Nat := if c = 0 then 0 else if c = 1 then 1 else 2

/-- R223, R224: an accepted event joins its window, or is late. -/
def State.winCount (s : State) (l dir cls : Nat) (t : Ns) : State :=
  if Nat.testBit (s.card l 0x22) 0 && Nat.ble (s.card l 0x20) 63 then
    if s.traffic.wins.any (fun w => w.holds t) then
      let k := (12 * s.card l 0x20 + 6 * dir + cls) * 65537 + s.efficiency l
      { s with traffic := { s.traffic with wins := s.traffic.wins.map (fun w =>
        if w.holds t then
          { w with counts := Sparse.set (fun _ => 0) w.counts k (Sparse.get (fun _ => 0) w.counts k + 1) }
        else w) } }
    else s.trafficCount 1 1
  else s

/-- R221, R222, R230: one event of a report: rejected and counted, or accepted, counted in its window and passed on to the
predictor. -/
def State.countEvent (l : Nat) (trusted : Bool) (p base lag : Int) (s : State) (e : List Byte) : State :=
  let t := base + leAt e 0 3 * 1000 + lag
  let b := leAt e 3 1
  let cls := b / 2 % 8
  if 6 ≤ cls then s.trafficCount 5 1
  else if p < t then s.trafficCount 3 1
  else if t + s.objN 0x2400 3 * 1000000000 < s.time.now then s.trafficCount 2 1
  else if !trusted then s.trafficCount 4 1
  else
    let s1 := (s.trafficCount 0 1).setCard l 0x29 4 (s.card l 0x29 + 1)
    let s3 := s1.winCount l (b % 2) cls t.toNat
    let s4 := s3.calEvent l (classGroup cls) (b % 2) t.toNat
    { s4 with traffic := { s4.traffic with events := s4.traffic.events ++
      [{ group := classGroup cls, lantern := l, num := 65536, den := s3.efficiency l, time := t.toNat }] } }

/-- R216: is a report's body well formed: its length, N_EVENTS and the order of its events? -/
def reportFormed (body : List Byte) : Bool :=
  let n := leAt body 1 1
  Nat.ble 1 n && Nat.ble n 32 && Nat.beq body.length (10 + 4 * n) &&
    (upFrom 0 (n - 1)).all (fun k => Nat.ble (leAt body (10 + 4 * k) 3) (leAt body (14 + 4 * k) 3))

/-- COUNT_REPORT, R216 to R222: `stamp` is the preamble-start stamp of the frame that carried it, with its EPOCH, `asn` the slot in which it came
from the first hop. -/
def execCountReport (l : Fin 4096) (body : List Byte) (stamp epoch asn : Nat) (s : State) : Host.Outcome State Fault Refusal :=
  .next (
    let n := l.val
    let s0 := s.winOpen
    let s1 := { s0 with traffic := { s0.traffic with lastReport := s0.time.now } }
    if !reportFormed body then s1.trafficCount 8 1
    else
      let d := (leAt body 0 1 + 256 - s1.card n 0x28) % 256
      if d = 0 ∨ 128 < d then s1.trafficCount 6 1
      else
        let s2 := (s1.trafficCount 7 (d - 1)).setCard n 0x28 1 (leAt body 0 1)
        let c := s2.card n 5
        let p : Int := s2.extend (s2.stampCorrected stamp epoch)
        match s2.tMark c (leAt body 2 5), s2.tMark c asn with
        | some base, some r =>
          let lag := p - r - s2.rdF (Reg.MAC_TIMING c) 11 0 * 1000
          let trusted := !Nat.testBit (leAt body 7 1) 1 && !Nat.testBit (leAt body 7 1) 2 && !Nat.testBit (s2.card n 0x22) 1
          (upFrom 0 (leAt body 1 1)).foldl (fun t k => State.countEvent n trusted p base lag t (slice body (10 + 4 * k) 4)) s2
        | _, _ => s2.trafficCount 2 (leAt body 1 1))

/-! ## Edge messages -/

/-- The ports that lead to a peer. -/
def State.peerPorts (s : State) (eui : Nat) : List Nat :=
  (upFrom 0 64).filter (fun p => Nat.beq (s.objN (0x2450 + p) 1) eui && !(Nat.beq (s.objN (0x2450 + p) 4) 0))

/-- R233: the peers named by a port that is LIVE or STALE. -/
def State.peers (s : State) : List Nat :=
  (((upFrom 0 64).filter (fun p => !(Nat.beq (s.objN (0x2450 + p) 4) 0))).map (fun p => s.objN (0x2450 + p) 1)).eraseDups

/-- An exact number in units of 1/256, rounded as the spec leaves open, saturating at U16. -/
def q256 (d : Dy) : Nat :=
  min 0xFFFF (if 0 ≤ d.e then (d.m * (2 ^ d.e.toNat : Nat) * 256).toNat else (openRound (d.m * 256) (2 ^ (-d.e).toNat)).toNat)

/-- R231, R233: the outflow each step of the look-ahead expects at a port, with the time of its boundary. -/
def State.portAhead (s : State) (g p : Nat) : List (Ns × Dy) :=
  let gr := s.ctl.core.graph
  let x := s.ctl.core.x.getD g {}
  let t := s.ctl.core.predAt
  let (_, _, xs) := s.lookAhead gr g t gr.steps x x false [x]
  mapFrom (fun k v => (t + k * gr.step * 1000000, gr.flow g 2 p v)) 0 (xs.take gr.steps)

/-- Table 7.5: the entry of a port; HORIZON as the running graph has it (R236). -/
def State.edgeEntry (s : State) (stop : Ns) (p : Nat) : List Byte :=
  let h := s.ctl.core.graph.horizon * 1000000
  toLE 1 (s.objN (0x2450 + p) 2) ++ [0] ++
    (upFrom 0 3).flatMap (fun g => toLE 2 (q256 ((s.traffic.outflow.getD g {}).get p))) ++
    (upFrom 0 3).flatMap (fun g =>
      let ahead := s.portAhead g p
      (upFrom 0 8).flatMap (fun b => toLE 2 (q256 (Dy.sum ((ahead.filter (fun e =>
        Nat.ble (8 * stop + b * h) (8 * e.1) && Nat.blt (8 * e.1) (8 * stop + (b + 1) * h))).map (fun e => e.2))))))

/-- R233: a list cut into pieces of 16. -/
def cut16 : Nat → List Nat → List (List Nat)
  | 0, _ => []
  | n + 1, l => if l.isEmpty then [] else l.take 16 :: cut16 n (l.drop 16)

/-- R233: one message to a peer for the interval that ended last, and its ports' accumulators reset. Its TID is its SEQ. -/
def State.edgeSend (eui : Nat) (s : State) (ports : List Nat) : State :=
  let per := s.objN 0x2400 9
  let stop := s.time.now / (per * 1000000) * (per * 1000000)
  let seq := ((assoc? eui s.traffic.seqOut).getD 0 + 1) % 2 ^ 16
  let v := s.eui ++ toLE 2 seq ++ toLE 1 ports.length ++ toLE 1 (s.time.servoState % 4) ++ time80 (stop - per * 1000000) ++ toLE 2 per ++
    ports.flatMap (fun p => s.edgeEntry stop p)
  { s with traffic := { s.traffic with
      sent := s.traffic.sent ++ [(toLE 8 eui, writeRequest seq 0x2490 1 v)],
      seqOut := s.traffic.seqOut.filter (fun (e : Nat × Nat) => !(Nat.beq e.1 eui)) ++ [(eui, seq)],
      outflow := s.traffic.outflow.map (fun b => (BVec.norm ((b.keys.filter (fun i => !ports.contains i)).map (fun i => (i, b.get i)))).1) } }

/-- R233: the messages to a peer: one for each 16 of its ports. -/
def State.edgePeer (s : State) (eui : Nat) : State := (cut16 4 (s.peerPorts eui)).foldl (State.edgeSend eui) s

/-- EDGE_MESSAGE_SEND, R233: one message to each peer at the end of an interval, in neither ISLANDED nor STANDBY; `links` holds the ring
sessions the module has with its peers: the peer, the session's level and its B. -/
def execEdgeMessageSend (links : List (Nat × Nat × Nat)) (s : State) : Host.Outcome State Fault Refusal :=
  .next (if s.mode.mode = .islanded ∨ s.mode.mode = .standby then s
    else
      let reached (eui : Nat) : Bool := links.any (fun (e : Nat × Nat × Nat) => Nat.beq e.1 eui && Nat.ble 2 e.2.1 && Nat.ble 1024 e.2.2)
      (s.peers.filter reached).foldl State.edgePeer { s with traffic := { s.traffic with sent := [] } })

/-- The port of this module that an entry of a message names. -/
def edgePort (v : List Byte) (m : Nat) : Nat := leAt v (24 + 56 * m) 1

/-- R234: an entry applied: its flow as events at ENTRY_LANTERN, its predicted inflow in place of the last. -/
def State.edgeEntryIn (v : List Byte) (s : State) (m : Nat) : State :=
  let p := edgePort v m
  let entry := s.objN (0x2450 + p) 3
  let start := ofTime80 (slice v 12 10)
  let per := leAt v 22 2
  let evs := (upFrom 0 3).filterMap (fun g =>
    let f := leAt v (26 + 56 * m + 2 * g) 2
    if f = 0 ∨ 4096 ≤ entry then none
    else some { group := g, lantern := entry, num := f, den := 256, time := start + per * 500000 })
  let q : PortIn := { stop := start + per * 1000000, horizon := s.ctl.core.graph.horizon * 1000000,
                      bins := (upFrom 0 24).map (fun k => leAt v (32 + 56 * m + 2 * k) 2) }
  ({ s with traffic := { s.traffic with
      events := s.traffic.events ++ evs,
      inflow := s.traffic.inflow.filter (fun (e : Nat × PortIn) => !(Nat.beq e.1 p)) ++ [(p, q)],
      heard := s.traffic.heard.filter (fun (e : Nat × Ns) => !(Nat.beq e.1 p)) ++ [(p, s.time.now)] } }.setObjN (0x2450 + p) 4 1 1).setObjN
    (0x2450 + p) 5 2 (leAt v 8 2)

/-- R234: is a message of the right form, from the peer of every port it names, and ahead of its last SEQ? -/
def State.edgeOk (s : State) (v : List Byte) : Bool :=
  let n := leAt v 10 1
  let eui := leAt v 0 8
  let d := (leAt v 8 2 + 2 ^ 16 - (assoc? eui s.traffic.seqIn).getD 0) % 2 ^ 16
  !(Nat.beq eui 0) && (upFrom 0 n).all (fun m => Nat.blt (edgePort v m) 64 && Nat.beq (s.objN (0x2450 + edgePort v m) 1) eui) &&
    Nat.ble 1 d && Nat.ble d 32768

/-- EDGE_IN, R234: a message accepted and applied. -/
def State.edgeIn (s : State) (v : List Byte) : State :=
  let eui := leAt v 0 8
  let s1 := (upFrom 0 (leAt v 10 1)).foldl (State.edgeEntryIn v) s
  let s2 := { s1 with traffic := { s1.traffic with seqIn := s1.traffic.seqIn.filter (fun (e : Nat × Nat) => !(Nat.beq e.1 eui)) ++ [(eui, leAt v 8 2)] } }
  if leAt v 11 1 % 4 = 2 ∧ s.time.servoState = 2 then s2 else s2.trafficCount 11 1

/-- R235: a port becomes STALE: its predicted inflow is set to zero, and the change recorded. -/
def State.portStale (s : State) (p : Nat) : State :=
  ({ s with traffic := { s.traffic with inflow := s.traffic.inflow.filter (fun (e : Nat × PortIn) => !(Nat.beq e.1 p)) } }.setObjN
    (0x2450 + p) 4 1 2).record 0x32 1 p 0 0

/-- PORT_STALE, R235: no message for EDGE_STALE × EDGE_PERIOD. -/
def execPortStale (p : Fin 64) (s : State) : Host.Outcome State Fault Refusal :=
  .next (
    let since := (assoc? p.val s.traffic.heard).getD 0
    if s.objN (0x2450 + p.val) 4 = 1 ∧ since + s.objN 0x2400 0x0A * s.objN 0x2400 9 * 1000000 ≤ s.time.now then s.portStale p.val else s)

/-- R235: entering ISLANDED makes every LIVE port STALE at once. -/
def State.portsIslanded (s : State) : State :=
  (upFrom 0 64).foldl (fun t p => if t.objN (0x2450 + p) 4 = 1 then t.portStale p else t) s

/-- R235, R236: PORT_STATE by PEER_EUI64: unused without one, else LIVE, its time without a message counted from now. -/
def State.portApply (s : State) (p : Nat) : State :=
  let used := !(Nat.beq (s.objN (0x2450 + p) 1) 0)
  let heard := s.traffic.heard.filter (fun (e : Nat × Ns) => !(Nat.beq e.1 p))
  let s1 := { s with traffic := { s.traffic with
    inflow := s.traffic.inflow.filter (fun (e : Nat × PortIn) => !(Nat.beq e.1 p)), heard := if used then heard ++ [(p, s.time.now)] else heard } }
  s1.setObjN (0x2450 + p) 4 1 (b2n used)

end Sys2Proof.Machine
end

