-- ==== Sys2Proof/Machine/Ctl.lean ====
section
/-! DEFINITION. The lighting control engine: targets, the two laws, hand-over, the sample and its publication, following error and
the light map (R237 to R268). -/

namespace Sys2Proof.Machine

/-! ## Coefficient sets -/

/-- R253: the memory address of the set of class k in a bank. -/
def State.setAddr (s : State) (bank k : Nat) : Nat :=
  (s.rd Reg.CTL_BANK_BASE_LO).toNat + s.rdF Reg.CTL_BANK_BASE_HI 7 0 * 2 ^ 32 + 0x1000 * bank + 0x100 * k

/-- Table 8.6: word j of a set. -/
def setWord (b : List Byte) (j : Nat) : Dy := ofBf24 (slice b (4 * j) 4)

/-- R254: is a set valid? -/
def setValid (b : List Byte) : Bool :=
  b.any (fun x => decide (x ≠ 0)) && !(setWord b 38).lt {} && (setWord b 38).lt (setWord b 39) && !(Dy.nat 1).lt (setWord b 39) &&
    (setWord b 40).lt (setWord b 41)

/-- R254: the set of a class in a bank, as its object holds it. -/
def State.setObject (s : State) (bank k : Nat) : List Byte := s.obj (0x2530 + k) (1 + bank)

/-- R254: the classes on state feedback that lack a valid set in a bank. -/
def State.setLacks (s : State) (bank : Nat) : Bool :=
  (upFrom 0 16).any (fun k => s.rdB Reg.CTL_LAW k && !setValid (s.setObject bank k))

/-- The active bank. -/
def State.activeBank (s : State) : Nat := b2n (s.rdB Reg.CTL_STATUS 2)

/-- R255: a swap is pending. -/
def State.swapPending (s : State) : Bool := s.rdB Reg.CTL_STATUS 3

/-- R254, R255, Table 8.13: CTL_CTRL.SWAP written with 1: the swap becomes pending, or is refused where a selected class lacks a
valid set in the inactive bank. -/
def State.swapRequest (s : State) : State :=
  if s.swapPending then s
  else if s.setLacks (1 - s.activeBank) then (s.wrB Reg.CTL_CTRL 2 false).wrB Reg.CTL_INT_STAT 10 true
  else (s.wrB Reg.CTL_CTRL 2 true).wrB Reg.CTL_STATUS 3 true

/-- The dot product of four words of a set with four elements. -/
def dot4 (b : List Byte) (j : Nat) (x : List Dy) : Dy := Dy.sum (mapFrom (fun k v => (setWord b (j + k)).mul v) 0 x)

/-! ## Targets -/

/-- R244: is the lantern one that CTL controls? -/
def State.ctlLantern (s : State) (n : Nat) : Bool := holdsEntry (s.card n 3)

/-- R244: a lantern's target in levels. -/
def State.target (s : State) (peak : List BVec) (source n : Nat) : Nat :=
  let k := 0x2510 + s.card n 0x30
  let b := s.baseline (s.card n 0x31)
  let mx := s.objN k 1
  let p (g : Nat) : Dy := (Dy.nat (s.objN k (6 + g))).mul ((peak.getD g {}).get n)
  if source = 0 then 0
  else if source = 1 then min mx b
  else (clampI 0 mx ((Dy.sum [Dy.nat b, p 0, p 1, p 2]).level 1)).toNat

/-! ## The sample -/

/-- A lantern as a sample takes it: its number, class, target, the law it uses, its state after the last completed sample, whether a
hand-over starts (R257), whether its output takes its target at once (R245), its last output, its energy report's power. -/
structure LampIn where
  n : Nat
  k : Nat
  t : Nat
  sf : Bool
  prev : LawState
  starts : Bool
  fresh : Bool
  last : Dy
  power : Option Nat
  deriving DecidableEq, Repr

/-- What a sample makes of a lantern: its law state and its output, and whether it was clamped (R255). -/
structure LampOut where
  n : Nat
  st : LawState
  o : Dy
  clamped : Bool
  deriving DecidableEq, Repr

/-- The element of a lantern in whichever class vector holds it. -/
def classGet (l : List (Nat × BVec)) (sel : Nat → Bool) (n : Nat) : Dy :=
  match l.find? (fun e => sel e.1 && decide (e.2.mant n ≠ 0)) with
  | some e => e.2.get n
  | none => {}

/-- R253: a lantern's state estimate. -/
def CtlCore.estimate (c : CtlCore) (n : Nat) : List Dy := (upFrom 0 4).map (fun j => classGet c.xh (fun k => Nat.beq (k % 4) j) n)

/-- R253: a lantern's integrator. -/
def CtlCore.integ (c : CtlCore) (n : Nat) : Dy := classGet c.z (fun _ => true) n

/-- R237: a whole level as a fraction. -/
def levelDy (l : Nat) : Dy := coeff l 1023

/-- R237: the LEVEL of a fraction. -/
def levelOf (v : Dy) : Nat := (clampI 0 1023 (v.level 1023)).toNat

/-- R255: z re-solved for an output, and whether it was clamped. -/
def resolve (b : List Byte) (u r : Dy) (x : List Dy) : Dy × Bool :=
  let z := (u.sub ((setWord b 36).mul r)).add (dot4 b 32 x)
  let zc := Dy.clamp (setWord b 40) (setWord b 41) z
  (zc, !z.eq zc)

/-- R255, R257: the output a re-solve starts from, clamped to the set's limits. -/
def clampOut (b : List Byte) (u : Dy) : Dy := Dy.clamp (setWord b 38) (setWord b 39) u

/-- R255, R257: is z re-solved for the lantern in this sample? -/
def LampIn.resolves (l : LampIn) (swap : Bool) : Bool := l.sf && (l.fresh || l.starts || (swap && !l.prev.handover))

/-- R253: v of a lantern. -/
def lawV (b : List Byte) (r z : Dy) (x : List Dy) : Dy := (((setWord b 36).mul r).sub (dot4 b 32 x)).add z

/-- R252: the hysteretic law. -/
def State.hysteretic (s : State) (k t y : Nat) : Nat :=
  let c := 0x2510 + k
  if t = 0 ∨ t = s.objN c 1 then t
  else if y + s.objN c 2 < t ∨ t + s.objN c 3 < y then t
  else y

/-- R257: o moved toward N by at most a limit. -/
def slew (o n lim : Dy) : Dy := if (n.sub o).lt lim.neg then o.sub lim else if lim.lt (n.sub o) then o.add lim else n

/-- R257: does the hand-over end: is LEVEL(N) within the band of LEVEL(o)? -/
def State.bandMet (s : State) (l : LampIn) (n o : Nat) : Bool :=
  let c := 0x2510 + l.k
  if l.sf then Nat.ble (n - o) (s.rdF Reg.CTL_HO_BAND 9 0) && Nat.ble (o - n) (s.rdF Reg.CTL_HO_BAND 9 0)
  else if o ≤ n then Nat.ble (n - o) (s.objN c 2) else Nat.ble (o - n) (s.objN c 3)

/-- R257: does a hand-over run for the lantern in this sample? Not where its target is 0 or the source OFF (R258). -/
def LampIn.slews (l : LampIn) (source : Nat) : Bool := (l.prev.handover || l.starts) && !l.fresh && !(Nat.beq l.t 0) && !(Nat.beq source 0)

/-- Stages 3 to 6 for one lantern, with v and the re-solved output: the law state and the output (R252 to R257). -/
def State.lampRun (s : State) (source : Nat) (lim : Dy) (b : List Byte) (l : LampIn) (v ustar : Dy) (solved zclamped moved : Bool) : LampOut :=
  let p := l.prev
  let inside := (setWord b 38).lt v && v.lt (setWord b 39)
  let outside := v.lt (setWord b 38) || (setWord b 39).lt v
  let sat := l.sf && (if outside then true else if inside then false else p.sat)
  let u := if solved && !zclamped then ustar else clampOut b v
  let clamped := solved && !l.fresh && (zclamped || moved)
  let done (lv y : Nat) (o : Dy) (ho : Bool) : LampOut :=
    let rose := if lv = p.level then p.rose else Nat.blt p.level lv
    { n := l.n, o := o, clamped := clamped,
      st := { y := y, level := lv, rose := rose, sat := sat, handover := ho, swapClamped := clamped || (p.swapClamped && Nat.beq lv p.level),
              sf := l.sf, ramp := if ho then 1 else if rose then s.objN (0x2510 + l.k) 4 else s.objN (0x2510 + l.k) 5 } }
  if source = 0 then done 0 0 {} false
  else if l.fresh then done l.t l.t (levelDy l.t) false
  else if l.slews source then
    let target := if l.sf then u else levelDy l.t
    let o := slew l.last target lim
    done (levelOf o) (levelOf o) o (!s.bandMet l (levelOf target) (levelOf o))
  else if l.sf then done (levelOf u) p.y u false
  else
    let y := s.hysteretic l.k l.t p.y
    done y y (levelDy y) false

/-- R257: z re-solved as a hand-over to state feedback ends, and whether that clamped it. -/
def endSolve (b : List Byte) (r : Dy) (x : List Dy) (o : Dy) : Dy × Bool :=
  let v := resolve b (clampOut b o) r x
  (v.1, v.2 || !(clampOut b o).eq o)

/-- R257: SWAP_CLAMPED where the re-solve at a hand-over's end clamps. -/
def LampOut.ended (o : LampOut) (c : Bool) : LampOut :=
  if c then { o with clamped := true, st := { o.st with swapClamped := true } } else o

/-- One class's lanterns through stages 3 to 6: z and x̂ of the class, the outputs, and the stages that saturated. A class without a valid set
keeps its estimates (R253, R255). -/
def State.classRun (s : State) (core : CtlCore) (source bank : Nat) (swap : Bool) (lim : Dy) (k : Nat) (ls : List LampIn) :
    BVec × List BVec × List LampOut × List Nat :=
  let b := s.memBytes (s.setAddr bank k) 168
  let r (l : LampIn) : Dy := levelDy l.t
  let ustar (l : LampIn) : Dy := clampOut b (if l.fresh then levelDy l.t else l.last)
  let solve (l : LampIn) : Dy × Bool := resolve b (ustar l) (r l) (core.estimate l.n)
  let z1 := BVec.norm (ls.map (fun l => (l.n, if l.resolves swap then (solve l).1 else core.integ l.n)))
  let vOf (z : BVec) (l : LampIn) : Dy := lawV b (r l) (z.get l.n) (core.estimate l.n)
  let v1 := BVec.norm (ls.map (fun l => (l.n, vOf z1.1 l)))
  let wrong (l : LampIn) : Bool := l.resolves swap && !(solve l).2 && !(Nat.beq (levelOf (v1.1.get l.n)) (levelOf (ustar l)))
  let z2 := if ls.any wrong then
      BVec.norm (ls.map (fun l => (l.n, if wrong l then (z1.1.get l.n).add ((ustar l).sub (v1.1.get l.n)) else z1.1.get l.n)))
    else z1
  let v2 := BVec.norm (ls.map (fun l => (l.n, vOf z2.1 l)))
  let runs := ls.map (fun l => (l, s.lampRun source lim b l (v2.1.get l.n) (ustar l) (l.resolves swap) (solve l).2
    (!(ustar l).eq (if l.fresh then levelDy l.t else l.last))))
  let ends (e : LampIn × LampOut) : Bool := e.1.sf && e.1.slews source && !e.2.st.handover
  let last (e : LampIn × LampOut) : Dy × Bool := endSolve b (r e.1) (core.estimate e.1.n) e.2.o
  let outs := runs.map (fun e => e.2.ended (ends e && (last e).2))
  let applied (e : LampIn × LampOut) : Dy := if e.1.slews source then e.1.last else e.2.o
  let rated := leAt (s.obj (0x2510 + k) 9) 8 2
  let xs := (upFrom 0 4).map (fun j => BVec.norm (runs.map (fun e =>
    let x := core.estimate e.1.n
    let base := (dot4 b (4 * j) x).add ((setWord b (16 + j)).mul (applied e))
    (e.1.n, if !setValid b then x.getD j {}
      else match e.1.power with
        | some p => if rated = 0 then base else base.add ((setWord b (28 + j)).mul ((coeff p rated).sub (dot4 b 20 x)))
        | none => base))))
  let z3 := BVec.norm (runs.map (fun e =>
    let n := e.1.n
    let z := z2.1.get n
    let v := v2.1.get n
    let dz := (setWord b 37).mul ((r e.1).sub (dot4 b 24 (core.estimate n)))
    let held := e.1.prev.handover || e.1.starts
    let wind := ((setWord b 39).lt v && (Dy.lt {} dz)) || (v.lt (setWord b 38) && dz.lt {})
    (n, if ends e then (last e).1 else if !e.1.sf || held || wind then z else Dy.clamp (setWord b 40) (setWord b 41) (z.add dz))))
  (z3.1, xs.map (fun x => x.1), outs,
    (if z1.2 || v1.2 || z2.2 || v2.2 then [4] else []) ++ (if z3.2 || xs.any (fun x => x.2) then [5] else []))

/-! ## Following error -/

/-- R260: POWER_CURVE's point p of a class, in 0.1 W. -/
def State.curvePoint (s : State) (k p : Nat) : Nat := leAt (s.obj (0x2510 + k) 9) (2 * p) 2

/-- R260: P_exp at a level, as a quotient in 0.1 W. -/
def State.expected (s : State) (k l : Nat) : Int × Nat :=
  let p := min 3 (l / 256)
  let w : Nat := if p = 3 then 255 else 256
  let a : Int := s.curvePoint k p
  let b : Int := s.curvePoint k (p + 1)
  (a * (w : Int) + (b - a) * ((l - 256 * p : Nat) : Int), w)

/-- R260: the entry that governs a lantern at an ASN. -/
def State.commanded (s : State) (n asn : Nat) : Option (Nat × Nat × Nat) :=
  ((assoc? n s.ctl.entries).getD []).reverse.find? (fun e => Nat.ble e.1 asn)

/-- R261: one report's comparison: P_exp and FE as quotients over the same denominator; none where R261 makes none. -/
def State.compare (s : State) (r : Nat × Nat × Nat) : Option (Int × Int × Nat) :=
  let (n, asn, p) := r
  let k := s.card n 0x30
  match s.commanded n asn, ((assoc? n s.ctl.ramps).getD []).reverse.find? (fun e => Nat.ble e.1 asn) with
  | none, _ | _, none => none
  | some (_, level, _), some ramp =>
    if (s.obj (0x2510 + k) 9).all (fun x => decide (x = 0)) || Nat.blt asn (ramp.2 + 100 * s.objN (0x2510 + k) 0x0D) ||
        Nat.testBit (leAt (s.obj (0x6000 + n) 0x11) 4 2) 8 then none
    else
      let (e, d) := s.expected k level
      some (e, (p : Int) * d - e, d)

/-- R261: is a following error over the limit? -/
def State.overLimit (s : State) (k : Nat) (fe : Int) (d : Nat) : Bool :=
  Nat.blt (s.objN (0x2510 + k) 0x0A * s.curvePoint k 4 * d) (100 * fe.natAbs) && Nat.blt (s.objN (0x2510 + k) 0x0B * d) fe.natAbs

/-- R261: a comparison's effect on a lantern's run: the run, and the fault raised or cleared. -/
def feStep (old : Option FeRun) (above : Bool) (asn timer : Nat) : FeRun × Option Bool :=
  let had := match old with
    | some r => r.fault
    | none => false
  let run : FeRun := match old with
    | some r => if r.above = above then r else { above := above, first := asn, fault := had }
    | none => { above := above, first := asn, fault := had }
  if above != had && Nat.ble (run.first + 100 * timer) asn then ({ run with fault := above }, some above) else (run, none)

/-- Stage 7 over the reports of a sample. -/
def State.stage7 (s : State) (smp : Sample) (r : Nat × Nat × Nat) : Sample :=
  match s.compare r with
  | none => smp
  | some (e, fe, d) =>
    let (n, asn, _) := r
    let k := s.card n 0x30
    let (run, ch) := feStep (assoc? n smp.core.fe) (s.overLimit k fe d) asn (s.objN (0x2510 + k) 0x0C)
    { smp with
      core := { smp.core with fe := smp.core.fe.filter (fun (q : Nat × FeRun) => !(Nat.beq q.1 n)) ++ [(n, run)] },
      compared := smp.compared.filter (fun (q : Nat × Nat × Nat × Int) => !(Nat.beq q.1 n)) ++ [(n, e.toNat, d, fe)],
      feChanges := match ch with
        | some up => smp.feChanges ++ [(n, up)]
        | none => smp.feChanges }

/-! ## The sample as a whole -/

/-- R247: Δt in ns. -/
def State.ctlDelta (s : State) : Nat := min (s.time.now - s.ctl.core.started) (10 * s.rdF Reg.CTL_PERIOD 19 0 * 1000)

/-- R229, R230, R259: stage 0: the predictor advanced by every boundary passed, then the events; with the events dropped and the seconds
skipped. Only after a forward step of the local clock does a gap beyond MAX_CATCHUP zero it. -/
def State.stage0 (s : State) : CtlCore × Pred × Nat × Option Nat :=
  let c := s.ctl.core
  let now := s.time.now
  let old := c.graph.step * 1000000
  let gr := if now / old ≤ c.predAt / old then c.graph else s.traffic.newGraph.getD c.graph
  let w := gr.step * 1000000
  let k := now / w - c.predAt / w
  let tau := s.objN 0x2400 7
  let lim := s.objN 0x2400 8 * 1000
  let zero := !(Nat.beq s.ctl.steps c.steps) && Nat.blt lim (k * gr.step)
  let p0 : Pred := if zero then { x := [{}, {}, {}], credit := [{}, {}, {}], out := [{}, {}, {}] }
    else gr.advanceN tau k { x := c.x, credit := c.credit, out := [{}, {}, {}] }
  let at_ := if k = 0 then c.predAt else now / w * w
  let age (e : PredEvent) : Nat := at_ / w - e.time / w
  let gone := s.traffic.events.filter (fun e => Nat.blt lim (age e * gr.step))
  let p1 := (s.traffic.events.filter (fun e => !Nat.blt lim (age e * gr.step))).foldl (fun p e => gr.apply p e (age e)) p0
  ({ c with graph := gr, predAt := at_, x := p1.x, credit := p1.credit }, p1, gone.length,
    if zero then some ((now - c.predAt) / 1000000000) else none)

/-- R257: the last output a hand-over starts from; after a takeover the LEVEL last reported within 60 s, or the target. -/
def State.handoverFrom (s : State) (core : CtlCore) (takeover : Bool) (n t : Nat) : Dy :=
  if takeover then
    if s.time.now ≤ ofTime80 (s.obj (0x6000 + n) 0x12) + 60000000000 then levelDy (leAt (s.obj (0x6000 + n) 0x11) 8 2 % 1024) else levelDy t
  else core.o.get n

/-- R248: the lanterns as the sample takes them. -/
def State.lampsIn (s : State) (core : CtlCore) (peak : List BVec) (source : Nat) : List LampIn :=
  let was := core.source
  (s.listedCards.filter s.ctlLantern).map (fun n =>
    let k := s.card n 0x30
    let sf := s.rdB Reg.CTL_LAW k
    let old := assoc? n core.lanterns
    let prev := old.getD { sf := sf }
    let t := s.target peak source n
    let fresh := decide (was = 0 ∧ source ≠ 0)
    let starts := !fresh && decide (source ≠ 0) && (s.ctl.takeover || (old.isSome && (prev.sf != sf || decide (was ≠ source))))
    { n := n, k := k, t := t, sf := sf, prev := prev, starts := starts, fresh := fresh,
      last := if prev.handover && !s.ctl.takeover then core.o.get n else s.handoverFrom core s.ctl.takeover n t,
      power := ((s.ctl.reports.reverse.find? (fun r => Nat.beq r.1 n)).map (fun r => r.2.2)) })

/-- Table 8.3: the sample computed from what was published by its firing. -/
def State.ctlCompute (s : State) (late : Bool) : Sample :=
  let (c0, p, dropped, zeroed) := s.stage0
  let gr := c0.graph
  let looks := (upFrom 0 3).map (fun g => let x := c0.x.getD g {}; s.lookAhead gr g c0.predAt gr.steps x x false [])
  let peak := looks.map (fun l => l.1)
  let source := let v := s.rdF Reg.CTL_CTRL 5 4; if v = 3 then 0 else v
  let swap := s.swapPending
  let bank := if swap then 1 - c0.bank else c0.bank
  let lamps := s.lampsIn c0 peak source
  let lim := coeff (s.rdF Reg.CTL_RAMP_LIMIT 15 0 * s.ctlDelta : Nat) (10 ^ 13)
  let runs := (upFrom 0 16).filterMap (fun k =>
    let ls := lamps.filter (fun l => Nat.beq l.k k)
    if ls.isEmpty then none else some (k, s.classRun c0 source bank swap lim k ls))
  let outs := runs.flatMap (fun e => e.2.2.2.1)
  let o := BVec.norm (outs.map (fun l => (l.n, l.o)))
  let core : CtlCore := { c0 with
    peak := peak, source := source, bank := bank, o := o.1, started := s.time.now, steps := s.ctl.steps,
    lanterns := outs.map (fun l => (l.n, l.st)),
    targets := lamps.map (fun l => (l.n, l.t)),
    z := runs.map (fun e => (e.1, e.2.1)),
    xh := runs.flatMap (fun e => mapFrom (fun j x => (4 * e.1 + j, x)) 0 e.2.2.1),
    fe := c0.fe.filter (fun e => !(Nat.beq (s.card e.1 3) 0)) }
  let smp : Sample := {
    fire := s.time.now, stamp := s.stamp, late := late, core := core,
    stages := ((if p.sat then [0] else []) ++ (if looks.any (fun l => l.2.1) then [1] else []) ++ runs.flatMap (fun (e : Nat × BVec × List BVec × List LampOut × List Nat) => e.2.2.2.2) ++
      (if o.2 then [6] else [])).eraseDups,
    clamped := (outs.filter (fun l => l.clamped)).length,
    swapClamped := (outs.filter (fun l => l.clamped && (lamps.any (fun e => Nat.beq e.n l.n && e.resolves swap)))).length,
    handovers := (lamps.filter (fun l => l.starts && !(Nat.beq l.t 0))).length,
    outflow := p.out, events := s.traffic.events.length, reports := s.ctl.reports.length, dropped := dropped, zeroed := zeroed,
    swapped := swap, takeover := s.ctl.takeover }
  s.ctl.reports.foldl (fun t r => s.stage7 t r) smp

/-- Object 0x2500:0E: control counter k advances by n: 0 SAMPLES, 1 MISSED, 2 MISS_RUNS, 3 SWAPS, 4 SWAP_CLAMPED, 5 HANDOVERS,
6 LM_DELIVERIES, 7 LM_BLOCKS_DEFERRED. -/
def State.ctlCount (s : State) (k n : Nat) : State := if n = 0 then s else s.bumpU32 0x2500 0x0E k n

/-- Sets bit i of CTL_INT_STAT if a condition holds. -/
def State.ctlInt (s : State) (i : Nat) (c : Bool) : State := if c then s.wrB Reg.CTL_INT_STAT i true else s

/-- R259: the sample in progress is abandoned: the miss is counted, and at 8 in a row the run is recorded and CTL_DEADLINE raised
(Table 17.1). -/
def State.ctlMiss (s : State) : State :=
  let k := min 255 (s.rdF Reg.CTL_STATUS 15 8 + 1)
  let s1 := ({ s with ctl := { s.ctl with sample := none }, upd := { s.upd with ctlRun := 0 } }).wrB Reg.CTL_STATUS 1 false
  let s2 := ((((s1.wrB Reg.CTL_STATUS 4 true).wrF Reg.CTL_STATUS 15 8 k).ctlInt 1 true).bump Reg.CTL_MISS_COUNT 1).ctlCount 1 1
  if k = 8 then
    (((s2.ctlInt 2 true).ctlCount 2 1).record 0x09 1 0 (s2.rd Reg.CTL_MISS_COUNT).toNat 0).raiseActive 17
  else s2

/-- CTL_SAMPLE, R246 to R248: a firing of unit 10 starts a sample while EN is 1. A sample still in progress is past its deadline and
abandoned. -/
def State.ctlFire (s : State) (late : Bool) : State :=
  if s.rdB Reg.CTL_CTRL 0 then
    let s1 := if s.ctl.sample.isSome then s.ctlMiss else s
    let s2 := { s1 with ctl := { s1.ctl with sample := some (s1.ctlCompute late) } }
    (((s2.wrB Reg.CTL_STATUS 1 true).wrN Reg.CTL_LAST_START s.stamp).ctlInt 9 late)
  else s

/-- SAMPLE_MISSED, R259: the sample is not complete at its deadline. -/
def execSampleMissed (t : Nat) (s : State) : Host.Outcome State Fault Refusal :=
  .next (match s.ctl.sample with
    | some m => if m.fire + s.rdF Reg.CTL_DEADLINE 19 0 * 1000 ≤ (s.upTo t).time.now then (s.upTo t).ctlMiss else s
    | none => s)

/-! ## Publication -/

/-- Table 8.11: CTL_FLAGS of a lantern. -/
def CtlCore.flags (c : CtlCore) (n : Nat) : Nat :=
  let l := (assoc? n c.lanterns).getD {}
  let f := match assoc? n c.fe with
    | some r => r.fault
    | none => false
  b2n l.sat + 2 * b2n l.handover + 4 * b2n l.swapClamped + 8 * b2n f + 16 * b2n l.sf

/-- The LEVEL of a lantern; 0 for one that CTL does not control (R244). -/
def CtlCore.level (c : CtlCore) (n : Nat) : Nat := ((assoc? n c.lanterns).getD {}).level

/-- Table 8.4: an output half. -/
def outputHalf (c old : CtlCore) (seq stamp : Nat) : List Byte :=
  let all := upFrom 0 4096
  toLE 4 seq ++ toLE 4 stamp ++ toLE 1 c.source ++ toLE 1 c.bank ++ List.replicate 6 (0 : Byte) ++
    all.flatMap (fun n => match assoc? n c.lanterns with
      | some l => toLE 2 (l.level + 1024 * l.ramp)
      | none => [(0 : Byte), 0]) ++
    all.map (fun n => BitVec.ofNat 8 (c.flags n)) ++
    (upFrom 0 512).map (fun b => BitVec.ofNat 8 ((upFrom 0 8).foldl (fun a i =>
      a + (if c.level (8 * b + i) = old.level (8 * b + i) then 0 else 2 ^ i)) 0)) ++ List.replicate 3568 (0 : Byte)

/-- R249: the address of an output half. -/
def State.halfAddr (s : State) (h : Nat) : Nat :=
  (s.rd Reg.CTL_OUT_BASE_LO).toNat + s.rdF Reg.CTL_OUT_BASE_HI 7 0 * 2 ^ 32 + 0x4000 * h

/-- R261: a following-error fault raised or cleared. -/
def State.feChange (smp : Sample) (s : State) (e : Nat × Bool) : State :=
  let (n, up) := e
  if up then
    let (d, fe) := match smp.compared.find? (fun q => Nat.beq q.1 n) with
      | some q => (q.2.2.1, q.2.2.2)
      | none => (1, 0)
    ((s.setCard n 0x38 2 (min 0xFFFF (s.card n 0x38 + 1))).ctlInt 7 true).record 0x09 2 n (enc 32 (openRound fe d)) 0
  else (s.ctlInt 8 true).record 0x09 3 n 0 0

/-- R244, Table 8.11: what a completed sample shows in a report card; T is 0 for a lantern that CTL no longer controls. -/
def State.ctlCard (c : CtlCore) (s : State) (e : Nat × Nat) : State :=
  let n := e.1
  ((s.setCard n 0x32 2 e.2).setCard n 0x37 1 (c.flags n)).setObj (0x6000 + n) 0x39 ((c.estimate n).flatMap bf24)

/-- R255: a swap takes effect as the sample completes. -/
def State.swapDone (s : State) (smp : Sample) : State :=
  if smp.swapped then
    ((((((s.wrB Reg.CTL_STATUS 2 (decide (smp.core.bank = 1))).wrB Reg.CTL_STATUS 3 false).wrB Reg.CTL_CTRL 2 false).ctlInt 3 true).setObjN
      0x2500 7 1 smp.core.bank).ctlCount 3 1).wrF Reg.CTL_COUNTS_B 12 0 smp.swapClamped
  else s

/-- R249, R259: a sample completes: what it retains takes the place of the last, its outputs go to the half not in use, and, with
OUTPUT_EN, OUT_HALF switches. -/
def State.ctlComplete (s : State) (smp : Sample) : State :=
  let old := s.ctl.core
  let c := smp.core
  let us := (s.time.now - smp.fire) / 1000
  let s0 := { s with
    ctl := { s.ctl with core := c, sample := none, reports := s.ctl.reports.drop smp.reports, takeover := s.ctl.takeover && !smp.takeover },
    traffic := { s.traffic with
      events := s.traffic.events.drop smp.events,
      newGraph := if s.traffic.newGraph = some c.graph then none else s.traffic.newGraph,
      outflow := mapFrom (fun g (b : BVec) => (b.add (smp.outflow.getD g {})).1) 0 s.traffic.outflow } }
  let s1 := (match smp.zeroed with
    | some sec => s0.record 0x32 2 0 sec 0
    | none => s0).trafficCount 9 smp.dropped
  let s2 := smp.stages.foldl (fun t i => (t.wrB Reg.CTL_STAGE_SAT i true).ctlInt 5 true) s1
  let s3 := (((s2.swapDone smp).ctlInt 4 (Nat.blt 0 smp.clamped)).ctlCount 4 smp.clamped).ctlInt 6 (Nat.blt 0 smp.handovers)
  let s4 := smp.feChanges.foldl (State.feChange smp) (s3.ctlCount 5 smp.handovers)
  let s5 := smp.compared.foldl (fun t q => (t.setCard q.1 0x35 2 (openRound q.2.1 q.2.2.1).toNat).setCard q.1 0x36 2 (enc 16 (openRound q.2.2.2 q.2.2.1))) s4
  let gone := (old.targets.filter (fun e => !(c.targets.any (fun q => Nat.beq q.1 e.1)))).map (fun e => (e.1, 0))
  let s6 := (c.targets ++ gone).foldl (State.ctlCard c) s5
  let s7 := (s6.wrF Reg.CTL_COUNTS_A 12 0 (c.lanterns.filter (fun l => l.2.sat)).length).wrF Reg.CTL_COUNTS_A 28 16
    (c.lanterns.filter (fun l => l.2.handover)).length
  let s8 := ((s7.wrF Reg.CTL_COUNTS_B 28 16 (c.fe.filter (fun l => l.2.fault)).length).bump Reg.CTL_SAMPLE_SEQ 1).ctlCount 0 1
  let s9 := ((s8.wrF Reg.CTL_DURATION 19 0 us).wrF Reg.CTL_DURATION_MAX 19 0 (max us (s.rdF Reg.CTL_DURATION_MAX 19 0))).setObjN 0x2500 0x0F 4 us
  let s10 := (((s9.wrB Reg.CTL_STATUS 1 false).wrB Reg.CTL_STATUS 4 false).wrF Reg.CTL_STATUS 15 8 0).unhold 17
  let h := 1 - b2n (s.rdB Reg.CTL_STATUS 5)
  let s11 := s10.busWrite .ctl false (s.halfAddr h) (outputHalf c old (s10.rd Reg.CTL_SAMPLE_SEQ).toNat smp.stamp)
  let s12 := { s11 with upd := { s11.upd with ctlRun := s11.upd.ctlRun + 1 } }
  (if s.rdB Reg.CTL_CTRL 1 then { s12 with ctl := { s12.ctl with published := s.time.now } }.wrB Reg.CTL_STATUS 5 (decide (h = 1)) else s12).ctlInt 0 true

/-- SAMPLE_DONE, R249: the sample completes by its deadline. -/
def execSampleDone (t : Nat) (s : State) : Host.Outcome State Fault Refusal :=
  .next (match s.ctl.sample with
    | some m => if (s.upTo t).time.now ≤ m.fire + s.rdF Reg.CTL_DEADLINE 19 0 * 1000 then ((s.upTo t).ctlComplete m).groupRefresh else s
    | none => s)

/-! ## Source and profile -/

/-- Table 8.2: the source a mode sets. -/
def State.sourceOf (s : State) (m : Mode) (ph : Phase) : Nat :=
  match m with
  | .commission => if ph = .day then 0 else 1
  | .transition | .nightScheduled => 1
  | .nightFollowing => 2
  | .islanded => if ph = .day then 0 else if ph = .night ∧ s.objN 0x2000 7 = 5 then 2 else 1
  | .standby => if ph = .day then 0 else if ph = .night ∧ s.objN 0x2000 7 = 5 then 2 else 1
  | _ => 0

/-- Table 8.2: does CTL run in the mode? -/
def ctlRuns (m : Mode) : Bool :=
  match m with
  | .provision | .batteryWatch | .deepSleep | .starting => false
  | _ => true

/-- R232: the predictor zeroed, with its credits. -/
def State.predictorZero (s : State) : State :=
  { s with ctl := { s.ctl with core := { s.ctl.core with x := [{}, {}, {}], credit := [{}, {}, {}], predAt := s.time.now } } }

/-- R232, R243, Table 8.2: EN, OUTPUT_EN and SOURCE for a mode; the predictor is zeroed where CTL starts. -/
def State.ctlProfile (s : State) (m : Mode) (ph : Phase) : State :=
  let run := ctlRuns m
  let s1 := if run && !s.rdB Reg.CTL_CTRL 0 then s.predictorZero else s
  let s2 := if run then s1 else { s1 with ctl := { s1.ctl with sample := none } }
  let s3 := ((s2.wrB Reg.CTL_CTRL 0 run).wrB Reg.CTL_CTRL 1 (run && decide (m ≠ .standby))).wrF Reg.CTL_CTRL 5 4 (s.sourceOf m ph)
  let s4 := s3.wrB Reg.CTL_STATUS 0 run
  if run then s4 else s4.wrB Reg.CTL_STATUS 1 false

/-- Table 8.13: CTL_PERIOD stored within its limits, and the deadline that follows. -/
def State.ctlPeriod (s : State) (us : Nat) : State :=
  let p := clampN 1000 1000000 us
  (s.wrF Reg.CTL_PERIOD 19 0 p).wrF Reg.CTL_DEADLINE 19 0 (p - p / 20)

/-! ## The light map -/

/-- R263: the greatest n up to 32 whose frames fit a cell of LM_LEN slots of a cohort. -/
def State.lmCapacity (s : State) (c len : Nat) : Nat :=
  let air := airTime (s.mac c).phy 287
  let off := s.rdF (Reg.MAC_TIMING c) 11 0
  (upFrom 1 32).foldl (fun a n => if off + n * air + (n - 1) * 500 + 1000 ≤ len * 10000 then n else a) 0

/-- R265: the greatest relay depth in any cohort. -/
def State.relayDepth (s : State) : Nat :=
  ((s.listedCards.filter s.ctlLantern).filter (fun n => Nat.beq (s.card n 0x0A / 0x4000) 0)).foldl (fun a n =>
    max a (s.lampDepth 4 (s.card n 0x0A % 0x1000))) 0

/-- R263: the candidate blocks of a cohort. -/
def State.lmCandidates (s : State) (c : Nat) : List Nat :=
  let ls := s.cohortCards c holdsEntry
  (upFrom 0 32).filter (fun b => ls.any (fun n => Nat.beq (n / 128) b))

/-- R249, R264: the LEVEL_WORD of a lantern in an output half. -/
def State.outWord (s : State) (half n : Nat) : Nat := fromLE (s.memBytes (s.halfAddr half + 0x10 + 2 * n) 2)

/-- R264: the half of the last sample that completed at least 5 ms before a cell's first slot: the one OUT_HALF names, or the other where its sample
completed later. -/
def State.lmHalf (s : State) (at_ : Ns) : Nat :=
  let h := b2n (s.rdB Reg.CTL_STATUS 5)
  if s.ctl.published + 5000000 ≤ at_ then h else 1 - h

/-- R263: does a lantern's LEVEL differ from the value last sent to its cohort? One never sent differs. -/
def State.lmChanged (s : State) (half c n : Nat) : Bool :=
  !(Nat.beq (Sparse.get (fun _ => 0) s.ctl.sentLevel (c * 4096 + n)) (s.outWord half n % 1024 + 1))

/-- The delivery at which a block was last sent to a cohort; 0 before the first. -/
def State.lmSent (s : State) (c b : Nat) : Nat := Sparse.get (fun _ => 0) s.ctl.sentBlock (c * 32 + b)

/-- A block in its place by the time since it was last sent, longest first, the lowest BLOCK on a tie. -/
def State.lmInsert (s : State) (c b : Nat) : List Nat → List Nat
  | [] => [b]
  | x :: t => if s.lmSent c b < s.lmSent c x ∨ (s.lmSent c b = s.lmSent c x ∧ b < x) then b :: x :: t else x :: s.lmInsert c b t

/-- R263: the blocks of a delivery in order, before the capacity cuts them. -/
def State.lmChosen (s : State) (half c : Nat) : List Nat :=
  let cand := s.lmCandidates c
  let ls := s.cohortCards c holdsEntry
  let changed := cand.filter (fun b => ls.any (fun n => Nat.beq (n / 128) b && s.lmChanged half c n))
  let oldest := (cand.foldl (fun a b => s.lmInsert c b a) []).take 1
  (union changed oldest).foldl (fun a b => s.lmInsert c b a) []

/-- Table 5.10: a block's payload. -/
def State.lmPayload (s : State) (half b seq apply : Nat) : List Byte :=
  toLE 1 b ++ toLE 1 seq ++ toLE 2 apply ++ (upFrom (128 * b) 128).flatMap (fun n => toLE 2 (s.outWord half n % 4096))

/-- R263 to R265: one cohort's frames of a delivery, queued for its transmit ring. A block counts as sent when its frame is (R263). -/
def State.lmCohort (half apply seq : Nat) (s : State) (c : Nat) : State :=
  let all := s.lmChosen half c
  let now := all.take (s.lmCapacity c (s.objN 0x2500 4))
  let s1 := s.ctlCount 7 (all.length - now.length)
  ({ s1 with member := { s1.member with outbox := s1.member.outbox ++ now.map (fun b =>
      ({ cohort := c, lantern := 0xFFF, type := 3, code := 0, body := s.lmPayload half b (seq % 256) (apply % 2 ^ 16), whole := true } : OutFrame)) } }).outboxPost c

/-- R266: the cohorts that deliver: their MACs run under full duty. -/
def State.lmCohorts (s : State) : List Nat := (upFrom 0 4).filter (fun c => s.rdB (Reg.MAC_STATUS c) 0 && !s.rdB (Reg.MAC_STATUS c) 1)

/-- LIGHT_MAP_BUILD, R262 to R266: the frames of the delivery whose cell begins at an ASN, for every cohort whose MAC runs under full
duty; where none does there is no delivery. -/
def execLightMapBuild (asn : Nat) (s : State) : Host.Outcome State Fault Refusal :=
  .next (
    match s.lmCohorts with
    | [] => s
    | c :: rest =>
      if lightMapMode s.mode.mode then
        let seq := (s.objN 0x2500 0x0D + 1) % 256
        let apply := asn + (s.relayDepth + 1) * s.objN 0x2500 4 + 1
        let half := s.lmHalf ((s.mac c).slotStart + (asn - s.asn c) * 10000000)
        let s1 := ({ s with ctl := { s.ctl with deliveries := s.ctl.deliveries + 1 } }.setObjN 0x2500 0x0D 1 seq).ctlCount 6 1
        (c :: rest).foldl (State.lmCohort half apply seq) s1
      else s)

end Sys2Proof.Machine
end

