-- ==== Sys2Proof/Machine/Rtc.lean ====
section
/-! DEFINITION. The real-time clock and the internal captures (R133, R139 to R145). -/

namespace Sys2Proof.Machine

/-- R16: does a write to an AON register take effect? Not while the AON clock is stopped. -/
def State.aonTakes (s : State) : Bool := !s.aon.aonClockLost

/-- R133: internal capture k takes the stamp and EPOCH of the local clock and advances its SEQ modulo 256. -/
def State.icap (s : State) (k : Nat) : State :=
  let q := Reg.TIME_ICAP_SEQ k
  ((s.wrN (Reg.TIME_ICAP_STAMP k) s.stamp).wrF q 7 0 (s.rdF q 7 0 + 1)).wrF q 11 8 s.time.epoch

/-- INTERNAL_CAPTURE, R133: the start of a basic cycle of CAN0 (0) or CAN1 (1), or an RTC second edge (2), is captured while
TIME is clocked, at local time t; AON makes no second edge while the RTC is halted (R142). -/
def execInternalCapture (k : Fin 3) (t : Nat) (s : State) : Host.Outcome State Fault Refusal :=
  .next (
    let s0 := s.upTo t
    if s0.clockPresent .time && !(decide (k.val = 2) && s0.rdB Reg.AON_RTC_CTRL 0) then s0.icap k.val else s0)

/-- R397: an interval of the crystal joined by the second that ends now, at its correction in ppb and temperature in 0.01 °C. -/
def CurveRun.second (r : CurveRun) (now : Ns) (e temp : Int) : CurveRun :=
  let first := Nat.beq r.secs 0
  { r with last := now, secs := r.secs + 1, corr := r.corr + e, temp := r.temp + temp,
           least := if first then temp else min r.least temp, most := if first then temp else max r.most temp }

/-- R397: at an RTC second edge, while the servo is LOCKED and FUNCTIONS has the curve on, CAL's interval grows by a second; at 1,024
seconds it is complete and the next one begins. -/
def State.curveSecond (s : State) : State :=
  if s.time.servoState = 2 ∧ Nat.testBit (s.objN 0x2A00 4) 1 = true then
    let fresh : CurveRun := { start := s.time.now, last := s.time.now }
    match s.cal.curve with
    | none => { s with cal := { s.cal with curve := some fresh } }
    | some r =>
      let r1 := r.second s.time.now (sx 32 (s.rd Reg.AON_RTC_CORR).toNat) (sx 16 (s.rdF Reg.AON_RTC_TEMP 15 0))
      if Nat.blt r1.secs 1024 then { s with cal := { s.cal with curve := some r1 } }
      else { s with cal := { s.cal with curve := some fresh, curveDone := some r1 } }
  else { s with cal := { s.cal with curve := none } }

/-- R143: the second the alarm names, since 2000-01-01 00:00:00; none where no calendar time equals it. -/
def State.alarmSecond (s : State) : Option Nat :=
  let d := s.rdF Reg.AON_RTC_ALARM_DAY 16 0
  let t := s.rdF Reg.AON_RTC_ALARM_SEC 16 0
  if Nat.ble t 86399 && Nat.ble d (dayNumber 199 12 31) then some (d * 86400 + t) else none

/-- R143: the alarm, evaluated at a second boundary. -/
def State.alarmAt (s : State) : State :=
  if s.rdB Reg.AON_RTC_CTRL 1 && decide (s.alarmSecond = some s.civil.seconds) then s.wrB Reg.AON_RTC_CTRL 17 true else s

/-- R143: the alarm, evaluated at a release that carries the calendar from a second to the one written. -/
def State.alarmRelease (s : State) (from_ : Nat) : State :=
  if s.rdB Reg.AON_RTC_CTRL 1 then
    match s.alarmSecond with
    | none => s
    | some a =>
      let t := s.civil.seconds
      if t = a then s.wrB Reg.AON_RTC_CTRL 17 true
      else if from_ < a ∧ a < t then (s.wrB Reg.AON_RTC_CTRL 17 true).wrB Reg.AON_RTC_CTRL 18 true
      else s
  else s

/-- R140: each second E × 32,768 joins the accumulator; each time it reaches ±1,000,000,000 one crystal cycle is dropped (positive) or
added, and 1,000,000,000 taken off. Answers the cycles and what is left. -/
def rtcAccumulate (acc e : Int) : Int × Int :=
  let a := acc + e * 32768
  (a.tdiv 1000000000, a.tmod 1000000000)

/-- R139, R140: the crystal has made a number of cycles since the second began; once 32,768 of them, and those the correction drops, have counted,
the second completes: the calendar advances, YEAR_WRAP is set at the roll to 2000, the alarm is evaluated and internal capture 2 taken. While halted
the calendar does not advance (R142). -/
def State.rtcSecond (s : State) (cycles : Nat) : State :=
  if s.rdB Reg.AON_RTC_CTRL 0 || decide ((cycles : Int) < 32768 + s.rtc.adjust) then s
  else
    let e := sx 32 (s.rd Reg.AON_RTC_CORR).toNat
    let c := s.civil.next
    let s1 := s.setCivil c
    let (n, left) := if s.rdB Reg.AON_RTC_CTRL 2 then rtcAccumulate s.rtc.acc e else (0, s.rtc.acc)
    let s2 := { s1 with rtc := { s1.rtc with acc := left, adjust := n, subNs := 0 } }
    let s3 := if c.year < s.civil.year then s2.wrB Reg.AON_RTC_CTRL 20 true else s2
    let s4 := s3.alarmAt
    if s4.clockPresent .time then (s4.icap 2).curveSecond else s4

/-- RTC_SECOND, R139, R140. -/
def execRtcSecond (cycles : Nat) (t : Nat) (s : State) : Host.Outcome State Fault Refusal := .next ((s.upTo t).rtcSecond cycles)

/-- R140: the curve's value in 0.01 ppm × 500 at a temperature in 0.01 °C, and the end points outside −40 to 120 °C. -/
def State.curveAt (s : State) (t : Int) : Int :=
  let p (k : Nat) : Int := sx 16 (s.rdF (Reg.AON_RTC_CURVE k) 15 0)
  let u := clampI 0 16000 (t + 4000)
  let k := (u / 500).toNat
  if k ≥ 32 then p 32 * 500 else p k * 500 + (p (k + 1) - p k) * (u % 500)

/-- R140: the seconds between readings of the sensor: 8 on VIN or VBAT, 64 on VCOIN alone. -/
def State.sensorInterval (s : State) : Nat := if s.rdF Reg.AON_STATUS 9 8 = 2 then 64 else 8

/-- RTC_TEMPERATURE_READ, R140: `secs` after the last reading, while COMP_EN is 1, the sensor is read and E becomes the interpolated curve value plus
AON_RTC_TRIM, in ppb. -/
def execRtcTemperatureRead (secs : Nat) (temp : BitVec 16) (s : State) : Host.Outcome State Fault Refusal :=
  .next (if s.rdB Reg.AON_RTC_CTRL 2 && Nat.ble s.sensorInterval secs then
      let s1 := s.wrN Reg.AON_RTC_TEMP temp.toNat
      let (e, s2) := s1.openDiv ((s1.curveAt temp.toInt + sx 16 (s1.rdF Reg.AON_RTC_TRIM 15 0) * 500) * 10) 500
      s2.wrN Reg.AON_RTC_CORR (enc 32 e)
    else s)

/-- R141: the eight time registers, in the order of the freeze's shadows: TICK, SEC, MIN, HOUR, DAY, WEEKDAY, MONTH, YEAR. -/
def rtcTimeRegs : List Nat :=
  [Reg.AON_RTC_TICK, Reg.AON_RTC_SEC, Reg.AON_RTC_MIN, Reg.AON_RTC_HOUR, Reg.AON_RTC_DAY, Reg.AON_RTC_WEEKDAY,
   Reg.AON_RTC_MONTH, Reg.AON_RTC_YEAR]

/-- R141: the eight time registers as they stand. -/
def State.rtcTimes (s : State) : List Word := BitVec.ofNat 32 s.rtcTick :: rtcTimeRegs.tail.map s.rd

/-- R141: a read of the w-th time register: it freezes all eight where no freeze is held and returns its shadow; a read of YEAR
releases the freeze. -/
def State.rtcRead (s : State) (w : Nat) : State :=
  let sh := match s.rtc.freeze with
    | some l => l
    | none => s.rtcTimes
  { (s.answer (sh.getD w 0)) with rtc := { s.rtc with freeze := if w = 7 then none else some sh } }

/-- RTC_FREEZE, R141. -/
def execRtcFreeze (w : Fin 8) (s : State) : Host.Outcome State Fault Refusal := .next (s.rtcRead w.val)

/-- RTC_FREEZE_RELEASE, R141: the read of AON_RTC_YEAR. -/
def execRtcFreezeRelease (s : State) : Host.Outcome State Fault Refusal := .next (s.rtcRead 7)

/-- FREEZE_EXPIRED, R141: a freeze held for 32,768 AON cycles releases itself. -/
def execFreezeExpired (s : State) : Host.Outcome State Fault Refusal :=
  .next (match s.rtc.freeze with
    | none => s
    | some _ => { (s.wrB Reg.AON_RTC_CTRL 19 true) with rtc := { s.rtc with freeze := none } })

/-- R142: the sub-second divider starts anew: a new second begins. -/
def State.rtcTickZero (s : State) : State := { s with rtc := { s.rtc with subNs := 0 } }

/-- R142: HALT takes effect: the calendar stops and TALLY starts from 0. -/
def State.rtcHalt (s : State) : State :=
  if s.rdB Reg.AON_RTC_CTRL 0 then s
  else
    let s1 := s.wrB Reg.AON_RTC_CTRL 0 true
    { s1 with rtc := { s1.rtc with haltedAt := s.civil.seconds, tallyNs := 0 }, cal := { s1.cal with curve := none } }

/-- HALT, R142: the supervisor's write of HALT = 1; from any other initiator it is ignored and sets PERM (R38, R148). -/
def execRtcHalt (ini : Initiator) (s : State) : Host.Outcome State Fault Refusal :=
  .next (s.regWrite ini (decide (ini = .sup)) Reg.AON_RTC_CTRL (fun t => if t.aonTakes then t.rtcHalt else t))

/-- R142: HALT = 0 takes effect: the calendar resumes from the written values with TICK 0, or the release is refused for an
invalid date or time. -/
def State.rtcRelease (s : State) : State :=
  if s.rdB Reg.AON_RTC_CTRL 0 then
    if s.civil.valid then
      (((s.wrB Reg.AON_RTC_CTRL 0 false).setCivil s.civil).rtcTickZero).alarmRelease s.rtc.haltedAt
    else s.wrB Reg.AON_RTC_CTRL 16 true
  else s

/-- RTC_RELEASE, R142. -/
def execRtcRelease (ini : Initiator) (s : State) : Host.Outcome State Fault Refusal :=
  .next (s.regWrite ini (decide (ini = .sup)) Reg.AON_RTC_CTRL (fun t => if t.aonTakes then t.rtcRelease else t))

/-- The six writable time registers and their widths less 1 (Table 4.13). -/
def rtcField (w : Nat) : Nat × Nat :=
  match w with
  | 0 => (Reg.AON_RTC_SEC, 5)
  | 1 => (Reg.AON_RTC_MIN, 5)
  | 2 => (Reg.AON_RTC_HOUR, 4)
  | 3 => (Reg.AON_RTC_DAY, 4)
  | 4 => (Reg.AON_RTC_MONTH, 3)
  | _ => (Reg.AON_RTC_YEAR, 7)

/-- R142: a write of a time register while halted is stored and resets the sub-second divider; while not halted it is refused.
The weekday follows the date once it is a date (R139). -/
def State.rtcWrite (s : State) (w v : Nat) : State :=
  if s.rdB Reg.AON_RTC_CTRL 0 then
    let s1 := (s.wrF (rtcField w).1 (rtcField w).2 0 v).rtcTickZero
    if s1.civil.valid then s1.wrN Reg.AON_RTC_WEEKDAY s1.civil.weekday else s1
  else s.wrB Reg.AON_RTC_CTRL 16 true

/-- RTC_TIME_WRITE, R142, R148. -/
def execRtcTimeWrite (ini : Initiator) (w : Fin 6) (v : Word) (s : State) : Host.Outcome State Fault Refusal :=
  .next (s.regWrite ini (decide (ini = .sup)) (rtcField w.val).1 (fun t => if t.aonTakes then t.rtcWrite w.val v.toNat else t))

/-- R142, R145: the halt procedure: HALT, the six time registers written, release, with the new second beginning there. -/
def State.rtcSetTo (s : State) (c : Civil) : State :=
  ((((((((s.rtcHalt).rtcWrite 0 c.sec).rtcWrite 1 c.min).rtcWrite 2 c.hour).rtcWrite 3 c.day).rtcWrite 4 c.month).rtcWrite 5 c.year)).rtcRelease

/-- R144: the local clock's UTC, in nanoseconds since 1970. -/
def State.utcNow (s : State) : Int := (s.time.now : Int) - s.objI 0x2100 2 16 * 1000000000

/-- R144: RTC minus UTC in 1/64 ns: the calendar and its tick of 1/32,768 s, less the local clock's UTC. -/
def State.rtcDiff64 (s : State) : Int :=
  ((s.civil.seconds + unixTo2000 : Nat) : Int) * 64000000000 + ((s.rtcTick * 1953125 : Nat) : Int) - s.utcNow * 64

/-- RTC_ERROR_CHECK, R144: while LOCKED the difference goes to RTC_ERROR, in µs; above 1 ms, or when UTC_OFFSET has changed, the
RTC is set at the next whole UTC second, and the setting recorded. -/
def execRtcErrorCheck (s : State) : Host.Outcome State Fault Refusal :=
  .next (if s.time.servoState = 2 then
      let d := s.rtcDiff64
      let (us, s1) := s.openDiv d 64000
      let s2 := s1.setObjN 0x2130 8 4 (enc 32 us)
      if 64000000 < d ∨ d < -64000000 ∨ s.time.offsetChanged = true then
        let sec := (s2.utcNow / 1000000000 + 1).toNat
        let s3 := s2.upTo (((sec : Int) + s2.objI 0x2100 2 16).toNat * 1000000000)
        let s4 := s3.rtcSetTo (Civil.ofSeconds (sec - unixTo2000))
        { (s4.record 0x02 2 0 (enc 32 us) 0) with time := { s4.time with offsetChanged := false } }
      else s2
    else s)

end Sys2Proof.Machine
end

