-- ==== Sys2Proof/Machine/Mtr.lean ====
section
/-! DEFINITION. Feeder metering: frames, cycles, energy registers, latches, phase events, power loss and reconciliation (R269 to
R302). -/

namespace Sys2Proof.Machine

/-! ## Numbers -/

/-- The greatest number whose square is at most n, from its bits. -/
def isqrt (n : Nat) : Nat :=
  (upFrom 0 (Nat.log2 n / 2 + 1)).foldr (fun k a => if (a + 2 ^ k) * (a + 2 ^ k) ≤ n then a + 2 ^ k else a) 0

/-- The square root of a quotient, rounded as the spec leaves open. -/
def openSqrt (num den : Nat) : Nat :=
  let r := isqrt (num / den)
  r + (if r * r * den = num then 0 else b2n (Config.roundUp num den))

/-- The sample code of full scale, which is not 0. -/
def fullScale : Nat := Config.fsCode + 1

/-- Full scale in the units of a corrected sample: the sample code times 2^38 (R278, Table 9.12). -/
def fsUnits : Nat := fullScale * 2 ^ 38

/-- A sample with its input's live corrections, exactly, in units of 2^-38 of the sample code: an inverted bitstream changes the sign, OFFSET is
added, then GAIN applied (R271, R302, R386, Table 9.12). -/
def State.corrected (s : State) (n : Nat) (raw : Int) : Int :=
  let x := if s.rdB (Reg.MTR_IN_CFG n) 2 then -raw else raw
  (x * 256 + sx 32 (s.rd (Reg.MTR_CORR_OFFSET n)).toNat) * ((s.rd (Reg.MTR_CORR_GAIN n)).toNat : Int)

/-- Object 0x2600:11: a metering counter advances: 0 OVERRUNS, 1 CONCEALED_CYCLES, 2 SYNTHETIC_CYCLES, 3 FLYWHEEL_FRAMES,
4 LATCHES, 5 ROUTE_CHANGES. -/
def State.mtrCount (s : State) (k : Nat) : State := s.bumpU32 0x2600 0x11 k 1

/-- A bit of MTR_INT_STAT set. -/
def State.mtrInt (s : State) (i : Nat) : State := s.wrB Reg.MTR_INT_STAT i true

/-- An input's state. -/
def State.mtrIn (s : State) (n : Nat) : MtrInput := s.mtr.inputs.getD n {}

/-- Flags joined to those of the latch interval in progress (Table 9.3). -/
def State.latchFlag (s : State) (bits : Nat) : State := { s with mtr := { s.mtr with flags := s.mtr.flags ||| bits } }

/-! ## Frames -/

/-- R270, R277: is an input's bitstream clock there: MOD_CLK for a clocked input, its own for a self-clocked one (SYS_CLKMON.MOD)? -/
def State.streamOk (s : State) (n : Nat) : Bool :=
  if s.selfClocked n then s.clockPresent (.mod ⟨n % 10, Nat.mod_lt _ (by decide)⟩) else s.rdB Reg.MTR_CTRL 2

/-- R274: RATE_ERR: an enabled input's bit rate divided by SINC_RATIO lies outside 64 to 170 kHz. -/
def State.rateErr (s : State) (n : Nat) : Bool :=
  let rate := if s.selfClocked n then Config.bitRate n else if s.rdB Reg.MTR_CTRL 3 then 20000000 else 10000000
  let ratio := s.rdF (Reg.MTR_IN_CFG n) 15 8
  s.rdB (Reg.MTR_IN_CFG n) 0 && (Nat.blt rate (64000 * ratio) || Nat.blt (170000 * ratio) rate)

/-- R274, R277: may an input yield valid samples? -/
def State.inputValid (s : State) (n : Nat) : Bool := s.streamOk n && !s.rateErr n

/-- R277: the sample of an input in the frame nearest to one cycle period earlier. -/
def State.concealed (s : State) (n : Nat) (t : Ns) : Int :=
  let want := t - s.mtr.period
  let dist (f : MtrFrame) : Nat := max f.time want - min f.time want
  match s.mtr.frames.foldl (fun (b : Option MtrFrame) f =>
    match b with
    | none => some f
    | some g => if dist f < dist g then some f else some g) none with
  | some f => f.vals.getD n 0
  | none => 0

/-- R277, R278: one input's sample in a frame: what is used, and the marks it leaves. -/
def State.takeSample (t : Ns) (acc : State × List Int) (n : Nat) (raw : Option Int) : State × List Int :=
  let (s, l) := acc
  let i := s.mtrIn n
  if !s.rdB (Reg.MTR_IN_CFG n) 0 then (s, l ++ [0])
  else
    match (if s.inputValid n then raw else none) with
    | none =>
      ({ s with mtr := { s.mtr with inputs := setAt s.mtr.inputs n { i with bad := true }, cycleFlags := s.mtr.cycleFlags ||| 2 ^ 9 } },
        l ++ [s.concealed n t])
    | some r =>
      if 9 * fullScale < 8 * r.natAbs then
        (((({ s with mtr := { s.mtr with inputs := setAt s.mtr.inputs n { i with above := true }, cycleFlags := s.mtr.cycleFlags ||| 2 ^ 8 } }).wrB
          (Reg.MTR_IN_STAT n) 17 true).mtrInt 5), l ++ [s.corrected n r])
      else (s, l ++ [s.corrected n r])

/-- R279: a staged route due applies at this frame. -/
def State.routeApply (s : State) : State :=
  match s.mtr.routeDue with
  | some w =>
    let s1 := ({ s with mtr := { s.mtr with routeDue := none } }).wr Reg.MTR_ROUTE w
    ((s1.wrB Reg.MTR_ROUTE_STAT 0 (s.rdB Reg.MTR_ROUTE_STAT 0 && !decide (s.rd Reg.MTR_ROUTE_NEXT = w))).mtrInt 7).mtrCount 5
  | none => s

/-- SAMPLE_FRAME, R275: a frame with one sample of every input, none where the input gives no valid one. In current-only metering
only the positions of currents are sampled (R294). -/
def State.mtrFrame (s : State) (t : Ns) (half : Nat) (samples : List (Option Int)) : State :=
  let s1 := s.routeApply
  let route := s1.rd Reg.MTR_ROUTE
  let used (n : Nat) : Bool := !s1.rdB Reg.MTR_CTRL 1 || (upFrom 4 4).any (fun p => Nat.beq (fld route (4 * p + 3) (4 * p)) n)
  let r := (upFrom 0 10).foldl (fun a n => if used n then State.takeSample t a n (samples.getD n none) else (a.1, a.2 ++ [0])) (s1, [])
  let s2 := r.1
  { s2 with mtr := { s2.mtr with frames := s2.mtr.frames ++ [{ time := t, half := half, vals := r.2, route := route }] } }

/-- The instant of the last frame. -/
def State.lastFrame (s : State) : Option Ns := (s.mtr.frames.getLast?).map (fun f => f.time)

/-- R291: is the stop frame past: the first frame from the instant at which metering is to stop? -/
def State.pastStop (s : State) : Bool :=
  match s.mtr.stopAt, s.lastFrame with
  | some u, some p => Nat.ble u p
  | _, _ => false

/-- R43, R291: does MTR make frames at full rate now? -/
def State.fullRate (s : State) : Bool := s.rdB Reg.MTR_CTRL 0 && !s.rdB Reg.MTR_CTRL 1 && !s.mtr.stopped && !s.pastStop

/-- R276: a firing of unit 8 at 62,500 ns ± 250 ns after the previous frame makes a frame; outside the range it makes none. -/
def State.mtrFire (s : State) (t : Ns) (samples : List (Option Int)) : State :=
  if !s.fullRate then s
  else
    match s.lastFrame with
    | none => (s.mtrFrame t 31250 samples).wrB Reg.MTR_STATUS 5 false
    | some p => if p + 62250 ≤ t ∧ t ≤ p + 62750 then (s.mtrFrame t 31250 samples).wrB Reg.MTR_STATUS 5 false else s

/-- FLYWHEEL_FRAME, R276: with no firing in range MTR makes a frame by its own count. -/
def execFlywheelFrame (t : Nat) (samples : List (Option Int)) (s : State) : Host.Outcome State Fault Refusal :=
  .next (match s.lastFrame with
    | some p =>
      if s.fullRate && Nat.blt (p + 62750) (s.upTo t).time.now then
        (((((s.upTo t).mtrFrame (p + 62500) 31250 samples).bump Reg.MTR_FLYWHEEL 1).mtrCount 3).mtrInt 6).wrB Reg.MTR_STATUS 5 true
      else s
    | none => s)

/-- CURRENT_ONLY_FRAME, R294: every 500 µs by MTR's own count. -/
def execCurrentOnlyFrame (samples : List (Option Int)) (s : State) : Host.Outcome State Fault Refusal :=
  .next (if s.rdB Reg.MTR_CTRL 0 && s.rdB Reg.MTR_CTRL 1 then
      s.mtrFrame ((match s.lastFrame with
        | some p => p + 500000
        | none => 0)) 250000 samples
    else s)

/-- MODULATOR_OVERRUN, R277: an input's queue overran: its samples are invalid until its filters settle, which its frames show. -/
def execModulatorOverrun (n : Fin 10) (s : State) : Host.Outcome State Fault Refusal :=
  .next (
    let a := Reg.MTR_IN_STAT n.val
    let i := s.mtrIn n.val
    ((({ s with mtr := { s.mtr with inputs := setAt s.mtr.inputs n.val { i with bad := i.bad || s.rdB (Reg.MTR_IN_CFG n.val) 0 } } }).wrF a 15 0 (min 0xFFFF (s.rdF a 15 0 + 1))).mtrInt 3).mtrCount 0)

/-- R279: does a staged route name one input at two positions, or one above 9? -/
def routeBad (w : Word) : Bool :=
  let l := (upFrom 0 8).map (fun p => fld w (4 * p + 3) (4 * p))
  l.any (fun n => Nat.ble 10 n) || !(Nat.beq l.eraseDups.length 8)

/-- R279: a firing of unit 9: the staged route applies at the next frame, or is refused. -/
def State.routeFire (s : State) : State :=
  if s.rdB Reg.MTR_ROUTE_STAT 0 then
    if routeBad (s.rd Reg.MTR_ROUTE_NEXT) then ((s.wrB Reg.MTR_ROUTE_STAT 0 false).wrB Reg.MTR_ROUTE_STAT 1 true).mtrInt 8
    else { s with mtr := { s.mtr with routeDue := some (s.rd Reg.MTR_ROUTE_NEXT) } }
  else s

/-- R279: a write of MTR_ROUTE_NEXT. -/
def State.routeStage (s : State) (w : Word) : State := ((s.wr Reg.MTR_ROUTE_NEXT w).wrB Reg.MTR_ROUTE_STAT 0 true).wrB Reg.MTR_ROUTE_STAT 1 false

/-! ## One cycle -/

/-- R269, R279: the sample of a position in a frame; a FAILED input's position reads 0 (R277). -/
def State.posVal (s : State) (p : Nat) (f : MtrFrame) : Int :=
  let n := fld f.route (4 * p + 3) (4 * p)
  if s.rdB (Reg.MTR_IN_STAT n) 19 then 0 else f.vals.getD n 0

/-- R281: the part of a frame's interval that lies in [a, b). -/
def MtrFrame.weight (f : MtrFrame) (a b : Ns) : Nat := min (f.time + f.half) b - max (f.time - f.half) a

/-- The weighted sum of a function of the frame over the cycle [a, b). -/
def State.cycleSum (s : State) (a b : Ns) (g : MtrFrame → Int) : Int :=
  s.mtr.frames.foldl (fun acc f => acc + (f.weight a b : Nat) * g f) 0

/-- R282: a phase-to-neutral voltage in a frame. -/
def State.phaseV (s : State) (p : Nat) (f : MtrFrame) : Int := s.posVal p f - s.posVal 3 f

/-- A signal as instants and values. -/
def State.signal (s : State) (g : MtrFrame → Int) : List (Nat × Int) := s.mtr.frames.map (fun f => (f.time, g f))

/-- R282: Σ w v² of V1N, V2N, V3N and VNE. -/
def State.sumV2 (s : State) (a b : Ns) : List Nat :=
  (upFrom 0 4).map (fun p => (s.cycleSum a b (fun f => let v := if p = 3 then s.posVal 3 f else s.phaseV p f; v * v)).toNat)

/-- R282: Σ w i² of I1, I2, I3 and IN. -/
def State.sumI2 (s : State) (a b : Ns) : List Nat :=
  (upFrom 0 4).map (fun p => (s.cycleSum a b (fun f => s.posVal (4 + p) f * s.posVal (4 + p) f)).toNat)

/-- R282: Σ w v i of the phases and their total. -/
def State.sumP (s : State) (a b : Ns) : List Int :=
  let l := (upFrom 0 3).map (fun p => s.cycleSum a b (fun f => s.phaseV p f * s.posVal (4 + p) f))
  l ++ [l.foldl (fun x y => x + y) 0]

/-- R282: Σ w v′ i of the phases and their total, v′ one quarter period earlier. -/
def State.sumQ (s : State) (a b : Ns) : List Int :=
  let l := (upFrom 0 3).map (fun p => let sig := s.signal (s.phaseV p)
    s.cycleSum a b (fun f => Config.delayed sig (f.time - (b - a) / 4) * s.posVal (4 + p) f))
  l ++ [l.foldl (fun x y => x + y) 0]

/-- A setting in force: 0 NOMINAL_FREQ, 1 NOMINAL_VOLTAGE, 2 V_FULL_SCALE, 3 I_FULL_SCALE (R273). -/
def State.mtrRun (s : State) (k : Nat) : Nat := s.mtr.run.getD k 0

/-- R280: was each phase-to-neutral voltage present over the cycle? -/
def State.presence (s : State) (t : Nat) (v2 : List Nat) : List Bool :=
  (upFrom 0 3).map (fun p => Nat.ble (t * fsUnits ^ 2 * (s.objN 0x2600 0x0D * s.mtrRun 1) ^ 2) (v2.getD p 0 * s.mtrRun 2 ^ 2))

/-- R289: I_p at least CWV_CURRENT over the cycle? -/
def State.currentHigh (s : State) (t : Nat) (i2 : List Nat) (p : Nat) : Bool :=
  Nat.ble (t * fsUnits ^ 2 * s.objN 0x2600 0x0F ^ 2) (i2.getD p 0 * s.mtrRun 3 ^ 2)

/-- The squares of the rms voltages, in 0.01 V and of the currents in mA, share these denominators. -/
def rmsDen (t : Nat) : Nat := t * fsUnits ^ 2

/-- R282, R283: object 0x2620 and the cycle registers for a cycle [a, b). -/
def State.cycleResults (s : State) (a b : Ns) (v2 i2 : List Nat) (p q : List Int) : State :=
  let t := b - a
  let vf := s.mtrRun 2
  let fi := s.mtrRun 3
  let d := rmsDen t
  let volts := (upFrom 0 4).flatMap (fun k => toLE 4 (openSqrt (v2.getD k 0 * vf ^ 2 * 100) d))
  let amps := (upFrom 0 4).flatMap (fun k => toLE 4 (openSqrt (i2.getD k 0 * fi ^ 2) d))
  let power (l : List Int) : List Byte := (upFrom 0 4).flatMap (fun k => toLE 4 (enc 32 (openRound (l.getD k 0 * vf * fi) (d * 10000))))
  let s2 (k : Nat) : Nat := v2.getD k 0 * i2.getD k 0 * vf ^ 2 * fi ^ 2
  let fine (k : Nat) : Nat := openSqrt (s2 k) (d * d)
  let app (k : Nat) : Nat := if k < 3 then fine k else fine 0 + fine 1 + fine 2
  let pf (k : Nat) : Int :=
    if app k = 0 then 0 else openRound (p.getD k 0 * vf * fi * 10000) (app k * d)
  let ang := (upFrom 1 2).flatMap (fun k => toLE 2 (enc 16 (Config.angle (s.signal (s.phaseV k)) (s.signal (s.phaseV 0)))))
  let sig (c : Nat) : List (Nat × Int) := s.signal (if c < 3 then s.phaseV c else s.posVal (c + 1))
  let mags (c : Nat) : List Nat := (upFrom 2 49).map (fun h => Config.harmonic (sig c) h % 2 ^ 16)
  let harm := (upFrom 0 7).flatMap (fun c => (mags c).flatMap (toLE 2))
  let thd := (upFrom 0 7).flatMap (fun c => toLE 2 (min 0xFFFF (openSqrt ((mags c).foldl (fun a m => a + m * m) 0) 1)))
  let o (sub : Nat) (l : List Byte) (u : State) : State := u.setObj 0x2620 sub l
  let s1 := o 1 (toLE 4 (openRound 1000000000000000 t).toNat) (o 2 volts (o 3 amps (o 4 (power p) (o 5 (power q)
    (o 6 ((upFrom 0 4).flatMap (fun k => toLE 4 (openRound (app k) 10000).toNat)) (o 7 ((upFrom 0 4).flatMap (fun k => toLE 2 (enc 16 (pf k))))
      (o 8 ang (o 9 harm (o 0x0A thd (o 0x0B (time80 b) s))))))))))
  let s2 := ((s1.bump Reg.MTR_CYCLE_SEQ 1).wrN Reg.MTR_CYCLE_STAMP (b % 2 ^ 32)).wrN Reg.MTR_CYCLE_PERIOD t
  (s2.setObjN 0x2620 0x0C 4 (s2.rd Reg.MTR_CYCLE_SEQ).toNat).mtrInt 0

/-! ## Energy -/

/-- R285: one µWh in the units of Σ w v i × V_FULL_SCALE × I_FULL_SCALE. -/
def microWh : Nat := fsUnits ^ 2 * 360000000000

/-- The object of energy register k of Table 9.3. -/
def energyObj (k : Nat) : Nat × Nat := (if k < 8 then 0x2610 else 0x2611, k % 8 + 1)

/-- R285: an amount added to register k: whole units advance it, the rest is carried. -/
def State.book (s : State) (k unit x : Nat) (obj : Nat × Nat) : State :=
  let tot := s.mtr.carries.getD k 0 + x
  let n := tot / unit
  let s1 := { s with mtr := { s.mtr with carries := setAt s.mtr.carries k (tot % unit),
                                         advanced := if n = 0 then s.mtr.advanced else s.mtr.advanced ||| 2 ^ k } }
  s1.setObjN obj.1 obj.2 8 ((s.objN obj.1 obj.2 + n) % 2 ^ 64)

/-- R284: a cycle's net energy goes whole to the import register of its pair, or to the export register. -/
def State.bookNet (s : State) (pair : Nat) (e : Int) : State :=
  let k := if 0 ≤ e then pair else pair + 4
  s.book k microWh e.natAbs (energyObj k)

/-- R284: the cycle's active and reactive energies; the order of `p` and `q` is phases 1 to 3, total. -/
def State.bookCycle (s : State) (p q : List Int) : State :=
  let scale : Int := (s.mtrRun 2 * s.mtrRun 3 : Nat)
  let reg (k : Nat) : Nat := (k + 1) % 4
  (upFrom 0 4).foldl (fun t k => (t.bookNet (reg k) (p.getD k 0 * scale)).bookNet (8 + reg k) (q.getD k 0 * scale)) s

/-- R290: I_p × T added to the ampere-hour registers. -/
def State.bookAh (s : State) (t : Nat) (i2 : List Nat) (high : List Bool) : State :=
  let add (u : State) (p : Nat) : State :=
    u.book (16 + p) 3600000000000000 (openSqrt (i2.getD p 0 * s.mtrRun 3 ^ 2 * 1000000000000) (rmsDen t) * t) (0x2640, p + 1)
  let s1 := (upFrom 0 3).foldl (fun u p => if high.getD p false then add u p else u) s
  if high.any (fun x => x) then add s1 3 else s1

/-! ## Phase events -/

/-- R289: one event's runs at a boundary: set and clear after EVENT_CYCLES cycles; each change is counted and recorded with the
boundary's time. -/
def State.eventStep (b : Ns) (s : State) (e : Nat) (cond clear : Bool) : State :=
  let (up, down) := s.mtr.runs.getD e (0, 0)
  let up1 := if cond then up + 1 else 0
  let down1 := if clear then down + 1 else 0
  let n := s.objN 0x2600 0x10
  let set := s.rdB Reg.MTR_EVENT_STAT e
  let s1 := { s with mtr := { s.mtr with runs := setAt s.mtr.runs e (up1, down1) } }
  let note (v : Bool) (t : State) : State :=
    (((t.wrB Reg.MTR_EVENT_STAT e v).bumpObj 0x2630 (if e < 2 then 2 + e else 4) 4).mtrInt 2).recordAt
      (if s.time.loaded then b else s.eventTime) 0x0A 2 e (b2n v) 0
  if !set && Nat.ble n up1 then note true s1 else if set && Nat.ble n down1 then note false s1 else s1

/-- R289, R290: the events of Table 9.6, ACTIVE and the latch flag PHASE_EVENT. -/
def State.phaseEvents (s : State) (b : Ns) (t : Nat) (v2 : List Nat) (here high : List Bool) : State :=
  let cur := s.rdB Reg.MTR_CTRL 1
  let all := here.all (fun x => x)
  let ang := sx 16 (leAt (s.obj 0x2620 8) 0 2)
  let vne (k : Nat) : Nat := t * fsUnits ^ 2 * (k * s.objN 0x2600 0x0E) ^ 2
  let v := v2.getD 3 0 * s.mtrRun 2 ^ 2
  let s1 := if cur then s else
    State.eventStep b (State.eventStep b s 0 (all && decide (9000 ≤ ang ∧ ang ≤ 15000)) (all && decide (-15000 ≤ ang ∧ ang ≤ -9000)))
      1 (Nat.blt (vne 10) v) (Nat.blt v (vne 8))
  let s2 := (upFrom 0 3).foldl (fun u p => State.eventStep b u (2 + p) (high.getD p false) (!high.getD p false)) s1
  let act := !(Nat.beq (s2.rdF Reg.MTR_EVENT_STAT 4 0) 0)
  let s3 := s2.wrB Reg.MTR_EVENT_STAT 5 act
  let s4 := s3.setObjN 0x2630 1 1 (s3.rdF Reg.MTR_EVENT_STAT 5 0)
  if act then s4.latchFlag (2 ^ 11) else s4

/-! ## Latches -/

/-- The 16 energy and 4 ampere-hour registers. -/
def State.energyRegs (s : State) : List Nat :=
  (upFrom 0 16).map (fun k => s.objN (energyObj k).1 (energyObj k).2) ++ (upFrom 1 4).map (fun p => s.objN 0x2640 p)

/-- R288, R395: the metering state saved; the older of the two copies gives way. -/
def State.mtrSave (s : State) (periodic : Bool) : State :=
  let v : MtrSave := { regs := s.energyRegs, carries := s.mtr.carries, cycles := s.mtr.cycles, latch := s.mtr.latchRec,
                       calState := s.objN 0x2A00 1, periodic := periodic }
  { s with mtr := { s.mtr with saves := v :: s.mtr.saves.take 1 } }

/-- R286: the MIXED flags. -/
def mixedFlags (adv : Nat) : Nat :=
  let pair (k : Nat) : Bool := Nat.testBit adv k && Nat.testBit adv (k + 4)
  b2n (pair 1) + 2 * b2n (pair 2) + 4 * b2n (pair 3) + 8 * b2n (pair 0) + 16 * b2n ((upFrom 8 4).any pair)

/-- R286, R288: a latch at a boundary: its record, the save and the bulk log. -/
def State.latch (s : State) (b : Ns) : State :=
  let seq := (s.mtr.latchSeq + 1) % 2 ^ 32
  let fl := s.mtr.flags ||| mixedFlags s.mtr.advanced ||| (if s.rdB Reg.MTR_CTRL 4 then 2 ^ 12 else 0)
  let rec_ := toLE 4 seq ++ time80 b ++ toLE 2 s.mtr.cycles ++ toLE 2 fl ++ (s.energyRegs.take 16).flatMap (fun v => toLE 8 v)
  let s1 := ((s.setObj 0x2612 1 rec_).mtrInt 1).mtrCount 4
  let s2 := { s1 with mtr := { s1.mtr with latchSeq := seq, latchRec := rec_, cycles := 0, flags := 0, advanced := 0,
                                           runN := max 1 (s.rdF Reg.MTR_LATCH_CTRL 15 0), bulk := s1.mtr.bulk ++ [rec_] } }
  let s3 := if Nat.testBit fl 10 then s2 else { s2 with upd := { s2.upd with latched := true } }
  s3.mtrSave false

/-- LATCH_VIEW, R287: a read of MTR_LATCH_SEQ copies the latest record into the reader's view. -/
def State.latchView (s : State) (ini : Nat) : State :=
  { s with mtr := { s.mtr with views := s.mtr.views.filter (fun (e : Nat × List Byte) => !(Nat.beq e.1 ini)) ++ [(ini, s.mtr.latchRec)] } }

/-- LATCH_VIEW. -/
def execLatchView (ini : Initiator) (s : State) : Host.Outcome State Fault Refusal :=
  .next (s.permGate ini Reg.MTR_LATCH_SEQ false (fun t => (t.latchView ini.number).answer (BitVec.ofNat 32 (leAt t.mtr.latchRec 0 4))))

/-! ## Boundaries -/

/-- R277: an input at the end of a cycle: FAILED after 2 cycles with invalid samples, until a whole cycle of valid ones. -/
def State.inputCycle (s : State) (n : Nat) : State :=
  let i := s.mtrIn n
  let a := Reg.MTR_IN_STAT n
  let run := if i.bad then i.badRun + 1 else 0
  let s1 := { s with mtr := { s.mtr with inputs := setAt s.mtr.inputs n { bad := s.rdB (Reg.MTR_IN_CFG n) 0 && !s.inputValid n, above := false, badRun := run } } }
  let s2 := if i.above then s1 else s1.wrB a 17 false
  let s3 := if Nat.ble 2 run && !s.rdB a 19 then (((s2.wrB a 19 true).mtrInt 4).record 0x0A 4 n 0 0).raiseActive 19
    else if !i.bad && s.rdB a 19 then s2.wrB a 19 false else s2
  let failed := s3.rdB a 19
  let s4 := s3.wrB Reg.MTR_STATUS (16 + n) (s.rdB (Reg.MTR_IN_CFG n) 0 && !i.bad && !failed)
  if failed then s4.latchFlag (2 ^ 10) else s4

/-- R277: every input at the end of a cycle; MTR_INPUT is held while one is FAILED. -/
def State.inputsCycle (s : State) : State :=
  let s1 := (upFrom 0 10).foldl State.inputCycle s
  if (upFrom 0 10).any (fun n => s1.rdB (Reg.MTR_IN_STAT n) 19) then s1 else s1.unhold 19

/-- R298: the lanterns that count toward reconciliation now. -/
def State.countedNow (s : State) : List Nat :=
  s.listedCards.filter (fun n => s.ctlLantern n && !(Nat.beq (s.card n 0x60) 0xFF))

/-- R297, R298: a cycle's share of its interval; `old` is the state before the cycle's energy was booked. -/
def State.reconCycle (s old : State) (b : Ns) (i2 : List Nat) (spans : Bool) : State :=
  let a := s.accAt b
  let grew (k : Nat) : Int := ((s.objN (energyObj k).1 (energyObj k).2 + 2 ^ 64 - old.objN (energyObj k).1 (energyObj k).2) % 2 ^ 64 : Nat)
  let net (k : Nat) : Int := grew k - grew (k + 4)
  s.setAcc { a with
    flags := a.flags ||| 32 ||| (if Nat.testBit s.mtr.flags 5 then 2 else 0) ||| (if spans then 4 else 0) ||| (if s.rdB Reg.MTR_CTRL 4 then 8 else 0),
    feeder := mapFrom (fun k v => v + net ((k + 1) % 4)) 0 a.feeder,
    i2t := mapFrom (fun k v => v + i2.getD k 0 * s.mtrRun 3 ^ 2) 0 a.i2t,
    lanterns := union a.lanterns s.countedNow }

/-- R270, R274, Table 9.12: the metering inputs and MOD_CLK from their objects; a clocked input's SINC ratio is 125. -/
def State.mtrApply (s : State) : State :=
  let style := s.objN 0x2600 5
  let s1 := (upFrom 0 10).foldl (fun (t : State) n => State.modStyled (
    let self := Nat.testBit style n
    let sinc := if self then max 32 (leAt (s.obj 0x2600 8) n 1) else 125
    ((((t.wrB (Reg.MTR_IN_CFG n) 0 true).wrB (Reg.MTR_IN_CFG n) 1 self).wrF (Reg.MTR_IN_CFG n) 15 8 sinc).wrF (Reg.MTR_IN_CFG n) 31 16
      (leAt (s.obj 0x2600 7) (2 * n) 2))) n) s
  s1.wrB Reg.MTR_CTRL 3 (Nat.beq (s.objN 0x2600 6) 20)

/-- R273: NOMINAL_FREQ, NOMINAL_VOLTAGE and the full scales in force. -/
def State.mtrLevels (s : State) : State :=
  { s with mtr := { s.mtr with run := [s.objN 0x2600 1, s.objN 0x2600 2, s.objN 0x2600 3, s.objN 0x2600 4] } }

/-- Table 2.1: is anything metered in the mode? -/
def meters (m : Mode) : Bool :=
  match m with
  | .provision | .deepSleep | .starting => false
  | _ => true

/-- R293: metering resumes at the first valid crossing. -/
def State.mtrResume (s : State) : State :=
  { s with mtr := { s.mtr with stopped := false, stopAt := none, boundary := none, frames := [], measured := false } }

/-- R299: outside 16 ksps metering, and as it begins, the interval in progress cannot be complete. -/
def State.reconGap (s : State) : State :=
  let m := s.mtr
  if s.time.loaded && (!s.rdB Reg.MTR_CTRL 0 || s.rdB Reg.MTR_CTRL 1 || m.boundary.isNone) then
    let a := s.accAt s.time.now
    s.setAcc { a with flags := a.flags ||| 64 }
  else s

/-- Table 2.1, R270, R293, R294, R296: metering in a mode. Where it begins, the first latch has GAP set and unit 8 is armed on its grid. -/
def State.mtrProfileNow (s : State) (m : Mode) : State :=
  let run := meters m
  let cur := decide (m = .batteryWatch)
  let was := s.rdB Reg.MTR_CTRL 0
  let s0 := { s with mtr := { s.mtr with profileDue := none } }
  let s1 := (s0.wrF Reg.MTR_CTRL 2 0 (b2n run + 2 * b2n cur + 4 * b2n run)).wrB Reg.MTR_CTRL 4 (decide (m = .standby))
  let s2 := (s1.wrB Reg.MTR_STATUS 0 run).wrB Reg.MTR_STATUS 1 cur
  let s3 := if run && (!was || s.mtr.stopped) then (s2.latchFlag (2 ^ 5)).mtrResume.reconGap else s2.reconGap
  if run && !cur then
    if s3.trigArmed 8 || !s3.time.loaded then s3 else s3.trigSet 8 ((s3.time.now / 62500 + 1) * 250000) 62500
  else s3.trigDisarm 8

/-- R43: the metering of a mode from the next zero crossing on, while the meter runs and a voltage is present; else at once. -/
def State.mtrProfile (s : State) (m : Mode) : State :=
  if s.rdB Reg.MTR_CTRL 0 && !s.mtr.stopped && s.mtr.present.any id && s.rdB Reg.AON_STATUS 0 then
    { s with mtr := { s.mtr with profileDue := some m } }
  else s.mtrProfileNow m

/-- R43, R273: the profile of a mode entered meanwhile and settings of the metrological objects take effect at a boundary, and an ENERGY_RESET
with them. -/
def State.mtrSettings (s : State) : State :=
  let t := match s.mtr.profileDue with
    | some m => s.mtrProfileNow m
    | none => s
  let s0 := (if t.mtr.styleDue then t.mtrApply else t).mtrLevels
  let s1 := { s0 with mtr := { s0.mtr with styleDue := false } }
  if s.mtr.resetDue then
    let s2 := (upFrom 0 16).foldl (fun t k => t.setObjN (energyObj k).1 (energyObj k).2 8 0) s1
    let s3 := (upFrom 1 4).foldl (fun t p => t.setObjN 0x2640 p 8 0) s2
    { s3 with mtr := { s3.mtr with resetDue := false, carries := List.replicate 20 0 } }
  else s1

/-- R280: the reference phase: the first whose voltage is present; 0 for none. -/
def refOf (here : List Bool) : Nat := if here.getD 0 false then 1 else if here.getD 1 false then 2 else if here.getD 2 false then 3 else 0

/-- R277, R278, R280: the flags of a cycle that ends join the latch interval's, and its counters advance. -/
def State.cycleMarks (s : State) (synthetic : Bool) : State :=
  let s0 := (s.inputsCycle).latchFlag (s.mtr.cycleFlags ||| (if synthetic then 2 ^ 7 else 0) ||| (if s.mtr.spans then 2 ^ 13 else 0) |||
    (if s.rdB Reg.MTR_CTRL 4 then 2 ^ 12 else 0))
  let s1 := if Nat.testBit s.mtr.cycleFlags 9 then s0.mtrCount 1 else s0
  if synthetic then s1.mtrCount 2 else s1

/-- R280: the reference phase wanted since the last boundary takes effect at this one. -/
def State.refApply (s : State) : State :=
  let ref := s.mtr.wanted
  (if s.rdF Reg.MTR_STATUS 4 3 = ref then s else (s.wrF Reg.MTR_STATUS 4 3 ref).latchFlag (2 ^ 6)).wrB Reg.MTR_STATUS 2 (!(Nat.beq ref 0))

/-- The next cycle begins at b; frames older than the cycle just ended are dropped. -/
def State.cycleNext (s : State) (a b : Ns) (here : List Bool) : State :=
  let m := s.mtr
  { s with mtr := { m with
    boundary := some b, period := b - a, wanted := refOf here, present := here, measured := true, cycles := m.cycles + 1, cycleFlags := 0, spans := false,
    frames := m.frames.filter (fun (f : MtrFrame) => Nat.ble a (f.time + f.half)) } }

/-- R286: the latch, at the boundary of the interval's last cycle. -/
def State.latchIf (s : State) (b : Ns) : State := if Nat.ble s.mtr.runN s.mtr.cycles then s.latch b else s

/-- R282 to R290: the cycle [a, b): its quantities, energy, events and share of reconciliation. -/
def State.cycleWork (s : State) (a b : Ns) (spans : Bool) : State :=
  let t := b - a
  let cur := s.rdB Reg.MTR_CTRL 1
  let v2 := s.sumV2 a b
  let i2 := s.sumI2 a b
  let p := s.sumP a b
  let q := s.sumQ a b
  let here := if cur then [false, false, false] else s.presence t v2
  let high := (upFrom 0 3).map (fun k => s.currentHigh t i2 k && !here.getD k false)
  let s3 := s.cycleResults a b v2 i2 p q
  let s4 := (if cur then s3 else s3.bookCycle p q).bookAh t i2 high
  let s5 := s4.reconCycle s3 b i2 spans
  ((s5.phaseEvents b t v2 here high).refApply).cycleNext a b here

/-- R292: a byte range of the restart record replaced. -/
def State.outagePut (s : State) (off : Nat) (b : List Byte) : State :=
  let v := s.obj 0x2660 1
  s.setObj 0x2660 1 (v.take off ++ b ++ v.drop (off + b.length))

/-- R292: RTC seconds since 2000. -/
def State.rtcSeconds (s : State) : Nat := s.civil.seconds

/-- R280 to R290: a cycle ends at a boundary: its quantities, its energy, the events, the latch. -/
def State.cycleEnd (s : State) (b : Ns) (synthetic : Bool) : State :=
  let s1 := s.cycleMarks synthetic
  match s.mtr.boundary with
  | none =>
    let s2 := if s1.mtr.resumeDue then s1.outagePut 42 (toLE 4 s1.rtcSeconds) else s1
    { s2 with mtr := { s2.mtr with boundary := some b, cycleFlags := 0, spans := false, resumeDue := false } }.mtrSettings
  | some a => ((s1.cycleWork a b s.mtr.spans).latchIf b).mtrSettings

/-- R280: the length of a cycle at NOMINAL_FREQ. -/
def State.nominalPeriod (s : State) : Nat := (openRound 1000000000 (s.mtrRun 0)).toNat

/-- R280: does a crossing at b give a frequency in the range of NOMINAL_FREQ? -/
def State.crossingValid (s : State) (b : Ns) : Bool :=
  match s.mtr.boundary with
  | none => true
  | some a =>
    let t := b - a
    let (lo, hi) := if s.mtrRun 0 = 60 then (510, 690) else (425, 575)
    Nat.blt 0 t && Nat.ble (lo * t) 10000000000 && Nat.ble 10000000000 (hi * t)

/-- R291: does a boundary at b still end a cycle: is it at or before the stop frame? -/
def State.beforeStop (s : State) (b : Ns) : Bool :=
  match s.mtr.stopAt with
  | some _ => Nat.ble b ((s.lastFrame).getD 0) || !s.pastStop
  | none => true

/-- R280: a zero crossing of the reference voltage at b. Without a voltage present in the last cycle there is none. -/
def State.mtrCrossing (s : State) (b : Ns) : State :=
  if s.rdB Reg.MTR_CTRL 0 && !s.rdB Reg.MTR_CTRL 1 && !s.mtr.stopped && s.crossingValid b && s.beforeStop b &&
      (!s.mtr.measured || s.mtr.present.any id) then s.cycleEnd b false
  else s

/-- R280, R294: a synthetic boundary, where its time has come: 1 / NOMINAL_FREQ after the last. -/
def State.mtrSynthetic (s : State) : State :=
  match s.mtr.boundary with
  | none => if s.rdB Reg.MTR_CTRL 0 && s.rdB Reg.MTR_CTRL 1 then s.cycleEnd ((s.lastFrame).getD 0) true else s
  | some a =>
    let n := s.nominalPeriod
    if !s.rdB Reg.MTR_CTRL 0 || s.mtr.stopped || !s.beforeStop (a + n) then s
    else if s.rdB Reg.MTR_CTRL 1 then (if a + n ≤ (s.lastFrame).getD 0 + 250000 then s.cycleEnd (a + n) true else s)
    else if (if s.mtr.present.any (fun x => x) then a * 10 + 12 * n else a * 10 + 10 * n) ≤ s.time.now * 10 then s.cycleEnd (a + n) true
    else s

/-- R276, R280, R299: a step of the local clock: frames and boundary move to the new timescale; the cycle spans the step; the interval left and
the interval reached are stepped. -/
def State.mtrStepped (s : State) (change : Int) : State :=
  let mv (t : Ns) : Ns := ((t : Int) + change).toNat
  let mark (t : State) (x : Ns) : State :=
    let a := t.accAt x
    t.setAcc { a with flags := a.flags ||| 4 ||| (if 1000000000 ≤ change.natAbs then 16 else 0) }
  let s1 := mark (mark s ((s.time.now : Int) - change).toNat) s.time.now
  { s1 with mtr := { s1.mtr with
      stopAt := s1.mtr.stopAt.map mv, frames := s1.mtr.frames.map (fun (f : MtrFrame) => { f with time := mv f.time }), boundary := s1.mtr.boundary.map mv, spans := true } }

/-! ## Power loss, start, modes -/

/-- R286, R299: the intervals that hold a cycle of the latch in progress at an instant get GAP. -/
def State.gapAccs (s : State) (last : Ns) : State :=
  let s1 := s.setAcc (s.accAt last)
  let since := ofTime80 (slice s.mtr.latchRec 4 10)
  { s1 with mtr := { s1.mtr with accs := s1.mtr.accs.map (fun (a : ReconAcc) =>
      if since < a.start + s.objN 0x2650 1 * 1000000000 ∧ a.start ≤ last then { a with flags := a.flags ||| 2 } else a) } }

/-- R291, R292: metering stops at the stop frame: the save, the partial cycle's bound and the restart record's bytes 0 to 37. -/
def State.mtrStop (s : State) : State :=
  if s.rdB Reg.MTR_CTRL 0 && !s.mtr.stopped then
    let cut := (s.lastFrame).getD s.time.now
    let last := s.mtr.boundary.getD cut
    let scale : Int := (s.mtrRun 2 * s.mtrRun 3 : Nat)
    let bound (p : Nat) : Nat :=
      (((s.cycleSum last (cut + 31250) (fun f => ((s.phaseV p f * s.posVal (4 + p) f).natAbs : Int))) * scale).toNat + microWh - 1) / microWh
    let old := s.obj 0x2660 1
    let r := time80 cut ++ time80 last ++ toLE 4 (cut - last) ++ (upFrom 0 3).flatMap (fun p => toLE 4 (bound p)) ++ [0, 0] ++ old.drop 38
    let s1 := (s.mtrSave false).setObj 0x2660 1 r
    let s2 := s1.gapAccs last
    ({ s2 with mtr := { s2.mtr with stopped := true, stopAt := none, outageOpen := true, boundary := none, frames := [], flags := s2.mtr.flags ||| 2 ^ 5 } }).bumpObj 0x2660 2 4
  else s

/-- R288: the metering state taken from a save. -/
def State.mtrLoad (s : State) (v : MtrSave) : State :=
  let s1 := (upFrom 0 16).foldl (fun t k => t.setObjN (energyObj k).1 (energyObj k).2 8 (v.regs.getD k 0)) s
  let s2 := (upFrom 0 4).foldl (fun t p => t.setObjN 0x2640 (p + 1) 8 (v.regs.getD (16 + p) 0)) s1
  let s3 := s2.setObj 0x2612 1 v.latch
  { s3 with mtr := { s3.mtr with carries := v.carries, cycles := v.cycles, latchRec := v.latch, latchSeq := leAt v.latch 0 4, flags := 2 ^ 5 } }

/-- R288: the start takes the newer copy whose CRC passes, or the newest latch record in the bulk log, with MTR_STATE raised and the
event recorded; `bad` says which copies fail. -/
def State.mtrStart (s : State) (bad : Nat) : State :=
  match mapFrom (fun k v => (k, v)) 0 s.mtr.saves |>.find? (fun e => !Nat.testBit bad e.1) with
  | some e => s.mtrLoad e.2
  | none =>
    if s.mtr.saves.isEmpty then s
    else
      let r := (s.mtr.bulk.getLast?).getD (List.replicate 146 0)
      ((s.mtrLoad { regs := (upFrom 0 16).map (fun k => leAt r (18 + 8 * k) 8) ++ (upFrom 1 4).map (fun p => s.objN 0x2640 p),
                    carries := List.replicate 20 0, cycles := 0, latch := r, calState := s.objN 0x2A00 1, periodic := false }).record
        0x0A 3 0 (leAt r 0 4) 0).raise 20

/-! ## Reconciliation -/

/-- Pairs of a list's neighbours. -/
def neighbours {α : Type} : List α → List (α × α)
  | a :: b :: t => (a, b) :: neighbours (b :: t)
  | _ => []

/-- R298: a lantern's energy at an instant, in µWh, interpolated between reports at most 600 s apart. -/
def State.energyAt (s : State) (n : Nat) (t : Ns) : Option Int :=
  ((neighbours ((assoc? n s.mtr.energies).getD [])).find? (fun e =>
    Nat.ble e.1.1 t && Nat.ble t e.2.1 && Nat.blt e.1.1 e.2.1 && Nat.ble e.2.1 (e.1.1 + 600000000000))).map (fun e =>
      openRound ((e.1.2 * 100000 * (e.2.1 - e.1.1) + (e.2.2 + 2 ^ 32 - e.1.2) % 2 ^ 32 * 100000 * (t - e.1.1) : Nat) : Int) (e.2.1 - e.1.1))

/-- R298: a lantern's expected energy over [a, b) from the levels commanded, in µWh. -/
def State.energyExpected (s : State) (n : Nat) (a b : Ns) : Int :=
  let k := s.card n 0x30
  let h := (assoc? n s.mtr.levels).getD []
  let ends := (h.drop 1).map (fun e => e.1) ++ [b]
  (h.zip ends).foldl (fun acc e =>
    let from_ := max a e.1.1
    let dest := min b e.2
    let (p, d) := s.expected k e.1.2
    acc + openRound (p * ((dest - from_ : Nat) : Int)) (d * 36000000)) 0

/-- R298: a lantern's share of an interval: its energy in µWh, whether it was measured, whether estimated. -/
def State.lanternShare (s : State) (a b : Ns) (n : Nat) : Int × Bool × Bool :=
  if (s.obj (0x2510 + s.card n 0x30) 9).all (fun x => decide (x = 0)) then (0, false, false)
  else
    match s.energyAt n a, s.energyAt n b with
    | some x, some y => ((y - x) % ((2 ^ 32 * 100000 : Nat) : Int), true, false)
    | _, _ => (s.energyExpected n a b, false, true)

/-- An energy in µWh as I32 in 0.1 Wh. -/
def tenthWh (e : Int) : List Byte := toLE 4 (enc 32 (openRound e 100000))

/-- R299, R300: the alarm after a verdict (0 OK, 1 LOSS, 2 EXCESS): the run, whose length is 1,000 or more once it has set the alarm, and the
state with the alarm set, once for a run, or cleared. Answers whether this verdict set it. -/
def State.reconAlarm (s : State) (verdict : Nat) (residual : Int) : Bool × State :=
  let (k, n) := s.mtr.reconRun
  let run := if verdict = 0 then (0, 0) else if k = verdict then (k, n + 1) else (verdict, 1)
  let s1 := { s with mtr := { s.mtr with reconRun := run } }
  if verdict = 0 then (false, s1.setObjN 0x2650 0x0B 1 0)
  else if s.objN 0x2650 9 ≤ run.2 ∧ run.2 < 1000 then
    (true, ({ s1 with mtr := { s1.mtr with reconRun := (verdict, 1000) } }.setObjN 0x2650 0x0B 1 verdict).record 0x0A 5 verdict (enc 32 (openRound residual 100000)) 0)
  else (false, s1)

/-- R297 to R300: an interval evaluated. -/
def State.reconcile (s : State) (start : Ns) : State :=
  let stop := start + s.objN 0x2650 1 * 1000000000
  let acc := (s.mtr.accs.find? (fun a => Nat.beq a.start start)).getD { start := start, flags := 2 }
  let ls := acc.lanterns
  let shares := ls.map (fun n => (n, s.lanternShare start stop n))
  let cable (k : Nat) : Int := (leAt (s.obj 0x2650 3) (2 * k) 2 * acc.i2t.getD k 0 : Nat)
  let cabDen := fsUnits ^ 2 * 3600000000000000
  let eCable := openRound ((upFrom 0 4).foldl (fun a k => a + cable k) 0) cabDen
  let eCab := openRound ((s.objN 0x2650 4 * s.objN 0x2650 1 * 1000 : Nat) : Int) 36
  let eLan := shares.foldl (fun a e => a + e.2.1) 0
  let eFeed := acc.feeder.getD 3 0
  let res := eFeed - eLan - eCable - eCab
  let perPhase := !(ls.any (fun n => Nat.beq (s.card n 0x60) 0))
  let lanP (p : Nat) : Int := shares.foldl (fun a e =>
    let f := s.card e.1 0x60
    if f = p + 1 then a + e.2.1 else if f = 4 then a + openRound e.2.1 3 else a) 0
  let resP (p : Nat) : Int := acc.feeder.getD p 0 - lanP p - openRound (3 * cable p + cable 3) (3 * cabDen) -
    (if s.objN 0x2650 5 = p + 1 then eCab else 0)
  let measured := (shares.filter (fun e => e.2.2.1)).length
  let coverage := if ls.isEmpty then 100 else measured * 100 / ls.length
  let incomplete := !Nat.testBit acc.flags 5 || Nat.testBit acc.flags 1 || Nat.testBit acc.flags 3 || Nat.testBit acc.flags 4 || Nat.testBit acc.flags 6 || Nat.blt coverage (s.objN 0x2650 8)
  let above : Bool := Nat.blt (s.objN 0x2650 6 * eFeed.natAbs) (10000 * res.natAbs) && Nat.blt (s.objN 0x2650 7 * 100000) res.natAbs
  let verdict := if incomplete then 3 else if above then (if 0 < res then 1 else 2) else 0
  let (set, s1) := if incomplete then (false, s) else s.reconAlarm verdict res
  let flags := b2n perPhase + (acc.flags / 2 % 2) * 2 + (acc.flags / 4 % 2) * 4 + (acc.flags / 8 % 2) * 8 + 16 * b2n set
  let fe := (ls.filter (fun n => Nat.testBit (s.ctl.core.flags n) 3)).length
  let r := time80 start ++ toLE 1 verdict ++ toLE 1 flags ++ tenthWh eFeed ++ tenthWh eLan ++ tenthWh eCable ++ tenthWh eCab ++ tenthWh res ++
    (upFrom 0 3).flatMap (fun p => if perPhase then tenthWh (resP p) else [0, 0, 0, 0]) ++ toLE 1 coverage ++ [0] ++
    toLE 2 (shares.filter (fun e => e.2.2.2)).length ++ toLE 2 fe
  let s2 := (shares.foldl (fun t e => (t.setObj (0x6000 + e.1) 0x61 (tenthWh e.2.1)).setCard e.1 0x62 1 (b2n e.2.2.2)) s1).setObj 0x2650 0x0A r
  { s2 with mtr := { s2.mtr with accs := s2.mtr.accs.filter (fun (a : ReconAcc) => !(Nat.beq a.start start)) } }

/-- RECONCILIATION, R297: an interval's end + RECON_DELAY; none runs in STANDBY (R296). -/
def execReconciliation (start : Nat) (s : State) : Host.Outcome State Fault Refusal :=
  .next (
    let per := s.objN 0x2650 1 * 1000000000
    if s.mode.mode ≠ .standby ∧ s.mode.mode ≠ .starting ∧ start % per = 0 ∧ start + per + s.objN 0x2650 2 * 1000000000 ≤ s.time.now then
      s.reconcile start
    else s)

/-! ## Energy reports -/

/-- ENERGY_REPORT, R212: a lantern's energy report updates its card, goes to the next CTL sample (R261) and to reconciliation at the
local time of its slot mark (R298). -/
def execEnergyReport (l : Fin 4096) (body : List Byte) (s : State) : Host.Outcome State Fault Refusal :=
  .next (
    let n := l.val
    if holdsEntry (s.card n 3) && Nat.beq body.length 16 then
      let asn := leAt body 0 5
      let s1 := (s.setObj (0x6000 + n) 0x13 body).setObj (0x6000 + n) 0x14 (time80 s.time.now)
      let s2 := { s1 with ctl := { s1.ctl with reports := s1.ctl.reports ++ [(n, asn, leAt body 9 2)] } }
      match s.tMark (s.card n 5) asn with
      | none => s2
      | some t =>
        let h := ((assoc? n s.mtr.energies).getD []).filter (fun e => Nat.blt t (e.1 + 9000000000000) && Nat.blt e.1 t)
        { s2 with mtr := { s2.mtr with energies := s2.mtr.energies.filter (fun (e : Nat × List (Ns × Nat)) => !(Nat.beq e.1 n)) ++ [(n, h ++ [(t, leAt body 5 4)])] } }
    else s)

end Sys2Proof.Machine
end

