-- ==== Sys2Proof/Machine/Cal.lean ====
section
/-! DEFINITION. Live calibration: the reference, rotation, comparisons and swaps, the RTC curve, transceiver offsets and sensor
efficiency (R383 to R402). -/

namespace Sys2Proof.Machine

/-! ## The step's registers and counters -/

/-- CAL_COUNTERS: 0 STEPS, 1 SWAPS, 2 LATE_SWAPS, 3 DEFERRALS, 4 ABANDONED, 5 MISMATCHES, 6 ROTATIONS_SKIPPED, 7 TRIM_LIMITS. -/
def State.calCount (s : State) (k : Nat) : State := s.bumpU32 0x2A00 3 k 1

/-- A bit of CAL_INT_STAT set. -/
def State.calInt (s : State) (i : Nat) : State := s.wrB Reg.CAL_INT_STAT i true

/-- Table 13.2: the state of the step. -/
def State.calStep (s : State) : Nat := s.rdF Reg.CAL_STATUS 10 8

/-- The position of the step, 0 V1 to 7 IN. -/
def State.calPos (s : State) : Nat := s.rdF Reg.CAL_STATUS 14 11

/-- A bit of CAL_STATE (object 0x2A00:01). -/
def State.calBit (s : State) (i : Nat) : Bool := Nat.testBit (s.objN 0x2A00 1) i

/-- A bit of CAL_STATE replaced. -/
def State.setCalBit (s : State) (i : Nat) (b : Bool) : State :=
  let v := s.objN 0x2A00 1
  s.setObjN 0x2A00 1 1 (if b = Nat.testBit v i then v else if b then v + 2 ^ i else v - 2 ^ i)

/-- The chain of a position: 0 voltage, 1 current. -/
def calChain (p : Nat) : Nat := p / 4

/-- The substitute input of a position's chain (Table 13.1). -/
def subOf (p : Nat) : Nat := 8 + calChain p

/-- Table 13.1: the chain code of a state for a position. -/
def codeOf (state p : Nat) : Nat :=
  if state = 4 ∨ state = 7 then 8 + p % 4 else if state = 2 ∨ state = 3 ∨ state = 5 ∨ state = 6 then 4 + p % 4 else 0

/-- R387: the step enters a state: the chain code follows it. -/
def State.calEnter (s : State) (state : Nat) : State :=
  let p := s.calPos
  (s.wrF Reg.CAL_STATUS 10 8 state).wrF Reg.CAL_SEL (4 * calChain p + 3) (4 * calChain p) (codeOf state p)

/-- R393, R394: may CAL act at all? It is stopped in PROVISION, BATTERY_WATCH and DEEP_SLEEP and after a power-fail interrupt. -/
def State.calRuns (s : State) : Bool :=
  s.rdB Reg.CAL_CTRL 0 && !s.aon.flushing &&
    !(decide (s.mode.mode = .provision ∨ s.mode.mode = .batteryWatch ∨ s.mode.mode = .deepSleep ∨ s.mode.mode = .starting))

/-- R393: may CAL act, and is it not paused? -/
def State.calGoes (s : State) : Bool := s.calRuns && !s.rdB Reg.CAL_CTRL 2

/-- R384: REF_OK. -/
def State.refOk (s : State) : Bool := s.rdB Reg.CAL_STATUS 2

/-- R386, R388: 250 ms of settling begin. -/
def State.calSettling (s : State) : State :=
  { s with cal := { s.cal with settle := some (s.time.now + 250000000), measuring := false } }

/-- R383, R386: a reference phase begins: its shape at REF_LEVEL, and settling. -/
def State.refPhase (s : State) (k : Nat) : State :=
  let s1 := (s.wrB Reg.CAL_CTRL 1 true).wrN Reg.CAL_REF_CTRL (k + 4 * s.objN 0x2A10 7)
  { s1 with cal := { s1.cal with phase := k } }.calSettling

/-- SUB_REF or REG_REF: an input is calibrated against the reference (R386). -/
def State.enterRef (s : State) (state : Nat) : State :=
  let s1 := s.calEnter state
  { s1 with cal := { s1.cal with results := [] } }.refPhase 0

/-- JOIN or REJOIN: a comparison (R388). -/
def State.enterCompare (s : State) (state : Nat) : State :=
  let s1 := s.calEnter state
  { s1 with cal := { s1.cal with slewing := false, uncompared := false } }.calSettling

/-- The input that fills a position. -/
def State.routeAt (s : State) (p : Nat) : Nat := s.rdF Reg.MTR_ROUTE (4 * p + 3) (4 * p)

/-- R396: the part of the initial calibration that is done; with all of it, INITIAL_DONE is set. -/
def State.initialDone (s : State) (k : Nat) : State :=
  match s.cal.initial with
  | none => s
  | some m =>
    let m1 := m ||| 2 ^ k
    if m1 = 127 then
      (({ s with cal := { s.cal with initial := none } }).setCalBit 0 true).wrB Reg.CAL_STATUS 3 true
    else { s with cal := { s.cal with initial := some m1 } }

/-- R387, R390: is a chain skipped: HELD, or its substitute FAULTY? -/
def State.chainSkips (s : State) (p : Nat) : Bool := s.calBit (3 + calChain p) || s.calBit (5 + calChain p)

/-- R391: the position of a chain that the substitute still fills. -/
def State.chainLeft (s : State) (p : Nat) : Option Nat := (upFrom (4 * calChain p) 4).find? (fun q => Nat.beq (s.routeAt q) (subOf p))

/-- R387: the step at the front of the rotation begins: from SUB_REF, or, where the chain's substitute still fills a position, from
REG_REF there (R391). -/
def State.stepBegin (s : State) (p : Nat) : State :=
  let c := { s.cal with first := none, repeated := false, slewing := false, uncompared := false, armed := none, faulty := false,
                        deferred := 0, flags := 0, swaps := [], gain := 0, delay := 0 }
  let s1 := { s with cal := c }
  match s.chainLeft p with
  | some q => ((s1.wrF Reg.CAL_STATUS 14 11 q).enterRef 4)
  | none => (s1.wrF Reg.CAL_STATUS 14 11 p).enterRef 1

/-- R387: the rotation goes on: chains that are skipped give way; an empty rotation ends. -/
def State.rotate (s : State) : Nat → State
  | 0 => s
  | k + 1 =>
    match s.cal.remaining with
    | [] => s.initialDone 0
    | p :: t => if s.chainSkips p then State.rotate { s with cal := { s.cal with remaining := t } } k else s.stepBegin p

/-- R384, R393: the next step begins, if none is in progress and CAL may begin one. -/
def State.stepNext (s : State) : State :=
  if (s.calStep = 0 ∨ s.calStep = 7) ∧ s.calGoes = true ∧ s.refOk = true ∧ s.cal.remaining ≠ [] then s.rotate 9 else s

/-- An I16. -/
def i16 (v : Int) : List Byte := toLE 2 (enc 16 (clampI (-32768) 32767 v))

/-- R387, R401: a step ends in a state, with flags joined: LAST_STEP, the counters, STEP_DONE, and the next step. -/
def State.stepEnd (s : State) (shown final flags : Nat) : State :=
  let c := s.cal
  let fl := c.flags ||| flags
  let r := toLE 1 s.calPos ++ toLE 1 shown ++ toLE 1 fl ++ [0] ++ time80 (c.swaps.getD 0 0) ++ time80 (c.swaps.getD 1 0) ++
    i16 (openQuot c.gain 10) ++ i16 (openQuot c.delay 1000) ++ List.replicate 4 0
  let s1 := (((s.setObj 0x2A00 2 r).calCount 0).calInt 0).calEnter final
  let s2 := if Nat.testBit fl 3 then s1.calCount 4 else s1
  { s2 with cal := { s2.cal with settle := none, measuring := false, armed := none, remaining := s2.cal.remaining.erase s.calPos } }.stepNext

/-- R384: SUB_REF or REG_REF entered within a step: without REF_OK a step in SUB_REF ends there, and one whose substitute holds the
position goes on to REJOIN. -/
def State.goRef (s : State) (state : Nat) : State :=
  if s.refOk then s.enterRef state
  else if state = 1 then (s.calEnter 1).stepEnd 1 0 8
  else ({ s with cal := { s.cal with flags := s.cal.flags ||| 8 } }).enterCompare 5

/-! ## Accumulators -/

/-- R386: an accumulation begins. -/
def State.accBegin (s : State) (k : Nat) : State :=
  (s.wrB (Reg.CAL_ACC_CTRL k) 16 true).wrN (Reg.CAL_ACC_STAT k) 0

/-- R393: an accumulation is abandoned. -/
def State.accAbort (s : State) (k : Nat) : State :=
  if s.rdB (Reg.CAL_ACC_CTRL k) 16 then
    (s.wrB (Reg.CAL_ACC_CTRL k) 16 false).wrN (Reg.CAL_ACC_STAT k) (2 ^ 18)
  else s

/-- R393: an accumulation is abandoned and restarted; ABORTED stays set until it ends. -/
def State.accRestart (s : State) (k : Nat) : State :=
  if s.rdB (Reg.CAL_ACC_CTRL k) 16 then s.wrN (Reg.CAL_ACC_STAT k) (2 ^ 18) else s

/-- A write of CAL_ACC_CTRL_k: CYCLES 0 stores 1; START begins an accumulation while EN is 1. -/
def State.accWrite (s : State) (k : Nat) (v : Word) : State :=
  let a := Reg.CAL_ACC_CTRL k
  let s1 := s.wr a ((s.rd a &&& 0x10000) ||| (setFld v 15 8 (max 1 (fld v 15 8)) &&& 0xFFFF))
  if bit v 16 && s.rdB Reg.CAL_CTRL 0 then s1.accBegin k else s1

/-- CAL_ACC_START, R386, R402: a write of CAL_ACC_CTRL_k; from core 3 it is ignored and sets PERM. -/
def execCalAccStart (ini : Initiator) (k : Fin 2) (v : Word) (s : State) : Host.Outcome State Fault Refusal :=
  .next (s.regWrite ini ini.resident (Reg.CAL_ACC_CTRL k.val) (fun t => t.accWrite k.val v))

/-- The inputs of the step: the one calibrated or outgoing, and the incoming one or CAL_REF. -/
def State.calInputs (s : State) : Nat × Nat :=
  let p := s.calPos
  match s.calStep with
  | 1 => (subOf p, 15)
  | 4 => (p, 15)
  | 5 => (subOf p, p)
  | _ => (p, subOf p)

/-- CAL_SETTLE, R386, R388: settling ends and accumulator 0 starts over 50 cycles against the reference, or COMPARE_CYCLES. -/
def execCalSettle (t : Nat) (s : State) : Host.Outcome State Fault Refusal :=
  .next (
    let s0 := s.upTo t
    match s0.cal.settle with
    | none => s0
    | some e =>
      if e ≤ s0.time.now ∧ s0.calGoes = true then
        let io := s0.calInputs
        let n := if io.2 = 15 then 50 else s0.objN 0x2A10 3
        let s1 := (s0.wrN (Reg.CAL_ACC_CTRL 0) (io.1 + 16 * io.2 + 256 * n)).accBegin 0
        { s1 with cal := { s1.cal with settle := none, measuring := true } }
      else s0)

/-! ## Results -/

/-- R386: the results of the four phases, [mean at 0 V, ratio at +REF_LEVEL, ratio at −REF_LEVEL, delay], become input n's
corrections and its channel record. -/
def State.refWrite (s : State) (n : Nat) (r : List Int) : State :=
  let den := 200000000 + r.getD 1 0 + r.getD 2 0
  let gain := enc 32 (openQuot (2 ^ 30 * 200000000) den.toNat)
  let off := enc 32 (openQuot (-(r.getD 0 0) * (fullScale * 256 : Nat)) (2 ^ 31))
  let dly := enc 32 (clampI (-1000000) 1000000 (r.getD 3 0))
  let old := leAt (s.obj (0x2A20 + n) 1) 0 4
  let (drift, s0) := if old = 0 then (let (f, u) := s.free; (sx 32 f, u)) else (openQuot (((gain : Int) - old) * 100000000) old, s)
  let s1 := ((s0.wrN (Reg.MTR_CORR_GAIN n) gain).wrN (Reg.MTR_CORR_OFFSET n) off).wrN (Reg.MTR_CORR_DELAY n) dly
  ((s1.setObj (0x2A20 + n) 1 (toLE 4 gain ++ toLE 4 off ++ toLE 4 dly)).setObj (0x2A20 + n) 2 (time80 s.time.now)).setObjN
    (0x2A20 + n) 4 4 (enc 32 drift)

/-- R386: a reference phase's result; after the fourth the corrections are written and the comparison follows. -/
def State.refResult (s : State) (ratio delay mean : Int) : State :=
  let k := s.cal.phase
  let r := s.cal.results ++ [if k = 0 then mean else if k = 3 then delay else ratio]
  let s1 := { s with cal := { s.cal with results := r } }
  if k < 3 then s1.refPhase (k + 1)
  else (s1.refWrite s.calInputs.1 r).enterCompare (if s.calStep = 1 then 2 else 5)

/-- R390: an input is marked FAULTY; the step's size is recorded. -/
def State.channelFaulty (s : State) (n : Nat) (step : Int) : State :=
  let s1 := (((s.setObjN (0x2A20 + n) 3 1 1).calInt 3).record 0x0B 2 n (enc 32 step) 0).raiseActive 22
  { s1 with cal := { s1.cal with faulty := true, flags := s1.cal.flags ||| 4 } }

/-- R389: the angle of a position's phase-to-neutral voltage from the reference phase's, in 0.01 degree; VN and IN use the
reference phase. -/
def State.phaseAngle (s : State) (p : Nat) : Int :=
  let ang (q : Nat) : Int := if q = 0 then 0 else sx 16 (leAt (s.obj 0x2620 8) (2 * (q - 1)) 2)
  let ref := s.rdF Reg.MTR_STATUS 4 3
  if p % 4 = 3 ∨ ref = 0 then 0 else ang (p % 4) - ang (ref - 1)

/-- R389: the predicted positive-going crossing for a position, at least 1 ms ahead, in quarters of a nanosecond. -/
def State.crossing (s : State) (p : Nat) : Nat :=
  let t := s.mtr.period
  let b : Int := (s.mtr.boundary.getD s.time.now : Nat)
  let at_ := 4 * b - openQuot (4 * s.phaseAngle p * (t : Nat)) 36000
  let want : Int := 4 * ((s.time.now : Int) + 1000000)
  let per : Int := ((4 * max t 1 : Nat) : Int)
  (if at_ < want then at_ + ((want - at_ + per - 1) / per) * per else at_).toNat

/-- R389, R393: is a voltage present on the phase of the position? -/
def State.phasePresent (s : State) (p : Nat) : Bool :=
  if p % 4 = 3 then s.mtr.present.any (fun x => x) else s.mtr.present.getD (p % 4) false

/-- R389: MTR_ROUTE_NEXT written with the incoming input at the position, and unit 9 armed at the predicted crossing. -/
def State.swapStage (s : State) (incoming : Nat) : State :=
  let p := s.calPos
  (s.routeStage (setFld (s.rd Reg.MTR_ROUTE) (4 * p + 3) (4 * p) incoming)).trigSet 9 (s.crossing p) 0

/-- R393: a deferral counted once in its step. -/
def State.deferral (s : State) (k : Nat) : State :=
  if Nat.testBit s.cal.deferred k then s
  else { s with cal := { s.cal with deferred := s.cal.deferred + 2 ^ k, slewing := true } }.calCount 3

/-- R388, R393: the swap is armed, or deferred. -/
def State.swapArm (s : State) : State :=
  let p := s.calPos
  let s0 := { s with cal := { s.cal with slewing := true } }
  if !s.calGoes then s0
  else if s.rdB Reg.MTR_EVENT_STAT 5 then s0.deferral 0
  else if s.cal.synthetic || !s.phasePresent p then s0.deferral 1
  else
    let inc := s.calInputs.2
    let s1 := (s0.calEnter (if s.calStep = 2 then 3 else 6)).swapStage inc
    { s1 with cal := { s1.cal with armed := some inc, slewing := false } }

/-- R388: does the estimate meet the conditions of a swap? Gain in 0.01 ppm, delay in ps. -/
def State.swapReady (s : State) (g d : Int) : Bool :=
  (s.cal.uncompared || decide (g.natAbs ≤ 100 * s.objN 0x2A10 4)) && decide (d.natAbs ≤ 5000)

/-- R388: the outgoing input's corrections move toward agreement, by SLEW_LIMIT ppm and 1 ns at most. -/
def State.slew (s : State) (g d : Int) : State :=
  let n := s.calInputs.1
  let lim : Int := ((100 * s.objN 0x2A10 5 : Nat) : Int)
  let step := clampI (-lim) lim g
  let gain := (s.rd (Reg.MTR_CORR_GAIN n)).toNat
  let s1 := if s.cal.uncompared then s
    else s.wrN (Reg.MTR_CORR_GAIN n) (enc 32 (openQuot ((gain : Int) * (100000000 - step)) 100000000))
  let dl := clampI (-1000000) 1000000 (sx 32 (s.rd (Reg.MTR_CORR_DELAY n)).toNat + clampI (-1000) 1000 d)
  { (s1.wrN (Reg.MTR_CORR_DELAY n) (enc 32 dl)) with cal := { s1.cal with slewing := true } }

/-- R388: an estimate of a comparison in progress: the swap is armed, or the outgoing input is slewed. -/
def State.compareGoes (s : State) (g d : Int) : State :=
  let s1 := { s with cal := { s.cal with gain := g, delay := d } }
  if s.cal.faulty || s.swapReady g d then s1.swapArm else s1.slew g d

/-- R390: does a mismatch stand in JOIN, or in REJOIN? -/
def State.mismatched (s : State) (g d : Int) : Bool :=
  (!s.cal.uncompared && decide (100 * s.objN 0x2A10 6 < g.natAbs)) || (decide (s.calStep = 2) && decide (200000 < d.natAbs))

/-- R388 to R390: the first estimate of a comparison. -/
def State.compareFirst (s : State) (g d : Int) : State :=
  if s.calStep = 2 then
    match s.cal.repeated, s.cal.first with
    | true, some (g0, d0) =>
      if (g - g0).natAbs ≤ 5000 ∧ (d - d0).natAbs ≤ 20000 then (s.channelFaulty s.calPos g).compareGoes g d
      else (({ s with cal := { s.cal with gain := g, delay := d } }).calCount 5).stepEnd 0 0 8
    | _, _ =>
      if s.mismatched g d then ({ s with cal := { s.cal with first := some (g, d), repeated := true } }.calInt 1).goRef 1
      else s.compareGoes g d
  else if s.mismatched g d then
    if s.cal.repeated then ((s.channelFaulty (subOf s.calPos) g).setCalBit (5 + calChain s.calPos) true).compareGoes g d
    else ({ s with cal := { s.cal with repeated := true } }.calInt 1).goRef 4
  else s.compareGoes g d

/-- R389: is the incoming input's rms below COMPARE_MIN of its full scale? The accumulator measures the outgoing one. -/
def State.lowSignal (s : State) (ratio : Int) (rms : Nat) : Bool :=
  decide (((rms * 100 * 100000000 : Nat) : Int) < ((s.objN 0x2A10 8 * 2 ^ 31 : Nat) : Int) * (100000000 + ratio))

/-- R386, R388: CAL acts on accumulator 0's results for the step. -/
def State.calResult (s : State) (ratio delay mean : Int) (rms : Nat) : State :=
  let s1 := { s with cal := { s.cal with measuring := false } }
  if s.calStep = 1 ∨ s.calStep = 4 then s1.refResult ratio delay mean
  else if s.calStep = 2 ∨ s.calStep = 5 then
    let low := s.lowSignal ratio rms
    let s2 := { s1 with cal := { s1.cal with uncompared := low, flags := if low then s1.cal.flags ||| 1 else s1.cal.flags } }
    s2.compareFirst ratio delay
  else s1

/-- ACC_READY, R386: accumulator k has its cycles: its results, and what CAL does with them. -/
def execAccReady (k : Fin 2) (ratio delay mean : Int) (rms : Nat) (s : State) : Host.Outcome State Fault Refusal :=
  .next (
    let c := Reg.CAL_ACC_CTRL k.val
    let st := Reg.CAL_ACC_STAT k.val
    if s.rdB c 16 && Nat.ble (s.rdF c 15 8) (s.rdF st 15 0) then
      let low := Nat.blt (rms * 100) (s.objN 0x2A10 8 * 2 ^ 31)
      let s1 := ((s.wrB c 16 false).wrN st (s.rdF st 15 0 + 2 ^ 16 + (if low then 2 ^ 17 else 0))).calInt 5
      let s2 := (((s1.wrN (Reg.CAL_ACC_RATIO k.val) (enc 32 ratio)).wrN (Reg.CAL_ACC_DELAY k.val) (enc 32 delay)).wrN
        (Reg.CAL_ACC_MEAN k.val) (enc 32 mean)).wrN (Reg.CAL_ACC_RMS k.val) rms
      if k.val = 0 ∧ s.cal.measuring = true ∧ s.calGoes = true then s2.calResult ratio delay mean rms else s2
    else s)

/-! ## At each cycle boundary -/

/-- The positions a route gives an input. -/
def routePositions (w : Word) (n : Nat) : List Nat := (upFrom 0 8).filter (fun p => Nat.beq (fld w (4 * p + 3) (4 * p)) n)

/-- R386, R393: an accumulator at the end of a cycle: one more cycle, or abandoned; `marks` are the cycle's latch flags. -/
def State.accCycle (s : State) (marks : Nat) (k : Nat) : State :=
  let c := s.rd (Reg.CAL_ACC_CTRL k)
  if !bit c 16 then s
  else
    let a := fld c 3 0
    let b := fld c 7 4
    let failed (n : Nat) : Bool := Nat.ble n 9 && s.rdB (Reg.MTR_IN_STAT n) 19
    let moved (n : Nat) : Bool := decide (routePositions s.cal.route n ≠ routePositions (s.rd Reg.MTR_ROUTE) n)
    if s.rdB Reg.CAL_CTRL 2 then s
    else if moved a || (moved b && Nat.ble b 9) then (if Nat.beq k 0 && s.cal.measuring then s.accRestart k else s.accAbort k)
    else if failed a || failed b || Nat.testBit marks 8 || Nat.testBit marks 9 then s.accRestart k
    else s.wrF (Reg.CAL_ACC_STAT k) 15 0 (s.rdF (Reg.CAL_ACC_STAT k) 15 0 + 1)

/-- R389, R394: a swap armed: the route has applied, or was refused. -/
def State.swapWatch (s : State) (inc : Nat) : State :=
  let p := s.calPos
  let s0 := { s with cal := { s.cal with armed := none } }
  if s.rdB Reg.MTR_ROUTE_STAT 1 then
    let s1 := { s0 with cal := { s0.cal with flags := s0.cal.flags ||| 8 } }
    if s.calStep = 6 then s1.enterCompare 5 else s1.stepEnd 3 0 8
  else if s.routeAt p = inc ∧ s.rdB Reg.MTR_ROUTE_STAT 0 = false then
    let s1 := { s0 with cal := { s0.cal with swaps := s0.cal.swaps ++ [s.time.now], repeated := false, first := none } }.calCount 1
    if s.calStep = 3 then
      if s.cal.faulty then (s1.setCalBit (3 + calChain p) true).stepEnd 7 7 0 else s1.goRef 4
    else s1.stepEnd 0 0 0
  else s

/-- R393, R394: a pause is in effect unless a swap is staged or armed. -/
def State.pauseShow (s : State) : State :=
  let on := s.rdB Reg.CAL_CTRL 2 && s.cal.armed.isNone
  (s.wrB Reg.CAL_STATUS 1 on).setCalBit 1 on

/-- R387 to R394: CAL at the end of a line cycle, with the estimate over the latest 50 cycles while a comparison goes on. -/
def State.calBoundary (s : State) (marks : Nat) (synthetic : Bool) (est : Option (Int × Int)) : State :=
  let s1 := { s with cal := { s.cal with synthetic := synthetic } }
  let s2 := (s1.accCycle marks 0).accCycle marks 1
  let s3 := { s2 with cal := { s2.cal with route := s2.rd Reg.MTR_ROUTE } }
  if !s3.calRuns then s3
  else
    match s3.cal.armed with
    | some inc => (s3.swapWatch inc).pauseShow
    | none =>
      match (if s3.calGoes then est else none) with
      | some (g, d) => if s3.cal.slewing ∧ (s3.calStep = 2 ∨ s3.calStep = 5) then s3.compareGoes g d else s3
      | none => s3

/-- CYCLE_BOUNDARY, R280: a zero crossing of the reference voltage at t, and CAL's estimate at it. -/
def execCycleBoundary (t : Nat) (est : Option (Int × Int)) (s : State) : Host.Outcome State Fault Refusal :=
  .next (
    let s0 := s.upTo t
    let s1 := s0.mtrCrossing t
    if s1.mtr.boundary = s.mtr.boundary then s1 else s1.calBoundary s.mtr.cycleFlags false est)

/-- SYNTHETIC_BOUNDARY, R280: the local clock reaches the end of a synthetic cycle. -/
def execSyntheticBoundary (t : Nat) (s : State) : Host.Outcome State Fault Refusal :=
  .next (
    let s1 := (s.upTo t).mtrSynthetic
    if s1.mtr.boundary = s.mtr.boundary then s1 else s1.calBoundary s.mtr.cycleFlags true none)

/-! ## Pauses, steps of the clock, start -/

/-- R393: CAL paused: an accumulation in progress is abandoned. -/
def State.calPause (s : State) : State :=
  if s.rdB Reg.CAL_CTRL 2 then s
  else
    let l := (upFrom 0 2).filter (fun k => s.rdB (Reg.CAL_ACC_CTRL k) 16)
    (((({ s with cal := { s.cal with restart := l } }).wrB Reg.CAL_CTRL 2 true).pauseShow).accAbort 0).accAbort 1

/-- R393: the pause ends: what was being accumulated starts again. -/
def State.calResume (s : State) : State :=
  if s.rdB Reg.CAL_CTRL 2 then
    let s1 := (s.cal.restart.foldl State.accBegin ((s.wrB Reg.CAL_CTRL 2 false).pauseShow))
    ({ s1 with cal := { s1.cal with restart := [] } }).stepNext
  else s

/-- R393, R394: a step or set of the local clock: accumulations restart; a backward step re-stages a swap armed. -/
def State.calStepped (s : State) (change : Int) : State :=
  let s1 := (s.accRestart 0).accRestart 1
  let s2 := { s1 with cal := { s1.cal with settle := s1.cal.settle.map (fun t => ((t : Int) + change).toNat) } }
  match s2.cal.armed with
  | some inc => if change < 0 then (s2.routeStage (s2.rd Reg.MTR_ROUTE)).swapStage inc else s2
  | none => s2

/-- R394: unit 9 fired late. -/
def State.calLate (s : State) : State :=
  match s.cal.armed with
  | some _ => { ((s.calInt 4).calCount 2) with cal := { s.cal with flags := s.cal.flags ||| 2 } }
  | none => s

/-- R396: the initial calibration begins with a rotation. -/
def State.calInitial (s : State) : State :=
  let c := s.cal
  { s with cal := { c with initial := some 0, remaining := if c.remaining.isEmpty then [0, 4, 1, 5, 2, 6, 3, 7] else c.remaining } }.stepNext

/-- R395: at a cold start a chain saved as HELD is restored; the step in progress restarts from SUB_REF. -/
def State.calCold (s : State) (step : Nat) : State :=
  let held (u : State) (ch : Nat) : State :=
    if u.calBit (3 + ch) then
      match (upFrom (4 * ch) 4).find? (fun p => !(Nat.beq (u.objN (0x2A20 + p) 3) 0)) with
      | some p => (u.wrF Reg.CAL_SEL (4 * ch + 3) (4 * ch) (8 + p % 4)).wrF Reg.MTR_ROUTE (4 * p + 3) (4 * p) (8 + ch)
      | none => u
    else u
  let s1 := held (held s 0) 1
  let s2 := (s1.wrB Reg.CAL_STATUS 3 (s1.calBit 0)).setCalBit 1 false
  let s3 := { s2 with cal := { s2.cal with armed := none, settle := none, measuring := false, slewing := false, faulty := false, radNoted := 0,
                                           refBad := 0, refGood := 0, route := s2.rd Reg.MTR_ROUTE } }
  if 1 ≤ step ∧ step ≤ 6 then
    { s3 with cal := { s3.cal with remaining := if s3.cal.remaining.isEmpty then [s.calPos] else s3.cal.remaining } }
  else s3

/-- R395: a start from BATTERY_WATCH keeps the route and codes; a step whose substitute holds its position goes on by REJOIN. -/
def State.calWarm (s : State) : State :=
  let p := s.calPos
  if s.routeAt p = subOf p ∧ 1 ≤ s.calStep ∧ s.calStep ≤ 6 then s.enterCompare 5
  else if 1 ≤ s.calStep ∧ s.calStep ≤ 6 then (if s.refOk then s.enterRef 1 else s.calEnter 0) else s

/-- ROTATION_START, R387: a whole multiple of ROTATION_PERIOD; a rotation still running is not disturbed. -/
def execRotationStart (t : Nat) (s : State) : Host.Outcome State Fault Refusal :=
  .next (
    let s0 := s.upTo t
    if s0.objN 0x2A10 1 = 1 ∧ t % (s0.objN 0x2A10 2 * 1000000000) = 0 ∧ s0.calRuns = true then
      if s0.cal.remaining.isEmpty then { s0 with cal := { s0.cal with remaining := [0, 4, 1, 5, 2, 6, 3, 7] } }.stepNext
      else s0.calCount 6
    else s0)

/-- REF_CHECK, R384: A minus B less the factory difference, in ppm. -/
def execRefCheck (diff : Int) (s : State) : Host.Outcome State Fault Refusal :=
  .next (
    if !s.rdB Reg.CAL_CTRL 0 then s
    else
      let s0 := s.wrF Reg.CAL_REF_CHECK 15 0 (enc 16 (clampI (-32768) 32767 diff))
      if 50 < diff.natAbs then
        let s1 := { s0 with cal := { s0.cal with refBad := s0.cal.refBad + 1, refGood := 0 } }
        if s1.cal.refBad = 2 then
          let s2 := ((((s1.wrB Reg.CAL_STATUS 2 false).calInt 2).setCalBit 2 true).record 0x0B 1 0 (enc 32 diff) 0).raiseActive 21
          if s.calStep = 1 then s2.stepEnd 1 0 8
          else if s.calStep = 4 then { s2 with cal := { s2.cal with flags := s2.cal.flags ||| 8 } }.enterCompare 5
          else s2
        else s1
      else
        let s1 := { s0 with cal := { s0.cal with refBad := 0, refGood := s0.cal.refGood + 1 } }
        if 10 ≤ s1.cal.refGood ∧ s1.refOk = false then (((s1.wrB Reg.CAL_STATUS 2 true).setCalBit 2 false).unhold 21).stepNext else s1)

/-- R391: the inputs of a mask return to service; a HELD chain leaves HELD with its next step. -/
def State.channelClear (s : State) (mask : Nat) : State :=
  let one (u : State) (n : Nat) : State :=
    if Nat.testBit mask n && !(Nat.beq (u.objN (0x2A20 + n) 3) 0) then
      (u.setObjN (0x2A20 + n) 3 1 0).setCalBit (if n < 8 then 3 + calChain n else n - 3) false
    else u
  let s1 := (upFrom 0 10).foldl one s
  (if (upFrom 0 10).all (fun n => Nat.beq (s1.objN (0x2A20 + n) 3) 0) then s1.unhold 22 else s1).stepNext

/-! ## The RTC curve -/

/-- The point k of the curve, in thousandths of its 0.01 ppm. -/
def State.refitPoint (s : State) (k : Nat) : Int := getKey k (sx 16 (s.rdF (Reg.AON_RTC_CURVE k) 15 0) * 1000) s.cal.points

/-- R397: the factory value of point k. -/
def curveFactory (k : Nat) : Int := sx 16 (leAt (Obj.default (Obj.key 0x2130 7)) (2 * k) 2)

/-- R397: point k moves by an amount, within RTC_REFIT_LIMIT of its factory value; RTC_SAMPLES counts it. -/
def State.curveMove (s : State) (k : Nat) (move : Int) : State :=
  let lim : Int := ((s.objN 0x2A30 1 * 1000 : Nat) : Int)
  let f := curveFactory k * 1000
  let want := s.refitPoint k + move
  let v := clampI (f - lim) (f + lim) want
  let n := s.obj 0x2A30 2
  let s1 := ({ s with cal := { s.cal with points := putKey k v s.cal.points } }).setObj 0x2A30 2
    (n.take (2 * k) ++ toLE 2 (min 0xFFFF (leAt n (2 * k) 2 + 1)) ++ n.drop (2 * k + 2))
  if v = want then s1 else s1.record 0x0B 4 k (enc 32 (openQuot v 1000)) 1

/-- R397: the supervisor writes the changed points to AON and to object 0x2130:07; each is recorded. -/
def State.curveWrite (s : State) : State :=
  let one (u : State) (e : Nat × Int) : State :=
    let v := enc 16 (openQuot e.2 1000)
    if u.rdF (Reg.AON_RTC_CURVE e.1) 15 0 = v then u
    else
      let o := u.obj 0x2130 7
      ((u.wrF (Reg.AON_RTC_CURVE e.1) 15 0 v).setObj 0x2130 7 (o.take (2 * e.1) ++ toLE 2 v ++ o.drop (2 * e.1 + 2))).record
        0x0B 4 e.1 (enc 32 (openQuot e.2 1000)) 0
  { (s.cal.points.foldl one s) with cal := { s.cal with pointsAt := some s.time.now } }

/-- R397: E_m of a complete interval in thousandths of 0.01 ppm: E, the mean of AON_RTC_CORR, plus what the interval's local
duration shows. -/
def CurveRun.error (r : CurveRun) : Int :=
  let delta := r.last - r.start
  openQuot (r.corr * 100 * (delta : Int) + (1024000000000 - (delta : Int)) * 102400000000000) (1024 * delta)

/-- R397: an interval moves the two curve points that bracket its mean temperature, in 1,024ths of 0.01 °C here, so that f has the
denominator 512,000. -/
def State.curveFit (s : State) (r : CurveRun) : State :=
  let u := clampI 0 16384000 (r.temp + 4096000)
  let k := min 31 (u / 512000).toNat
  let f := u - k * 512000
  let diff := r.error * 512000 - (s.refitPoint k * (512000 - f) + s.refitPoint (k + 1) * f)
  (s.curveMove k (openQuot ((512000 - f) * diff) 4194304000000)).curveMove (k + 1) (openQuot (f * diff) 4194304000000)

/-- RTC_CURVE_INTERVAL, R397: CAL acts on the interval of 1,024 RTC seconds measured last, if its temperature readings span at most
1 °C; no interval holds a step, a set or an RTC halt. Changed points are written at most once per 3,600 s. -/
def execRtcCurveInterval (s : State) : Host.Outcome State Fault Refusal :=
  .next (
    match s.cal.curveDone with
    | none => s
    | some r =>
      let s0 := { s with cal := { s.cal with curveDone := none } }
      if s.time.servoState = 2 ∧ s.calFunction 1 = true ∧ r.most - r.least ≤ 100 ∧ r.start < r.last ∧ s.calGoes = true then
        let s1 := s0.curveFit r
        let due : Bool := match s.cal.pointsAt with
          | some t => Nat.ble (t + 3600000000000) s.time.now
          | none => true
        if due && s.aonTakes then s1.curveWrite else s1
      else s0)

/-! ## Transceivers and traffic sensors -/

/-- R399: a transceiver's crystal offset in 0.001 ppm, from the RADn cycles counted over the 10 s of 1,000 slots, 320,000,000 at
32 MHz. -/
def radPpm (cycles : Nat) : Int := openQuot (((cycles : Int) - 320000000) * 1000000000) 320000000

/-- RAD_PPM_ESTIMATE, R399: a transceiver's crystal offset from its cycles over 1,000 slots; above 10 ppm it is recorded once. -/
def execRadPpmEstimate (n : Fin 4) (cycles : Nat) (s : State) : Host.Outcome State Fault Refusal :=
  .next (
    if s.calFunction 3 then
      let ppm := radPpm cycles
      let v := toLE 4 (enc 32 ppm)
      let o := s.obj 0x2A40 2
      let s1 := ((s.wrN (Reg.CAL_RAD_PPM n.val) (enc 32 ppm)).setObj 0x2A40 2 (o.take (4 * n.val) ++ v ++ o.drop (4 * n.val + 4))).initialDone (2 + n.val)
      if 10000 < ppm.natAbs ∧ Nat.testBit s.cal.radNoted n.val = false then
        { (s1.record 0x0B 6 (0x8000 + n.val) (enc 32 (openQuot ppm 100)) 0) with cal := { s1.cal with radNoted := s1.cal.radNoted + 2 ^ n.val } }
      else s1
    else s)

/-- A sensor pair (R400): the upstream and the downstream lantern, LENGTH, and the events counted at each. -/
structure SensorPair where
  i : Nat
  j : Nat
  len : Nat
  deriving DecidableEq, Repr

/-- R400: does a lantern report with a traffic sensor, with its axis set? -/
def State.sensorOk (s : State) (l : Nat) : Bool :=
  !(Nat.beq (s.card l 0x21) 0xFFFF) && Nat.testBit (getKey l 0 s.member.caps) 1

/-- R400: the sensor pairs of the lantern graph. -/
def State.sensorPairs (s : State) : List SensorPair :=
  s.ctl.core.graph.nodes.flatMap (fun n => (n.used.filter (fun w => Nat.beq (edgeKind w) 1 && Nat.ble (s.objN 0x2A50 3) (edgeSplit w) &&
    s.sensorOk n.lantern && s.sensorOk (edgeTo w))).map (fun w => { i := n.lantern, j := edgeTo w, len := edgeLength w }))

/-- R400: the events of a pair at its upstream (`up`) or downstream lantern. -/
def State.pairEvents (s : State) (p : SensorPair) (up : Bool) (evs : List CalEvent) : List CalEvent :=
  if up then evs.filter (fun e => Nat.beq e.lantern p.i && Nat.beq e.dir (if s.card p.i 0x21 = p.j then 0 else 1))
  else evs.filter (fun e => Nat.beq e.lantern p.j && Nat.beq e.dir (if s.card p.j 0x21 = p.i then 1 else 0))

/-- R400: may an event at j match one at i? -/
def State.eventMatches (s : State) (p : SensorPair) (a b : CalEvent) : Bool :=
  let v := s.ctl.core.graph.speed a.group (s.card p.i 0x20)
  Nat.beq a.group b.group && Nat.ble a.time b.time && Nat.ble (p.len * 100000000000) (2 * (b.time - a.time) * v) &&
    Nat.ble ((b.time - a.time) * v) (2 * p.len * 100000000000)

/-- The earliest event of a list that passes a test. -/
def earliest (p : CalEvent → Bool) (l : List CalEvent) : Option CalEvent :=
  (l.filter p).foldl (fun (b : Option CalEvent) e =>
    match b with
    | none => some e
    | some x => if e.time < x.time then some e else some x) none

/-- R400: the matches of a pair, each event matched at most once. -/
def State.matchCount (s : State) (p : SensorPair) (is js : List CalEvent) : Nat :=
  (js.foldl (fun (a : Nat × List CalEvent) b =>
    match earliest (fun x => s.eventMatches p x b) a.2 with
    | some x => (a.1 + 1, a.2.erase x)
    | none => a) (0, is)).1

/-- R400: a pair's n_i, n_j and n_ij in a window. -/
def State.pairCounts (s : State) (p : SensorPair) (evs : List CalEvent) : Nat × Nat × Nat :=
  let motor := evs.filter (fun e => Nat.beq e.group 2)
  let mi := s.pairEvents p true motor
  let mj := s.pairEvents p false motor
  let few := Nat.blt (min mi.length mj.length) (s.objN 0x2A50 2)
  let is := if few then s.pairEvents p true evs else mi
  let js := if few then s.pairEvents p false evs else mj
  (is.length, js.length, s.matchCount p is js)

/-- R400: a lantern's window estimate in 1/65,536, from (n_ij, the count its efficiency divides by) of its pairs; none without
pairs enough. -/
def windowEstimate (l : List (Nat × Nat)) : Option Nat :=
  let (num, den) := l.foldl (fun (a : Nat × Nat) e => (a.1 * e.2 + e.1 * e.1 * a.2, a.2 * e.2)) (0, 1)
  let w := l.foldl (fun a e => a + e.1) 0
  if l.isEmpty || Nat.beq w 0 then none else some (clampN 3277 65535 (openQuot ((num * 65536 : Nat) : Int) (den * w)).toNat)

/-- EFFICIENCY_WINDOW, R400: a window of TRAFFIC_WINDOW hours ends at t. -/
def execEfficiencyWindow (t : Nat) (s : State) : Host.Outcome State Fault Refusal :=
  .next (
    let s0 := s.upTo t
    if s0.calFunction 4 && decide (s0.cal.windowStart + s0.objN 0x2A50 1 * 3600000000000 ≤ t) then
      let evs := s0.cal.events.filter (fun e => Nat.blt e.time t)
      let counts := s0.sensorPairs.map (fun p => (p, s0.pairCounts p evs))
      let ls := (counts.flatMap (fun e => [e.1.i, e.1.j])).eraseDups
      let one (u : State) (l : Nat) : State :=
        let mine := counts.filter (fun e => Nat.beq e.1.i l || Nat.beq e.1.j l)
        let good := mine.filter (fun e => Nat.ble (s0.objN 0x2A50 2) e.2.2.2)
        let u1 := u.setCard l 0x43 4 (mine.foldl (fun a e => a + e.2.2.2) 0)
        match windowEstimate (good.map (fun e => (e.2.2.2, if e.1.i = l then e.2.2.1 else e.2.1))) with
        | none => u1
        | some x =>
          let old := u.card l 0x42
          u1.setCard l 0x42 2 (if old = 0 then x else clampN 1 65535 ((old : Int) + openQuot ((x : Int) - old) 4).toNat)
      let s1 := ls.foldl one s0
      { s1 with cal := { s1.cal with windowStart := t, events := s1.cal.events.filter (fun (e : CalEvent) => Nat.ble t e.time) } }
    else s0)

end Sys2Proof.Machine
end

