-- ==== Sys2Proof/Machine/Time.lean ====
section
/-! DEFINITION. The time base: the local clock, the servo, captures, triggers, network time and the transmit timestamp queue (R116
to R138, R147, R503). -/

namespace Sys2Proof.Machine

/-! ## The servo -/

/-- R121: TIME_SERVO_LIMIT.FREQ_LIMIT in 2^-11 ppt. -/
def State.freqBound (s : State) : Int := ((s.rdF Reg.TIME_SERVO_LIMIT 31 16 * 100000 * 2048 : Nat) : Int)

/-- R123: the servo enters a state; a change of LOCKED sets LOCK_CHANGE. Ring time is absent from then on where it was present
(R123). -/
def State.servoEnter (s : State) (st : Nat) : State :=
  let t := s.time
  let was := decide (t.servoState = 2)
  let now := decide (st = 2)
  let s1 := { s with time := { t with servoState := st, lockedSince := if now then (if was then t.lockedSince else some t.now) else none } }
  let present := (decide (st = 1 ∨ st = 2)) && !(Nat.beq (s.rdF Reg.TIME_SERVO_CTRL 3 2) 1)
  let s2 := { s1 with mode := { s1.mode with ringTimeSince := if present then none else some (s1.mode.ringTimeSince.getD t.now) } }
  if was = now then s2 else s2.wrB Reg.TIME_INT_STAT 21 true

/-- R121: TIME_FREQ_ADJ and TIME_SERVO_INTEG show adj and I, rounded to whole ppt with ties away from zero. -/
def State.servoShow (s : State) : State :=
  (s.wrN Reg.TIME_FREQ_ADJ (enc 32 (divRound s.time.servoAdj 2048))).wrN Reg.TIME_SERVO_INTEG (enc 32 (divRound s.time.servoI 2048))

/-- R123: the lock runs after an offset in 0.25 ns. -/
def State.servoRuns (s : State) (x : Int) : State :=
  let within := decide (x.natAbs ≤ 4 * s.rdF Reg.TIME_SERVO_LOCK 15 0)
  let n := max 1 (s.rdF Reg.TIME_SERVO_LOCK 23 16)
  let a := if within then s.time.inRun + 1 else 0
  let b := if within then 0 else s.time.outRun + 1
  let s1 := { s with time := { s.time with inRun := a, outRun := b } }
  if s.time.servoState = 2 then (if n ≤ b then s1.servoEnter 1 else s1)
  else s1.servoEnter (if n ≤ a then 2 else 1)

/-- R121: the update of I and adj for an offset in 0.25 ns. -/
def State.servoUpdate (s : State) (x : Int) : State :=
  let lim := s.freqBound
  let kp : Int := s.rdF Reg.TIME_SERVO_GAIN 15 0
  let ki : Int := s.rdF Reg.TIME_SERVO_GAIN 31 16
  let i := clampI (-lim) lim (s.time.servoI + ki * x * 125)
  let adj := clampI (-lim) lim (-(kp * x * 125) - i)
  ({ s with time := { s.time with servoI := i, servoAdj := adj } }).servoShow

/-- R121: a write of TIME_FREQ_ADJ stores the value within FREQ_LIMIT; ignored while EN is 1. -/
def State.freqWrite (s : State) (v : Int) : State :=
  if s.rdB Reg.TIME_SERVO_CTRL 0 then s
  else
    let lim := s.freqBound
    let adj := clampI (-lim) lim (v * 2048)
    ({ s with time := { s.time with servoAdj := adj } }).servoShow

/-- HOLDOVER, R123: no offset for HOLD_TIMEOUT seconds while ACQUIRING or LOCKED: the frequency stays at −I. -/
def execHoldover (t : Nat) (s : State) : Host.Outcome State Fault Refusal :=
  .next (
    let s0 := s.upTo t
    if (s0.time.servoState = 1 ∨ s0.time.servoState = 2) ∧
        s0.time.offsetAt + max 1 (s0.rdF Reg.TIME_SERVO_LOCK 31 24) * 1000000000 ≤ s0.time.now then
      ({ s0 with time := { s0.time with servoAdj := -s0.time.servoI, inRun := 0, outRun := 0, utcValid := false } }).servoShow.servoEnter 3
    else s0)

/-! ## Triggers -/

/-- R136: is it a unit with a pin? -/
def pinUnit (n : Nat) : Bool := Nat.ble n 7 || Nat.beq n 11

/-- R42, R246: a changed sample period takes effect at a firing of unit 10: the new grid begins at its first multiple at or after it. -/
def State.periodApply (s : State) (t : Ns) : State :=
  match s.ctl.periodDue with
  | none => s
  | some us =>
    let s1 := { s with ctl := { s.ctl with periodDue := none } }.ctlPeriod us
    let p := 1000 * s1.rdF Reg.CTL_PERIOD 19 0
    (s1.wrN (Reg.TIME_TRIG_PERIOD 10) p).trigMove 10 ((t / p + 1) * p * 4)

/-- R42, R43, R246: CTL's sample period becomes `us`: at the next firing while unit 10 runs, else at once, on the grid of the period. -/
def State.periodSet (s : State) (us : Nat) : State :=
  if s.trigArmed 10 then { s with ctl := { s.ctl with periodDue := some us } }
  else
    let s1 := s.ctlPeriod us
    let p := 1000 * s1.rdF Reg.CTL_PERIOD 19 0
    s1.trigSet 10 ((s.time.now / p + 1) * p * 4) p

/-- What a firing of an internal unit does at an instant in ns (Table 4.4). -/
def State.trigWork (s : State) (n : Nat) (t : Ns) (late : Bool) (samples : List (Option Int)) : State :=
  match n with
  | 8 => s.mtrFire t samples
  | 9 => if late then s.routeFire.calLate else s.routeFire
  | 10 => (s.periodApply t).ctlFire late
  | _ => s

/-- R135, R136: a unit fires at a TIME edge: its pin goes active, a one-shot clears ARM, a periodic unit takes the first instant of
its grid after the edge, and MISSED counts those skipped beyond the one fired. -/
def State.trigGo (s : State) (n edge : Nat) (late : Bool) (samples : List (Option Int)) : State :=
  let u := s.trigger n
  let p := 4 * (s.rd (Reg.TIME_TRIG_PERIOD n)).toNat
  let k := if p = 0 then 0 else (edge - u.next) / p + 1
  let s1 := s.setTrigger n { next := u.next + k * p, pin := u.pin || pinUnit n,
                             pulseEnd := if pinUnit n then edge + 4 * (s.rd (Reg.TIME_TRIG_WIDTH n)).toNat else u.pulseEnd }
  let st := Reg.TIME_TRIG_STAT n
  let s2 := ((s1.wrB st 0 true).wrF st 31 16 (min 0xFFFF (s1.rdF st 31 16 + (k - 1)))).wrB Reg.TIME_INT_STAT n true
  let s3 := if p = 0 then s2.wrB (Reg.TIME_TRIG_CTRL n) 0 false else s2
  let s4 := if late then (s3.wrB st 1 true).bumpObj 0x2120 6 4 else s3
  s4.trigWork n ((if late then edge else u.next) / 4) late samples

/-- TRIGGER_FIRE, R135: the local clock reaches a unit's instant; for unit 8 the frame's samples come with it. -/
def execTriggerFire (n : Fin 16) (t : Nat) (samples : List (Option Int)) (s : State) : Host.Outcome State Fault Refusal :=
  .next (
    let s0 := s.upTo t
    if s0.trigArmed n.val && s0.clockPresent .time && Nat.ble (s0.trigger n.val).next (4 * s0.time.now) then
      s0.trigGo n.val (s0.trigger n.val).next false samples
    else s0)

/-- R136: is an arming refused? -/
def State.trigBad (s : State) (n : Nat) : Bool :=
  let p := (s.rd (Reg.TIME_TRIG_PERIOD n)).toNat
  let w := (s.rd (Reg.TIME_TRIG_WIDTH n)).toNat
  (!(Nat.beq p 0) && Nat.ble p w) || (pinUnit n && Nat.beq w 0) || (Nat.ble 1 p && Nat.ble p 99)

/-- R135, R136: ARM takes effect: refused, armed for an instant ahead, or fired at once with LATE; on a unit that is armed it has no effect (log
entry 58). -/
def State.trigArm (s : State) (n : Nat) : State :=
  if s.trigArmed n then s
  else if s.trigBad n then s.wrB (Reg.TIME_TRIG_STAT n) 2 true
  else
    let q := s.trigInstant n
    let s1 := ((s.wrF (Reg.TIME_TRIG_STAT n) 31 16 0).wrB (Reg.TIME_TRIG_CTRL n) 0 true).setTrigger n { s.trigger n with next := q }
    if q ≤ 4 * s.time.now then s1.trigGo n (4 * s.time.now) true [] else s1

/-- R134: may an initiator program a trigger unit? -/
def trigOwner (ini : Initiator) (n : Nat) : Bool := Nat.ble n 7 || ini.resident

/-- ARM, R135, R147. -/
def execArmTrigger (ini : Initiator) (n : Fin 16) (s : State) : Host.Outcome State Fault Refusal :=
  .next (s.regWrite ini (trigOwner ini n.val) (Reg.TIME_TRIG_CTRL n.val) (fun t => t.trigArm n.val))

/-- DISARM, R136, R147. -/
def execDisarmTrigger (ini : Initiator) (n : Fin 16) (s : State) : Host.Outcome State Fault Refusal :=
  .next (s.regWrite ini (trigOwner ini n.val) (Reg.TIME_TRIG_CTRL n.val) (fun t => t.trigDisarm n.val))

/-- PULSE_END, R136: WIDTH ns after a firing the pin goes inactive. -/
def execPulseEnd (n : Fin 16) (t : Nat) (s : State) : Host.Outcome State Fault Refusal :=
  .next (
    let s0 := s.upTo t
    let u := s0.trigger n.val
    if u.pin && Nat.ble u.pulseEnd (4 * s0.time.now) then s0.setTrigger n.val { u with pin := false } else s0)

/-- R503: resident firmware disarms unit 11, and arms it again at a whole second at least 100 ns ahead where PPS_ENABLE is 1. -/
def State.ppsArm (s : State) : State :=
  let s1 := s.trigDisarm 11
  if s.objN 0x2120 1 = 1 ∧ s.time.loaded = true then
    ((s1.wrN (Reg.TIME_TRIG_WIDTH 11) (s.objN 0x2120 2)).trigSet 11 ((s.time.now + 100 + 999999999) / 1000000000 * 4000000000) 1000000000)
  else s1

/-! ## Steps of the local clock -/

/-- R119: the signed change of a step, split by truncation toward zero and held within I32. -/
def stepParts (d : Int) : Int × Int :=
  let sec := d.tdiv 1000000000
  (clampI (-2147483648) 2147483647 sec, d.tmod 1000000000)

/-- R137: what a step or set from old to new does to an armed unit. -/
def State.trigStepped (s : State) (old new n : Nat) : State :=
  let q := (s.trigger n).next
  if s.trigArmed n && Nat.blt (4 * old) q && Nat.ble q (4 * new) then s.trigGo n (4 * new) true [] else s

/-- R155, R247, R276: firmware re-arms the metering, sampling and slot-mark units after a step from `old` by d: units 8 and 12 to 15 onto the
flywheel grid in the new local time, unit 10 onto its own grid after a backward step larger than the period. -/
def State.rearmStepped (s old : State) (d : Int) : State :=
  let move (t : State) (n : Nat) : State :=
    if old.trigArmed n then t.trigMove n (((old.trigger n).next : Int) + 4 * d).toNat else t
  let s1 := if 250 < d.natAbs then move s 8 else s
  let s2 := if 250000 < d.natAbs then [12, 13, 14, 15].foldl move s1 else s1
  let p := (s2.rd (Reg.TIME_TRIG_PERIOD 10)).toNat
  if d < -(p : Int) then s2.trigMove 10 ((s2.time.now / p + 1) * p * 4) else s2

/-- An instant of the local clock that a step by d moves with it. -/
def shifted (d : Int) (t : Ns) : Ns := ((t : Int) + d).toNat

/-- A number's distance from the nearest multiple of another, halves above. -/
def centred (n : Nat) (x : Int) : Int :=
  let r := x % (n : Int)
  if (n : Int) < 2 * r then r - n else r

/-- The instants of CAN, the ring ports and the local lighting from which a time is counted. -/
def State.busTimersStepped (s : State) (d : Int) : State :=
  let m := shifted d
  let o (x : Option Ns) : Option Ns := x.map m
  { s with
    can := { s.can with
      ctls := s.can.ctls.map (fun (c : CanCtl) =>
        { c with
          bellShift := centred (1000 * c.table.len) (c.bellShift + d),
          cycleAt := o c.cycleAt, enabledAt := m c.enabledAt, ownBell := o c.ownBell, callAt := o c.callAt,
          since := c.since.map (fun (e : Nat × Ns) => (e.1, m e.2)), partials := c.partials.map (fun (p : Partial) => { p with at_ := m p.at_ }) }),
      rollOpen := o s.can.rollOpen, accepted := s.can.accepted.map (fun (e : Nat × Nat × Ns) => (e.1, e.2.1, m e.2.2)), hbLast := o s.can.hbLast },
    net := { s.net with
      dups := s.net.dups.map (fun (e : Nat × Nat × Ns) => (e.1, e.2.1, m e.2.2)), addrs := s.net.addrs.map (fun (e : Nat × Nat × Ns) => (e.1, e.2.1, m e.2.2)),
      supAt := m s.net.supAt, nodes := s.net.nodes.map (fun (e : Nat × Nat × Ns) => (e.1, e.2.1, m e.2.2)), neighbourAt := s.net.neighbourAt.map o, hostq := s.net.hostq.map (fun (f : HostFrame) => { f with headAt := o f.headAt }) },
    snk := { s.snk with
      chans := s.snk.chans.map (fun (k : SnkCh) => { k with openOn := o k.openOn, openOff := o k.openOff, shortOn := o k.shortOn, shortOff := o k.shortOff }),
      clampSince := o s.snk.clampSince, trimSince := s.snk.trimSince.map o },
    hal := s.hal.map (fun (h : HalState) => { h with commit := o h.commit, frameAt := o h.frameAt, endedAt := o h.endedAt, stopsAt := o h.stopsAt }) }

/-- R116: every instant from which a time is counted moves with a step of the local clock, so that the time is the one elapsed; `was` says
whether the clock was loaded before, and an instant taken from the RTC then moves with it too (log entry 49). The end of a pulse in progress keeps
its local time (log entry 58). -/
def State.timersStepped (s : State) (d : Int) (was : Bool) : State :=
  let m := shifted d
  let o (x : Option Ns) : Option Ns := x.map m
  let e (t : Ns) : Ns := if was then m t else t
  ({ s with
    mode := { s.mode with
      entered := e s.mode.entered, transAt := e s.mode.transAt, ringTimeSince := o s.mode.ringTimeSince,
      backhaulSince := o s.mode.backhaulSince, partnerHeard := o s.mode.partnerHeard, canStarted := o s.mode.canStarted,
      mirroredAt := o s.mode.mirroredAt },
    aon := { s.aon with flushStart := e s.aon.flushStart, clockBackSince := s.aon.clockBackSince.map e },
    evr := { s.evr with integratorTimes := s.evr.integratorTimes.map m },
    fault := { s.fault with
      kicks := s.fault.kicks.map (fun (k : Option (Byte × Ns)) => k.map (fun (p : Byte × Ns) => (p.1, e p.2))),
      faultStarts := s.fault.faultStarts.map e, ratingOutAt := s.fault.ratingOutAt.map e },
    time := { s.time with lockedSince := o s.time.lockedSince, offsetAt := m s.time.offsetAt,
                          lastEdge := s.time.lastEdge.map (fun (q : Option Nat) => q.map (fun t => ((t : Int) + 4 * d).toNat)) },
    dict := { s.dict with
      sessions := s.dict.sessions.map (fun (x : Sess) => { x with last := m x.last }),
      xfers := s.dict.xfers.map (fun (x : Xfer) => { x with last := m x.last }),
      authFails := s.dict.authFails.map e, lockout := s.dict.lockout.map e },
    traffic := { s.traffic with heard := s.traffic.heard.map (fun (x : Nat × Ns) => (x.1, m x.2)), lastReport := m s.traffic.lastReport },
    member := { s.member with responses := s.member.responses.map (fun (r : Response) => { r with earliest := m r.earliest }) },
    cal := { s.cal with pointsAt := o s.cal.pointsAt, curve := none },
    upd := { s.upd with countingSince := o s.upd.countingSince, sealUntil := s.upd.sealUntil.map e } }).busTimersStepped d

/-- R119, R137: the local clock changes at one TIME edge, with all that follows a step. -/
def State.clockChange (s : State) (new : Ns) : State :=
  let old := s.time.now
  let d : Int := (new : Int) - old
  let (sec, ns) := stepParts d
  let ep := (s.time.epoch + 1) % 16
  let s0 := s.timersStepped d s.time.loaded
  let s1 := { s0 with time := { s0.time with now := new, loaded := true, epoch := ep, changes := (d :: s0.time.changes).take 15, inRun := 0, outRun := 0 },
                      ctl := { s0.ctl with steps := s0.ctl.steps + (if 0 < d then 1 else 0) } }
  let s2 := (((s1.wrN Reg.TIME_STEP_LAST_SEC (enc 32 sec)).wrN Reg.TIME_STEP_LAST_NS (enc 32 ns)).wrB Reg.TIME_INT_STAT 20 true).bumpObj 0x2100 9 4
  let s3 := s2.record 2 1 ep (enc 32 sec) (enc 32 ns)
  let s4 := if s3.time.servoState = 2 then s3.servoEnter 1 else s3
  let s5 := ((s4.marksStepped d).mtrStepped d).calStepped d
  let s6 := (upFrom 0 16).foldl (fun u n => u.trigStepped old new n) s5
  (s6.rearmStepped s d).winStepped old

/-- TIME_INT_STAT.CMD_ERR (R119). -/
def State.cmdErr (s : State) : State := s.wrB Reg.TIME_INT_STAT 22 true

/-- R119: STEP by a signed number of ns. -/
def State.clockStep (s : State) (d : Int) : State :=
  let new : Int := (s.time.now : Int) + d
  if 0 ≤ new ∧ new < ((2 ^ 48 * 1000000000 : Nat) : Int) then s.clockChange new.toNat else s.cmdErr

/-- R119: SET from TIME_SET_*. -/
def State.clockSet (s : State) : State :=
  let ns := s.rdF Reg.TIME_SET_NS 29 0
  if 999999999 < ns then s.cmdErr
  else s.clockChange ((s.rdF Reg.TIME_SET_SEC_HI 15 0 * 2 ^ 32 + (s.rd Reg.TIME_SET_SEC_LO).toNat) * 1000000000 + ns)

/-- R119: STEP from TIME_STEP_*. -/
def State.clockStepRegs (s : State) : State :=
  let ns := sx 32 (s.rd Reg.TIME_STEP_NS).toNat
  if 999999999 < ns.natAbs then s.cmdErr else s.clockStep (sx 32 (s.rd Reg.TIME_STEP_SEC).toNat * 1000000000 + ns)

/-- R119: a write of TIME_CMD. -/
def State.timeCmd (s : State) (v : Word) : State :=
  match bit v 0, bit v 1 with
  | true, true => s.cmdErr
  | true, false => s.clockSet
  | false, true => s.clockStepRegs
  | false, false => s

/-- SET, R119. -/
def execSetClock (ini : Initiator) (s : State) : Host.Outcome State Fault Refusal :=
  .next (s.regWrite ini ini.resident Reg.TIME_CMD (fun t => t.timeCmd 1))

/-- STEP, R119. -/
def execStepClock (ini : Initiator) (s : State) : Host.Outcome State Fault Refusal :=
  .next (s.regWrite ini ini.resident Reg.TIME_CMD (fun t => t.timeCmd 2))

/-! ## Offsets -/

/-- R121, R122: an offset in 0.25 ns reaches the servo. -/
def State.servoInput (s : State) (x : Int) : State :=
  if !s.rdB Reg.TIME_SERVO_CTRL 0 then s
  else
    let s1 := { (s.wrN Reg.TIME_SERVO_LAST (enc 32 x)) with time := { s.time with lastOffset := x, offsetAt := s.time.now } }
    if s.rdB Reg.TIME_SERVO_CTRL 1 && Nat.blt (4000 * s.rdF Reg.TIME_SERVO_LIMIT 15 0) x.natAbs then
      let s2 := (s1.clockStep (divRound (-x) 4)).servoEnter 1
      { s2 with time := { s2.time with offsetAt := s2.time.now } }
    else (s1.servoUpdate x).servoRuns x

/-- SERVO_OFFSET, R121, R147: a write of TIME_SERVO_OFFSET; a servo whose reference is a PPS input takes none. -/
def execServoOffset (ini : Initiator) (v : Word) (s : State) : Host.Outcome State Fault Refusal :=
  .next (s.regWrite ini ini.resident Reg.TIME_SERVO_OFFSET (fun t =>
    if t.rdF Reg.TIME_SERVO_CTRL 3 2 = 1 then t else t.servoInput (sx 32 v.toNat)))

/-! ## Reading the clock, captures -/

/-- R118: a read of TIME_NOW_NS latches the whole local time for the processor that reads. -/
def State.nowLatch (s : State) (ini : Initiator) : State :=
  let s1 := s.answer (BitVec.ofNat 32 (s.time.now % 1000000000))
  if ini.isCore then { s1 with time := { s1.time with latches := Sparse.set (fun _ => 0) s1.time.latches ini.number s.time.now } } else s1

/-- TIME_NOW_LATCH, R118: a read of TIME_NOW_NS by a processor initiator. -/
def execTimeNowLatch (ini : Initiator) (s : State) : Host.Outcome State Fault Refusal :=
  .next (s.permGate ini Reg.TIME_NOW_NS false (fun t => t.nowLatch ini))

/-- R131: a capture record as one number: its four words, the first lowest. -/
def State.captRecord (s : State) (input : Nat) (rising : Bool) (q : Nat) : Nat :=
  let ns := q / 4
  let sec := ns / 1000000000
  (input + 8 * b2n rising + 2 ^ 7 + 2 ^ 8 * s.time.epoch + 2 ^ 16 * (sec / 2 ^ 32 % 2 ^ 16)) + 2 ^ 32 * (sec % 2 ^ 32) +
    2 ^ 64 * (ns % 1000000000 + 2 ^ 30 * (q % 4)) + 2 ^ 96 * (ns % 2 ^ 32)

/-- R30, R32, R132: does queue 22 take no further record? It is full or held, or its stalled write side still offers the one before. -/
def State.captFull (s : State) : Bool :=
  let d := (s.queue 22).seeReads 4 16
  Nat.ble 16 (d.wcount 4) || d.hold || (d.stallWrite && d.offered.isSome)

/-- R131: a record's place in order: its TIME edge, then its input. -/
def captKey (r : Nat) : Nat × Nat := ((r / 2 ^ 16 % 2 ^ 48) * 2 ^ 30 + r / 2 ^ 64 % 2 ^ 30, r % 8)

/-- R131: a record put into the queue: behind those of earlier edges, and among those of its own TIME edge in input order. -/
def captInsert (r : Nat) : List Nat → List Nat
  | [] => [r]
  | e :: t => if decide ((captKey e).1 = (captKey r).1) && Nat.blt (captKey r).2 (captKey e).2 then r :: e :: t else e :: captInsert r t

/-- R131: a record pushed to queue 22 and seen by its reader. -/
def State.captPush (s : State) (r : Nat) : State :=
  let d := ((s.queue 22).seeReads 4 16).push 4 r
  s.setQueue 22 ({ d with entries := captInsert r d.entries.dropLast }.seeWrites 4 16)

/-- R131, R132: a record for which queue 22 has no room is dropped; where it is full the records of one TIME edge are queued in input order, and the
last of them is the one dropped. -/
def State.captLose (s : State) (r : Nat) : State :=
  let d := s.queue 22
  let s1 := if d.entries.length = 16 then s.setQueue 22 { d with entries := (captInsert r d.entries).take 16 } else s
  ((s1.bump Reg.TIME_CAPT_DROP 1).bumpObj 0x2120 4 4).wrB Reg.TIME_INT_STAT 17 true

/-- R121: the offset of a captured pulse, in 0.25 ns. -/
def ppsOffset (q : Nat) : Int :=
  let f : Int := (q % 4000000000 : Nat)
  if f < 2000000000 then f else f - 4000000000

/-- CAPTURE_EDGE, R131, R132: an edge on CAPT n at an instant in 0.25 ns: ignored within 8 ns of the last, the servo's reference,
dropped where queue 22 is full, or recorded. -/
def execCaptureEdge (n : Fin 8) (rising : Bool) (q : Nat) (s : State) : Host.Outcome State Fault Refusal :=
  .next (
    let s0 := s.upTo (q / 4)
    let e := s0.rdF Reg.TIME_CAPT_CTRL (2 * n.val + 1) (2 * n.val)
    if !s0.clockPresent .time || !Nat.testBit e (if rising then 0 else 1) then s0
    else if (match s0.time.lastEdge.getD n.val none with
      | some l => decide (q < l + 32)
      | none => false) then s0.bump Reg.TIME_CAPT_FAST 1
    else
      let s1 := { s0 with time := { s0.time with lastEdge := setAt s0.time.lastEdge n.val (some q) } }
      if s1.rdF Reg.TIME_SERVO_CTRL 3 2 = 1 ∧ s1.rdF Reg.TIME_SERVO_CTRL 6 4 = n.val then s1.servoInput (ppsOffset q)
      else if s0.captFull then s0.captLose (s0.captRecord n.val rising q)
      else (s1.captPush (s1.captRecord n.val rising q)).wrB Reg.TIME_INT_STAT 16 true)

/-- R131: word w of the oldest capture record. -/
def State.captWord (s : State) (w : Nat) : Word := BitVec.ofNat 32 ((s.queue 22).entries.headD 0 / 2 ^ (32 * w))

/-- R131: the read of TIME_CAPT_REC3 removes the oldest record. -/
def State.captRemove (s : State) : State := (s.answer (s.captWord 3)).setQueue 22 (((s.queue 22).seeWrites 4 16).pop 4)

/-- CAPTURE_RECORD_REMOVE, R131. -/
def execCaptureRecordRemove (s : State) : Host.Outcome State Fault Refusal := .next s.captRemove

/-! ## The transmit timestamp queue -/

/-- TIME_TSQ_STAT.COUNT follows the queue. -/
def State.tsqCount (s : State) : State := s.wrF Reg.TIME_TSQ_STAT 4 0 s.time.tsq.length

/-- R128, R129: a stamp enters the queue, or is discarded and counted. -/
def State.tsqPush (s : State) (e : TsqEntry) : State :=
  if Nat.blt s.time.tsq.length 16 then
    ({ s with time := { s.time with tsq := s.time.tsq ++ [e] } }).tsqCount.wrB Reg.TIME_INT_STAT 18 true
  else
    (((s.wrB Reg.TIME_TSQ_STAT 8 true).wrF Reg.TIME_TSQ_STAT 31 16 (min 0xFFFF (s.rdF Reg.TIME_TSQ_STAT 31 16 + 1))).wrB
      Reg.TIME_INT_STAT 19 true).bumpObj 0x2120 5 4

/-- Table 4.11: TIME_TSQ_ID of an entry. -/
def TsqEntry.idWord (e : TsqEntry) : Word := BitVec.ofNat 32 (e.frameId % 2 ^ 16 + 2 ^ 16 * (e.port % 4) + 2 ^ 20 * (e.epoch % 16) + 2 ^ 31)

/-- R129, R147: a read of TIME_TSQ_ID latches the oldest entry; core 3 reads 0. -/
def State.tsqHead (s : State) (ini : Initiator) : State :=
  if ini.resident then
    let s1 := { s with time := { s.time with tsqLatch := s.time.tsq.head? } }
    s1.answer (match s.time.tsq.head? with
      | some e => e.idWord
      | none => 0)
  else s.answer 0

/-- R129, R147: a read of TIME_TSQ_NS removes the latched entry. -/
def State.tsqTake (s : State) (ini : Initiator) : State :=
  if ini.resident then
    match s.time.tsqLatch with
    | some e => ({ (s.answer (BitVec.ofNat 32 (e.time % 1000000000 + 2 ^ 30 * e.quarter))) with
        time := { s.time with tsq := s.time.tsq.drop 1, tsqLatch := none } }).tsqCount
    | none => s.answer 0
  else s.answer 0

/-- TSQ_LATCH, R129, R147: a read of TIME_TSQ_ID by a resident initiator latches the oldest entry; core 3 reads 0. -/
def execTsqLatch (ini : Initiator) (s : State) : Host.Outcome State Fault Refusal :=
  .next (s.permGate ini Reg.TIME_TSQ_ID false (fun t => t.tsqHead ini))

/-- TSQ_REMOVE, R129, R147: a read of TIME_TSQ_NS returns the latched entry's nanoseconds and removes the entry. -/
def execTsqRemove (ini : Initiator) (s : State) : Host.Outcome State Fault Refusal :=
  .next (s.permGate ini Reg.TIME_TSQ_NS false (fun t => t.tsqTake ini))

/-! ## Network time -/

/-- A ring port's peer delay state: port A (false) or B. -/
def State.peer (s : State) (b : Bool) : PeerDelay := if b then s.time.peerB else s.time.peerA

/-- A ring port's peer delay state replaced. -/
def State.setPeer (s : State) (b : Bool) (p : PeerDelay) : State :=
  if b then { s with time := { s.time with peerB := p } } else { s with time := { s.time with peerA := p } }

/-- R126: PEER_DELAY: the sum of the last 16 measurements and their number. -/
def PeerDelay.sum (p : PeerDelay) : Nat := p.delays.foldl (fun a d => a + d) 0

/-- R126: is a port PTP-capable? Not with a peer delay above 100 µs, or with fewer than 3 answers of 8 requests. -/
def PeerDelay.capable (p : PeerDelay) : Bool :=
  Nat.ble p.sum (400000 * p.delays.length) && !(p.delays.isEmpty) &&
    !(Nat.beq p.answers.length 8 && Nat.blt (p.answers.filter (fun x => x)).length 3)

/-- PEER_DELAY_REQUEST, R126: one request on a ring port, and the delay its answer gave, in 0.25 ns, if it came. -/
def execPeerDelayRequest (b : Bool) (delay : Option Nat) (s : State) : Host.Outcome State Fault Refusal :=
  .next (
    let p := s.peer b
    let ds := match delay with
      | some d => (d :: p.delays).take 16
      | none => p.delays
    let p1 := { p with delays := ds, answers := (delay.isSome :: p.answers).take 8 }
    let s1 := s.setPeer b p1
    if ds.isEmpty then s1
    else s1.setObjN 0x2110 (if b then 8 else 7) 4 (enc 32 (openQuot (p1.sum : Nat) ds.length)))

/-- R127: what is known of the clocks heard on a PTP port: ring port A (0) or B (1), or the maintenance port (2). -/
def State.syncPeer (s : State) (p : Nat) : PeerDelay := if p = 2 then s.time.peerM else s.peer (Nat.beq p 1)

/-- R127: that of a PTP port replaced. -/
def State.setSyncPeer (s : State) (p : Nat) (d : PeerDelay) : State :=
  if p = 2 then { s with time := { s.time with peerM := d } } else s.setPeer (Nat.beq p 1) d

/-- R126, R127: is a port one on which a Sync is used? A ring port that is PTP-capable; the maintenance port in role 2. -/
def State.syncPort (s : State) (p : Nat) : Bool :=
  if p = 2 then Nat.beq (s.objN 0x2110 1) 2 else (s.peer (Nat.beq p 1)).capable

/-- R127: the port a slave takes offsets from: of those on which a clock that may be followed is heard, the one with the smaller stepsRemoved; port A
when the ring ports are equal, and a ring port before the maintenance port (log entry 59). -/
def State.slaveChoice (s : State) : Option Nat :=
  ((upFrom 0 3).filter (fun p => s.syncPort p && (s.syncPeer p).heard)).foldl (fun (best : Option Nat) p =>
    match best with
    | none => some p
    | some b => if Nat.blt (s.syncPeer p).stepsRemoved (s.syncPeer b).stepsRemoved then some p else best) none

/-- R127: the module becomes master: it follows no clock. -/
def State.becomeMaster (s : State) : State :=
  ({ s with time := { s.time with isMaster := true, slavePort := 0, utcValid := false } }).setObjN 0x2110 0x0B 1 0

/-- R127: the module becomes the slave of a clock heard on a port. -/
def State.becomeSlave (s : State) (p : Nat) : State :=
  ({ s with time := { s.time with isMaster := false, slavePort := p + 1 } }).setObjN 0x2110 0x0B 1 (p + 1)

/-- R145: UTC_OFFSET follows the currentUtcOffset of a grandmaster that marks it valid. -/
def State.utcFollow (s : State) (utc : Option (BitVec 16)) : State :=
  match utc with
  | none => { s with time := { s.time with utcValid := false } }
  | some u =>
    { (s.setObjN 0x2100 2 2 u.toNat) with
      time := { s.time with utcValid := true, offsetChanged := s.time.offsetChanged || !(Nat.beq (s.objN 0x2100 2) u.toNat) } }

/-- PTP_SYNC, R127: a Sync on a PTP port with its sender's stepsRemoved and grandmaster, the offset it yields in 0.25 ns, whether its sender is the
better clock under the best master clock algorithm, and the grandmaster's currentUtcOffset where it marks it valid. In role 0 every sender is
followed; in the others a sender that is not the better clock is not, and a module that hears no clock to follow is master. -/
def execPtpSync (p : Fin 3) (steps gm : Nat) (better : Bool) (utc : Option (BitVec 16)) (x : Int) (s : State) : Host.Outcome State Fault Refusal :=
  .next (
    let n := p.val
    if !s.syncPort n then s
    else
      let s1 := s.setSyncPeer n { s.syncPeer n with heard := better || Nat.beq (s.objN 0x2110 1) 0, stepsRemoved := steps }
      match s1.slaveChoice with
      | none => s1.becomeMaster
      | some c =>
        let s2 := s1.becomeSlave c
        if c = n then
          let s3 := ((s2.setObjN 0x2110 9 8 gm).setObjN 0x2110 0x0A 2 steps).utcFollow utc
          if s3.rdF Reg.TIME_SERVO_CTRL 3 2 = 1 then s3 else s3.servoInput x
        else s2)

/-- SYNC_PORT_CHANGE, R127: 3 Sync intervals have passed without a Sync on the chosen port: the next Sync on another is taken. A module in role 1 or 2
that then hears no clock becomes master. -/
def execSyncPortChange (s : State) : Host.Outcome State Fault Refusal :=
  .next (
    let p := s.time.slavePort
    let s1 := if Nat.beq p 0 then s else s.setSyncPeer (p - 1) { s.syncPeer (p - 1) with heard := false }
    if s1.slaveChoice.isNone && Nat.ble 1 (s1.objN 0x2110 1) then s1.becomeMaster else s1)

end Sys2Proof.Machine
end

