-- ==== Sys2Proof/Machine/Can.lean ====
section
/-! DEFINITION. The cabinet bus: reception, transmission, the Timetable and the Bell, start-of-frame stamps, fragments, and roll call
(R303 to R332). -/

namespace Sys2Proof.Machine

/-! ## Controllers, message RAM and counters -/

/-- A controller's state. -/
def State.ctl_ (s : State) (b : Nat) : CanCtl := s.can.ctls.getD b {}

/-- A controller's state replaced. -/
def State.setCtl (s : State) (b : Nat) (c : CanCtl) : State := { s with can := { s.can with ctls := setAt s.can.ctls b c } }

/-- A bit of CANn_INT_STAT set. -/
def State.canInt (s : State) (b i : Nat) : State := s.wrB (Reg.CAN_INT_STAT b) i true

/-- BUS_COUNTERS of a bus: 0 RX_DROPS, 1 FIFO_LOST, 2 BUS_OFFS, 3 BELLS_LATE, 4 MASTER_CHANGES, 5 REDUNDANT_COPIES. -/
def State.canCount (s : State) (b k : Nat) : State := s.bumpU32 (0x2710 + b) 3 k 1

/-- BAD_FRAMES of a bus: 0 FORMAT, 1 FRAGMENT, 2 UNKNOWN, 3 MIC, 4 REPLAY, 5 CLOSED, 6 PRESENT_REJECTED. -/
def State.canBad (s : State) (b k : Nat) : State := s.bumpU32 (0x2710 + b) 4 k 1

/-- The base of a controller's registers. -/
def canBase (b : Nat) : Nat := 0x400C0000 + 0x10000 * b

/-- A word of message RAM at an offset of Table 10.12. -/
def State.canWord (s : State) (b off : Nat) : Word := s.rd (canBase b + off)

/-- n bytes of message RAM from an offset that is a multiple of 4. -/
def State.canBytes (s : State) (b off n : Nat) : List Byte := ((upFrom 0 ((n + 3) / 4)).flatMap (fun k => toLE 4 (s.canWord b (off + 4 * k)).toNat)).take n

/-- Words written to message RAM from an offset. -/
def State.canPut (s : State) (b off : Nat) (bytes : List Byte) : State :=
  (upFrom 0 (bytes.length / 4)).foldl (fun t k => t.wrN (canBase b + off + 4 * k) (leAt bytes (4 * k) 4)) s

/-- ISO 11898-1: the data bytes of a data length code. -/
def dlcLength (fdf : Bool) (dlc : Nat) : Nat :=
  if dlc ≤ 8 then dlc else if !fdf then 8
  else (([12, 16, 20, 24, 32, 48, 64] : List Nat)).getD (dlc - 9) 64

/-- ISO 11898-1: the smallest data length code that holds n bytes. -/
def dlcFor (n : Nat) : Nat := ((upFrom 0 16).find? (fun d => Nat.ble n (dlcLength true d))).getD 15

/-- Is a controller enabled and able to send and receive: clocked, not in bus-off? -/
def State.canOn (s : State) (b : Nat) : Bool :=
  s.rdB (Reg.CAN_CTRL b) 0 && s.clockPresent .canf && !(Nat.beq (s.rdF (Reg.CAN_STATUS b) 1 0) 2)

/-- R323: is listen-only in effect? -/
def State.canListens (s : State) (b : Nat) : Bool := s.rdB (Reg.CAN_STATUS b) 2

/-! ## Stamps -/

/-- R322: counts since the latest reference. -/
def countsSince (mark count : Nat) : Nat := (count + 2 ^ 32 - mark % 2 ^ 32) % 2 ^ 32

/-- R322: the STAMP32 of a start of frame, its EPOCH, and STAMP_VALID. -/
def State.canStamp (s : State) (b count : Nat) : Nat × Nat × Bool :=
  let c := s.ctl_ b
  match c.mark with
  | none => (0, 0, false)
  | some (cb, sb, ep) =>
    let d := countsSince cb count
    ((sb + (nearQuot ((c.rate.1 * d : Nat) : Int) c.rate.2).toNat) % 2 ^ 32, ep,
      Nat.blt d 8000000 && s.clockPresent .canf && s.clockPresent .time)

/-- R322: a basic-cycle start at a count and a local instant: the internal capture, the reference pair and RATE. -/
def State.canMark (s : State) (b count : Nat) (t : Ns) : State :=
  let c := s.ctl_ b
  let stamp := t % 2 ^ 32
  let rate := match c.mark with
    | some (cp, sp, ep) =>
      let d := countsSince cp count
      if ep = s.time.epoch ∧ d ≠ 0 then ((stamp + 2 ^ 32 - sp) % 2 ^ 32, d) else c.rate
    | none => c.rate
  let s1 := (if s.clockPresent .time then s.icap b else s).setCtl b { c with mark := some (count, stamp, s.time.epoch), rate := rate, cycleCount := count, cycleAt := some t }
  (s1.wrN (Reg.CAN_MARK_STAMP b) stamp).wrN (Reg.CAN_MARK_RATE b) (openQuot ((rate.1 * 2 ^ 24 : Nat) : Int) rate.2).toNat

/-! ## Receiving -/

/-- R307: does a filter element match an identifier? -/
def filterMatch (w0 w1 : Word) (f : CanFrame) : Bool :=
  let m := fld w0 1 0
  let a := fld w0 31 3
  let b := fld w1 31 3
  Bool.and (decide (bit w0 2 = f.xtd)) (match m with
    | 1 => Nat.ble a f.id && Nat.ble f.id b
    | 2 => Nat.beq f.id a || Nat.beq f.id b
    | 3 => Nat.beq (f.id &&& b) (a &&& b)
    | _ => false)

/-- R307: the first filter element that matches, and the ROUTE of the frame. -/
def State.canRoute (s : State) (b : Nat) (f : CanFrame) : Nat × Nat :=
  match (upFrom 0 256).find? (fun e => filterMatch (s.canWord b (0x8000 + 8 * e)) (s.canWord b (0x8004 + 8 * e)) f) with
  | some e => (e, fld (s.canWord b (0x8004 + 8 * e)) 1 0)
  | none => (0xFF, if s.rdB (Reg.CAN_CTRL b) 9 then 1 else 0)

/-- The address of CANn_FIFOk_STAT. -/
def fifoStat (b k : Nat) : Nat := canBase b + 0x60 + 8 * k

/-- Is the controller running the Timetable (R317)? -/
def State.canTimed (s : State) (b : Nat) : Bool :=
  s.rdB (Reg.CAN_CTRL b) 2 && (s.rdB (Reg.CAN_STATUS b) 3 || s.rdB (Reg.CAN_STATUS b) 4)

/-- Table 10.3: a receive element. -/
def State.rxElement (s : State) (b filter : Nat) (f : CanFrame) (count : Nat) : List Byte :=
  let (stamp, ep, ok) := s.canStamp b count
  let dlc := if f.fdf then dlcFor f.data.length else f.data.length
  toLE 4 (f.id % 2 ^ 29 + 2 ^ 29 * b2n f.xtd + 2 ^ 30 * b2n f.rtr + 2 ^ 31 * b) ++
    toLE 4 (dlc + 16 * b2n f.fdf + 32 * b2n f.brs + 64 * b2n f.esi + 128 * b2n ok + 256 * filter + 2 ^ 16 * ep +
      2 ^ 24 * (if s.canTimed b then s.rdF (Reg.CAN_STATUS b) 13 8 else 0)) ++ toLE 4 stamp ++ toLE 4 0 ++
    (f.data ++ List.replicate 64 0).take 64

/-- R309: an element stored in FIFO k, or dropped and counted. Answers whether it was stored. -/
def State.fifoStore (s : State) (b k : Nat) (e : List Byte) : Bool × State :=
  let a := fifoStat b k
  if s.rdF a 6 0 = 64 then
    let l := Reg.CAN_FIFO_LOST b
    (false, ((s.wrF l (16 * k + 15) (16 * k) (min 0xFFFF (s.rdF l (16 * k + 15) (16 * k) + 1))).canInt b (2 + k)).canCount b 1)
  else
    let put := s.rdF a 21 16
    let fill := s.rdF a 6 0 + 1
    let s1 := s.canPut b (0xA400 + 0x1400 * k + 80 * put) e
    (true, (((s1.wrF a 6 0 fill).wrF a 21 16 ((put + 1) % 64)).wrB a 24 (Nat.beq fill 64)).canInt b k)

/-- R324: the envelope bytes a fragment carries; `index`, LAST and PAD stand in byte 1. -/
def fragmentBytes (d : List Byte) : List Byte :=
  if Nat.testBit (leAt d 1 1) 3 then (d.drop 2).take (d.length - 2 - leAt d 1 1 / 16) else d.drop 2

/-- R324: a fragment joins the envelope bytes its sender's earlier ones gave; LAST completes it for its receiver. -/
def State.fragmentJoin (s : State) (b node : Nat) (old d : List Byte) (rest : List Partial) : State :=
  let c := s.ctl_ b
  let dst := leAt d 0 1
  let bytes := old ++ fragmentBytes d
  if Nat.testBit (leAt d 1 1) 3 then
    let s1 := s.setCtl b { c with partials := rest }
    if dst = 0 then { s1 with can := { s1.can with envelopes := s1.can.envelopes ++ [(b, node, bytes)] } } else s1
  else s.setCtl b { c with partials := rest ++ [{ node := node, dst := dst, index := leAt d 1 1 % 8 + 1, bytes := bytes, at_ := s.time.now }] }

/-- R324: a fragment from a node joins its partial envelope; out of order, the partial envelope is discarded and counted, and a fragment of
INDEX 0 begins the next. -/
def State.fragment (s : State) (b node : Nat) (d : List Byte) : State :=
  let c := s.ctl_ b
  let dst := leAt d 0 1
  let ix := leAt d 1 1 % 8
  let rest := c.partials.filter (fun (p : Partial) => !(Nat.beq p.node node && Nat.beq p.dst dst))
  let cur := c.partials.find? (fun p => Nat.beq p.node node && Nat.beq p.dst dst)
  let want := match cur with
    | some p => p.index
    | none => 0
  let late : Bool := match cur with
    | some p => Nat.blt (p.at_ + 100000000) s.time.now
    | none => false
  if ix ≠ want ∨ late = true then
    let s1 := (s.setCtl b { c with partials := rest }).canBad b 1
    if ix = 0 then s1.fragmentJoin b node [] d rest else s1
  else
    s.fragmentJoin b node (match cur with
      | some p => p.bytes
      | none => []) d rest

/-- R306: does a frame of a Jarxia identifier keep its format? -/
def canFormed (f : CanFrame) : Bool :=
  let n := f.data.length
  if f.xtd then !(Nat.ble 0x1E000000 f.id && Nat.ble f.id 0x1EFFFFFF) || (f.fdf && Nat.beq n 20)
  else if 0x300 ≤ f.id then true
  else if f.id ≤ 7 then f.fdf && !f.brs && Nat.beq n 12
  else if f.id = 8 then f.fdf && Nat.beq n 24
  else if f.id = 0x10 then f.fdf && Nat.beq n 12
  else if f.id = 0x11 then f.fdf && Nat.beq n 48
  else if 0x81 ≤ f.id ∧ f.id ≤ 0xFE then f.fdf && Nat.beq n 16
  else if 0x200 ≤ f.id ∧ f.id ≤ 0x27E then f.fdf && f.brs && Nat.ble 3 n
  else false

/-- R306, R324: resident firmware on a frame that entered FIFO 1: the format check, and the fragments. -/
def State.canFirmware (s : State) (b : Nat) (f : CanFrame) : State :=
  if !canFormed f then s.canBad b 0
  else if !f.xtd && Nat.ble 0x201 f.id && Nat.ble f.id 0x27E then s.fragment b (f.id - 0x200) f.data
  else s

/-- R307: a frame out of its queue: filtered, stamped and stored. -/
def State.canDeliver (s : State) (b : Nat) (f : CanFrame) (count : Nat) : State :=
  let (e, r) := s.canRoute b f
  if r = 0 then s
  else
    let (ok, s1) := s.fifoStore b (if r = 1 then 0 else 1) (s.rxElement b e f count)
    let s2 := if ok && Nat.beq r 3 then s1.canInt b 16 else s1
    if ok && Nat.ble 2 r then s2.canFirmware b f else s2

/-- R308: a frame dropped at a full queue. -/
def State.canRxDrop (s : State) (b : Nat) : State := ((s.bump (Reg.CAN_RX_DROP b) 1).canInt b 12).canCount b 0

/-- R32, R308, R471: a received frame at queue 24 or 25: dropped where the queue is full, or where its stalled write side still offers the
frame before; held while a side is stalled; else delivered. -/
def State.canQueue (s : State) (b : Nat) (f : CanFrame) (count : Nat) : State :=
  let q := (s.queue (24 + b)).seeReads 4 16
  let c := s.ctl_ b
  if Nat.ble 16 (q.wcount 4) || (q.stallWrite && q.offered.isSome) then s.canRxDrop b
  else if q.stallRead || q.stallWrite then (s.setQueue (24 + b) (q.push 4 count)).setCtl b { c with held := c.held ++ [(f, count)] }
  else s.canDeliver b f count

/-- R303, ISO 11898-1: the error counters of a controller, and the error state they give; bus-off raises CAN_BUS. REC at 128 and above shows
as RP with the count past 128 (log entry 60). -/
def State.canErrors (s : State) (b tec rx : Nat) : State :=
  let e := Reg.CAN_ERR b
  let st := Reg.CAN_STATUS b
  let s1 := (s.wrF e 7 0 (min 255 tec)).wrF e 15 8 (min 255 rx)
  if 255 < tec then
    (((s1.wrF st 1 0 2).wrF e 31 16 (min 0xFFFF (s.rdF e 31 16 + 1))).canInt b 11).canCount b 2 |>.raiseActive 28
  else if 128 ≤ tec ∨ 128 ≤ rx then (if s.rdF st 1 0 = 0 then (s1.wrF st 1 0 1).canInt b 10 else s1)
  else s1.wrF st 1 0 0

/-- ISO 11898-1: the receive error counter after a frame received: one less, and from 128 on a value of 119 to 127, which the standard
leaves open. -/
def State.recAfter (s : State) (rx : Nat) : Nat × State :=
  if rx ≤ 127 then (rx - 1, s) else let (v, s1) := s.free; (119 + v % 9, s1)

/-- CAN_RECEIVE, R303, R307, R308, R323: a frame from another node, its start of frame at a count and its end at local instant t; `err` is 0, or what
ISO 11898-1 adds to the receive error counter for an error in it, and then it is not received. It crosses queue 24 or 25; at a full queue it is
dropped. -/
def execCanReceive (b : Fin 2) (f : CanFrame) (err count t : Nat) (s : State) : Host.Outcome State Fault Refusal :=
  .next (
    let s0 := s.upTo t
    let q := s0.queue (24 + b.val)
    if !s0.canOn b.val || q.hold then s0
    else
      let tec := s0.rdF (Reg.CAN_ERR b.val) 7 0
      let rx := s0.rdF (Reg.CAN_ERR b.val) 15 8
      let r := if err = 0 then s0.recAfter rx else (rx + err, s0)
      let s1 := if s0.canListens b.val then s0 else r.2.canErrors b.val tec r.1
      if err = 0 then s1.canQueue b.val f count else s1)

/-- R31: the read side of queue 24 or 25 pops an entry and sees the next. -/
def State.canPop (s : State) (b : Nat) : State := s.setQueue (24 + b) ((((s.queue (24 + b)).seeWrites 4 16).pop 4).seeReads 4 16)

/-- R471: once neither side is stalled, the frames a stalled queue held leave it in order. -/
def State.canDrain (s : State) (b : Nat) : State :=
  let c := s.ctl_ b
  c.held.foldl (fun t e => (t.canPop b).canDeliver b e.1 e.2) (s.setCtl b { c with held := [] })

/-- R309: the COUNT oldest elements of FIFO k are released. -/
def State.fifoFree (s : State) (b k n : Nat) : State :=
  let a := fifoStat b k
  let m := min n (s.rdF a 6 0)
  ((s.wrF a 6 0 (s.rdF a 6 0 - m)).wrF a 13 8 ((s.rdF a 13 8 + m) % 64)).wrB a 24 (Nat.beq (s.rdF a 6 0 - m) 64)

/-- FIFO_RELEASE, R309, R332: FIFO 1 is resident firmware's. -/
def execFifoRelease (ini : Initiator) (b k : Fin 2) (v : Word) (s : State) : Host.Outcome State Fault Refusal :=
  .next (s.regWrite ini (Nat.beq k.val 0 || ini.resident) (canBase b.val + 0x64 + 8 * k.val) (fun t => t.fifoFree b.val k.val (fld v 6 0)))

/-! ## Transmit buffers -/

/-- The register of a bit-per-buffer pair: 0x40 TX_REQ, 0x48 TX_CANCEL, 0x50 TX_DONE. -/
def bufReg (b off m : Nat) : Nat := canBase b + off + 4 * (m / 32)

/-- Is buffer m pending? -/
def State.bufPending (s : State) (b m : Nat) : Bool := s.rdB (bufReg b 0x40 m) (m % 32)

/-- Word w of buffer m (Table 10.4). -/
def State.bufWord (s : State) (b m w : Nat) : Word := s.canWord b (0x9000 + 80 * m + 4 * w)

/-- The frame of a buffer. -/
def State.bufFrame (s : State) (b m : Nat) : CanFrame :=
  let w0 := s.bufWord b m 0
  let w1 := s.bufWord b m 1
  let n := dlcLength (bit w1 4) (fld w1 3 0)
  let rtr := bit w0 30 && !bit w1 4
  { id := if bit w0 29 then fld w0 28 0 else fld w0 10 0, xtd := bit w0 29, rtr := rtr, fdf := bit w1 4, brs := bit w1 5,
    data := if rtr then [] else s.canBytes b (0x9000 + 80 * m + 8) n }

/-- Is a buffer eligible in arbitration (Table 10.4, ARB)? -/
def State.bufArb (s : State) (b m : Nat) : Bool := bit (s.bufWord b m 1) 16

/-- R312, R324: where a resident frame may wait: a free buffer of 48 to 63 above every pending one of its identifier, so that frames of one
identifier go out in the order they came; none while an earlier one of its identifier still waits for a buffer. -/
def State.canSpot (s : State) (b : Nat) (f : CanFrame) : Option Nat :=
  let low := (upFrom 48 16).foldl (fun (a : Nat) m => if s.bufPending b m && Nat.beq (s.bufFrame b m).id f.id then m + 1 else a) 48
  if (s.ctl_ b).waiting.any (fun (x : CanFrame) => Nat.beq x.id f.id) then none
  else (upFrom 48 16).find? (fun m => Nat.ble low m && !s.bufPending b m)

/-- A resident frame becomes pending in a buffer of its own, or waits until one is free. -/
def State.canPlace (s : State) (b : Nat) (f : CanFrame) : State :=
  match s.canSpot b f with
  | some m =>
    let dlc := if f.fdf then dlcFor f.data.length else f.data.length
    let bytes := toLE 4 (f.id % 2 ^ 29 + 2 ^ 29 * b2n f.xtd) ++ toLE 4 (dlc + 16 * b2n f.fdf + 32 * b2n f.brs + 2 ^ 16) ++
      (f.data ++ List.replicate 64 0).take 64 ++ toLE 8 0
    let s1 := (s.canPut b (0x9000 + 80 * m) bytes).wrB (bufReg b 0x40 m) (m % 32) true
    s1.setCtl b { s1.ctl_ b with attempts := putKey m 0 (s1.ctl_ b).attempts, since := putKey m s1.time.now (s1.ctl_ b).since }
  | none => s.setCtl b { s.ctl_ b with waiting := (s.ctl_ b).waiting ++ [f] }

/-- R305: may the module's own frames be sent on a bus: enabled, not in bus-off, not listening? -/
def State.canSends (s : State) (b : Nat) : Bool := s.canOn b && !s.canListens b && !s.aon.flushing

/-- R305: a frame of the module on both buses; a bus that cannot send is skipped. -/
def State.canBoth (s : State) (f : CanFrame) : State :=
  let s1 := if s.canSends 0 then s.canPlace 0 f else s
  if s1.canSends 1 then s1.canPlace 1 f else s1

/-- Resident frames that waited take buffers that have come free. -/
def State.canRefill (s : State) (b : Nat) : State :=
  let c := s.ctl_ b
  c.waiting.foldl (fun t f => t.canPlace b f) (s.setCtl b { c with waiting := [] })

/-- R310: a buffer returns with a STATUS; its stamp and attempts are written back. -/
def State.bufReturn (s : State) (b m status : Nat) : State :=
  let a := 0x9000 + 80 * m + 76
  let n := min 255 (getKey m 0 (s.ctl_ b).attempts)
  let w := s.canWord b a
  let s1 := (s.wr (canBase b + a) (setFld (setFld w 3 0 status) 15 8 n)).wrB (bufReg b 0x40 m) (m % 32) false
  let s2 := ((s1.wrB (bufReg b 0x48 m) (m % 32) false).wrB (bufReg b 0x50 m) (m % 32) true).canInt b 4
  let s3 := if status = 1 ∨ status = 3 then s2.canInt b 5 else s2
  s3.canRefill b

/-- The buffers of a mask, half by half, below 64. -/
def bufsOf (hi : Bool) (v : Word) : List Nat := ((upFrom 0 32).filter (fun i => bit v i)).map (fun i => if hi then 32 + i else i)

/-- R310: may an initiator act on a buffer? Buffers 48 to 63 are resident firmware's. -/
def bufOwner (ini : Initiator) (m : Nat) : Bool := Nat.blt m 48 || ini.resident

/-- R310: a buffer requested: it becomes pending. -/
def State.bufRequest (s : State) (b m : Nat) : State :=
  if s.bufPending b m then s
  else
    let s1 := s.wrB (bufReg b 0x40 m) (m % 32) true
    s1.setCtl b { s1.ctl_ b with attempts := putKey m 0 (s1.ctl_ b).attempts, since := putKey m s1.time.now (s1.ctl_ b).since }

/-- R309, R313: TX_REQ written: each buffer named is requested; one that the initiator does not own is ignored and sets PERM. -/
def State.bufsRequest (s : State) (ini : Initiator) (b : Nat) (hi : Bool) (v : Word) : State :=
  let ms := bufsOf hi v
  let s0 := if ms.all (bufOwner ini) then s else s.busError 2 ini (bufReg b 0x40 (if hi then 32 else 0))
  (ms.filter (bufOwner ini)).foldl (fun (t : State) m =>
    let t1 := t.bufRequest b m
    if t1.canListens b && t1.bufPending b m then t1.bufReturn b m 3 else t1) s0

/-- TX_REQUEST, R310, R323: a request in listen-only returns at once with STATUS LISTEN. -/
def execTxRequest (ini : Initiator) (b : Fin 2) (hi : Bool) (v : Word) (s : State) : Host.Outcome State Fault Refusal :=
  .next (s.permGate ini (bufReg b.val 0x40 (if hi then 32 else 0)) true (fun t => (t.bufsRequest ini b.val hi v).answer 0))

/-- R313: a buffer cancelled: at once, or, where its transmission has begun, when the frame ends. -/
def State.bufCancel (s : State) (b m : Nat) (begun : Bool) : State :=
  if !s.bufPending b m then s else if begun then s.wrB (bufReg b 0x48 m) (m % 32) true else s.bufReturn b m 1

/-- R313: every pending buffer returns with a STATUS. -/
def State.bufsReturn (s : State) (b status : Nat) : State :=
  ((upFrom 0 64).filter (fun m => s.bufPending b m)).foldl (fun t m => t.bufReturn b m status) (s.setCtl b { s.ctl_ b with waiting := [] })

/-! ## Which frame, and when -/

/-- The nominal and data bit times in CANF counts (R311, Table 10.13). -/
def State.bitTimes (s : State) (b : Nat) : Nat × Nat :=
  let a := s.rd (Reg.CAN_ARB_TIMING b)
  let d := s.rd (Reg.CAN_DATA_TIMING b)
  (fld a 9 0 * (fld a 30 27 + 1), fld d 7 0 * (fld d 24 22 + 1))

/-- R311: the worst-case duration of a frame, in CANF counts. -/
def State.canDuration (s : State) (b : Nat) (f : CanFrame) : Nat :=
  let (tn, td0) := s.bitTimes b
  let n := f.data.length
  let td := if f.brs then td0 else tn
  let c := if n ≤ 16 then 28 else 33
  if f.fdf then (if f.xtd then 56 else 33) * tn + (5 + 8 * n + (5 + 8 * n) / 4 + c) * td
  else if f.xtd then (67 + 8 * n + (53 + 8 * n) / 4) * tn
  else (47 + 8 * n + (33 + 8 * n) / 4) * tn

/-- R312: the buffer arbitration takes at an instant: of the ARB buffers pending by then, that of lowest identifier, the lowest number on a
tie. An extended identifier ranks after the base identifier of its upper 11 bits. -/
def State.arbChoice (s : State) (b : Nat) (t : Ns) : Option Nat :=
  let rank (m : Nat) : Nat := let f := s.bufFrame b m
    if f.xtd then (f.id / 2 ^ 18) * 2 ^ 20 + 2 ^ 19 + f.id % 2 ^ 18 else f.id * 2 ^ 20
  ((upFrom 0 64).filter (fun m => s.bufPending b m && s.bufArb b m && Nat.ble (getKey m 0 (s.ctl_ b).since) t)).foldl (fun (r : Option Nat) m =>
    match r with
    | none => some m
    | some x => if rank m < rank x then some m else some x) none

/-- Table 10.5: the cell of the basic cycle and a column. -/
def State.cell (s : State) (b c : Nat) : Nat :=
  ((s.ctl_ b).table.cells.getD (32 * s.rdF (Reg.CAN_STATUS b) 13 8 + c) 0).toNat

/-- R314: the end of a column in µs. -/
def Timetable.colEnd (t : Timetable) (c : Nat) : Nat := t.cols.getD (c + 1) t.len

/-- R314: the end, in µs, of the window that a column belongs to: consecutive ARBITRATION cells join. -/
def State.windowEnd (s : State) (b c : Nat) : Nat → Nat
  | 0 => (s.ctl_ b).table.colEnd c
  | k + 1 =>
    if c + 1 < (s.ctl_ b).table.cols.length ∧ s.cell b c / 64 = 2 ∧ s.cell b (c + 1) / 64 = 2 then s.windowEnd b (c + 1) k
    else (s.ctl_ b).table.colEnd c

/-- Table 2.4: may a frame of the controller end? After the power-fail interrupt only the one then in progress. -/
def State.canEnds (s : State) (b : Nat) : Bool := s.canOn b && !s.canListens b && (!s.aon.flushing || (s.ctl_ b).tail)

/-- R319: a controller of role master that listens, for 2 × CYCLE_LEN from its enabling, before its first Bell (log entry 60). -/
def State.bellListens (s : State) (b : Nat) (t : Ns) : Bool :=
  s.rdB (Reg.CAN_CTRL b) 2 && Nat.beq (s.rdF (Reg.CAN_CTRL b) 4 3) 1 && !s.canTimed b &&
    Nat.blt t ((s.ctl_ b).enabledAt + 2000 * (s.ctl_ b).table.len)

/-- R312, R315: may the frame of a buffer have begun at a count and a local instant? -/
def State.mayBegin (s : State) (b m count : Nat) (t : Ns) : Bool :=
  if !s.canEnds b || !s.bufPending b m || s.bellListens b t then false
  else if !s.canTimed b then decide (s.arbChoice b t = some m)
  else
    match (s.ctl_ b).column with
    | none => false
    | some c =>
      let fits := Nat.ble (countsSince (s.ctl_ b).cycleCount count + s.canDuration b (s.bufFrame b m)) (80 * s.windowEnd b c 32)
      let k := s.cell b c
      fits && ((Nat.beq (k / 64) 1 && Nat.beq (k % 64) m) || (Nat.beq (k / 64) 2 && decide (s.arbChoice b t = some m)))

/-- COLUMN_START, R314, R315: the controller's cycle time reaches a column; its cell decides what may begin from here on. -/
def execColumnStart (b : Fin 2) (c : Fin 32) (count t : Nat) (s : State) : Host.Outcome State Fault Refusal :=
  .next (
    let s0 := s.upTo t
    let x := s0.ctl_ b.val
    if s0.canTimed b.val && Nat.blt c.val x.table.cols.length &&
        Nat.ble (80 * x.table.cols.getD c.val 0) (countsSince x.cycleCount count) then s0.setCtl b.val { x with column := some c.val }
    else s0)

/-- R322: the local instant of the start of frame of a frame that ends at t, from its stamp where it is valid. -/
def State.frameStart (s : State) (b count : Nat) (t : Ns) : Ns :=
  let (stamp, _, ok) := s.canStamp b count
  if ok then t - (t % 2 ^ 32 + 2 ^ 32 - stamp) % 2 ^ 32 else t

/-- R310, R312, R313, R315: an attempt of a buffer ends: 0 sent, 1 arbitration lost, 2 in error. No retry follows one that fails after the
power-fail interrupt (Table 2.4), and the buffer returns ERROR. -/
def State.canAttempt (s : State) (b m result count : Nat) (t : Ns) : State :=
  let c := s.ctl_ b
  let (stamp, ep, _) := s.canStamp b count
  let a := canBase b + 0x9000 + 80 * m
  let once := match c.column with
    | some k => s.canTimed b && Nat.beq (s.cell b k / 64) 1
    | none => false
  let s1 := ((s.wrN (a + 72) stamp).wrF (a + 76) 7 4 ep).setCtl b
    { c with attempts := putKey m (getKey m 0 c.attempts + 1) c.attempts, column := if once then none else c.column }
  let tec := s.rdF (Reg.CAN_ERR b) 7 0
  let rx := s.rdF (Reg.CAN_ERR b) 15 8
  let failed := if s.rdB (bufReg b 0x48 m) (m % 32) then s1.bufReturn b m 1 else if s.aon.flushing then s1.bufReturn b m 2 else s1
  match result with
  | 0 =>
    let f := s.bufFrame b m
    let s2 := if f.xtd = false ∧ f.id = 0x10 ∧ 48 ≤ m then s1.setCtl b { s1.ctl_ b with callAt := some (s.frameStart b count t) } else s1
    (s2.bufReturn b m 0).canErrors b (tec - 1) rx
  | 1 => failed
  | _ => failed.canErrors b (tec + 8) rx

/-- Table 2.4: after the power-fail interrupt no further frame of the controller begins. -/
def State.canTail (s : State) (b : Nat) (on : Bool) : State := s.setCtl b { s.ctl_ b with tail := on }

/-- FRAME_TRANSMITTED, R310, R312: the frame of buffer m that the controller began at a count ends at t. -/
def execFrameTransmitted (b : Fin 2) (m : Fin 64) (result : Fin 3) (count t : Nat) (s : State) : Host.Outcome State Fault Refusal :=
  .next (
    let s0 := s.upTo t
    if s0.mayBegin b.val m.val count (s0.frameStart b.val count t) || (s0.rdB (bufReg b.val 0x48 m.val) (m.val % 32) && s0.bufPending b.val m.val) then
      (s0.canTail b.val false).canAttempt b.val m.val result.val count t
    else s0)

/-- R313: TX_CANCEL written; `begun` is the buffer whose frame is on the bus. -/
def State.bufsCancel (s : State) (ini : Initiator) (b : Nat) (hi : Bool) (v : Word) (begun : Option (Fin 64)) : State :=
  let ms := bufsOf hi v
  let s0 := if ms.all (bufOwner ini) then s else s.busError 2 ini (bufReg b 0x48 (if hi then 32 else 0))
  (ms.filter (bufOwner ini)).foldl (fun (t : State) m => t.bufCancel b m (decide (begun.map (fun x => x.val) = some m))) s0

/-- TX_CANCEL, R313: `begun` names the buffer whose start of frame the controller has driven, if one has. -/
def execTxCancel (ini : Initiator) (b : Fin 2) (hi : Bool) (v : Word) (begun : Option (Fin 64)) (s : State) :
    Host.Outcome State Fault Refusal :=
  .next (s.permGate ini (bufReg b.val 0x48 (if hi then 32 else 0)) true (fun t => (t.bufsCancel ini b.val hi v begun).answer 0))

/-- BUS_OFF_RECOVERY, R303: the recovery sequence of ISO 11898-1 ends, where AUTO_RECOVER or a write of EN began it. -/
def execBusOffRecovery (b : Fin 2) (s : State) : Host.Outcome State Fault Refusal :=
  .next (
    if s.rdF (Reg.CAN_STATUS b.val) 1 0 = 2 ∧ (s.rdB (Reg.CAN_CTRL b.val) 8 = true ∨ (s.ctl_ b.val).recover = true) then
      let s1 := ((s.wrF (Reg.CAN_STATUS b.val) 1 0 0).wrF (Reg.CAN_ERR b.val) 15 0 0).setCtl b.val { s.ctl_ b.val with recover := false }
      if s1.rdF (Reg.CAN_STATUS (1 - b.val)) 1 0 = 2 then s1 else s1.unhold 28
    else s)

/-! ## The Timetable -/

/-- R316: the staged Timetable. -/
def State.tableStaged (s : State) (b : Nat) : Timetable :=
  { len := s.rdF (Reg.CAN_CYCLE_LEN b) 16 0, cycles := 2 ^ s.rdF (Reg.CAN_CYCLE_LEN b) 26 24,
    cols := (upFrom 0 (s.rdF (Reg.CAN_COLS b) 5 0)).map (fun c => s.rdF (canBase b + 0x100 + 4 * c) 16 0),
    cells := s.canBytes b 0x8800 2048 }

/-- Do numbers strictly ascend? -/
def ascends : List Nat → Bool
  | a :: b :: t => Nat.blt a b && ascends (b :: t)
  | _ => true

/-- R316: why a Timetable is refused, 0 where it is not. -/
def State.tableBad (s : State) (b : Nat) (t : Timetable) : Nat :=
  let bell : CanFrame := { id := 0, brs := false, data := List.replicate 12 0 }
  let long : CanFrame := { id := 0, brs := true, data := List.replicate 64 0 }
  let last := t.cols.length - 1
  if t.len < 1000 ∨ 100000 < t.len then 1
  else if !ascends t.cols || Nat.ble t.len (t.cols.getD last 0) then 2
  else if 80 * t.cols.getD 0 0 < s.canDuration b bell then 3
  else if (upFrom 0 t.cycles).any (fun k => !(Nat.beq ((t.cells.getD (32 * k + last) 0).toNat / 64) 2)) ∨
      80 * (t.len - t.cols.getD last 0) < s.canDuration b long then 4
  else 0

/-- R316: a commit: refused with its REASON, or pending until the next start of basic cycle 0; a controller off the bus takes it
at once. -/
def State.tableCommit (s : State) (b : Nat) : State :=
  let t := s.tableStaged b
  let a := Reg.CAN_SCHED_CTRL b
  let r := s.tableBad b t
  if r ≠ 0 then (((s.wrB a 1 true).wrF a 7 4 r).wrB a 0 false).canInt b 14
  else if s.rdB (Reg.CAN_CTRL b) 0 then (s.wrF a 7 4 0).wrB a 0 true
  else ((s.wrF a 7 4 0).setCtl b { s.ctl_ b with table := t }).canInt b 13

/-- TIMETABLE_COMMIT, R316, R332. The bit is W1S, and takes a write from any initiator the permission table admits. -/
def execTimetableCommit (ini : Initiator) (b : Fin 2) (s : State) : Host.Outcome State Fault Refusal :=
  .next (s.regWrite ini (ini.resident || decide (ini = .app3)) (Reg.CAN_SCHED_CTRL b.val) (fun t => t.tableCommit b.val))

/-- R314, R316, R322: a basic cycle begins: the reference pair, BELL, its number, and a commit that waited for cycle 0. -/
def State.cycleBegin (s : State) (b cycle count : Nat) (t : Ns) : State :=
  let s1 := ((s.canMark b count t).wrF (Reg.CAN_STATUS b) 13 8 cycle).canInt b 6
  let s2 := s1.setCtl b { s1.ctl_ b with column := none }
  if cycle = 0 ∧ s2.rdB (Reg.CAN_SCHED_CTRL b) 0 = true then
    ((s2.setCtl b { s2.ctl_ b with table := s2.tableStaged b }).wrB (Reg.CAN_SCHED_CTRL b) 0 false).canInt b 13
  else s2

/-- SILENT_BASIC_CYCLE_START, R322: with TT_EN 0, or without a Bell, a basic cycle starts every CYCLE_LEN µs by the controller's own count. -/
def execSilentBasicCycleStart (b : Fin 2) (count t : Nat) (s : State) : Host.Outcome State Fault Refusal :=
  .next (
    let s0 := s.upTo t
    let c := s0.ctl_ b.val
    let due := c.mark.isNone || Nat.ble (80 * c.table.len) (countsSince c.cycleCount count)
    if s0.rdB (Reg.CAN_CTRL b.val) 0 && s0.clockPresent .canf && !s0.canTimed b.val && due then s0.cycleBegin b.val 0 count t else s0)

/-! ## The Bell -/

/-- R319: a change of the current master: its priority, none for none; MASTER_CHANGE on a change. -/
def State.bellMaster (s : State) (b : Nat) (p : Option Nat) (own : Bool) : State :=
  let a := Reg.CAN_BELL_STAT b
  let old : Option Nat := if s.rdB a 11 then none else some (s.rdF a 10 8)
  let s1 := ((s.wrF a 10 8 (p.getD 0)).wrB a 11 p.isNone).wrB (Reg.CAN_STATUS b) 4 own
  let s2 := s1.setObjN (0x2710 + b) 2 1 (p.getD 0xFF)
  if old = p ∧ s.rdB (Reg.CAN_STATUS b) 4 = own then s2 else (s2.canInt b 9).canCount b 4

/-- Table 10.6: this master's Bell. -/
def State.bellPayload (s : State) (b cycle : Nat) : List Byte :=
  let c := s.ctl_ b
  let last := c.table.cols.getD (c.table.cols.length - 1) 0
  toLE 1 cycle ++ toLE 1 (b2n c.ownBell.isSome + 2 * b2n (decide (s.time.servoState = 2))) ++
    (match c.ownBell with
      | some p => toLE 4 (p % 1000000000) ++ toLE 2 (p / 1000000000)
      | none => toLE 6 0) ++ toLE 2 (min 0xFFFF last) ++ toLE 2 (if 65535 < c.table.len then 0 else c.table.len)

/-- R318 to R320: the module's own Bell starts its cycle at a count and a local instant; `shift` is how far its Bells still lie from the grid. -/
def State.bellOut (s : State) (b cycle count : Nat) (t : Ns) (late : Bool) (shift : Int) : State :=
  let s1 := s.setCtl b { s.ctl_ b with bell := s.bellPayload b cycle, ownBell := some t, bellShift := shift }
  let s2 := (s1.bellMaster b (some (s.rdF (Reg.CAN_CTRL b) 7 5)) true).cycleBegin b cycle count t
  let a := Reg.CAN_BELL_STAT b
  let s3 := s2.wrF a 5 0 cycle
  if late then ((s3.canInt b 7).wrF a 31 16 (min 0xFFFF (s3.rdF a 31 16 + 1))).canCount b 3 else s3

/-- R319: may a controller send Bells? -/
def State.bellRole (s : State) (b : Nat) : Nat := if s.rdF (Reg.CAN_CTRL b) 4 3 = 3 then 0 else s.rdF (Reg.CAN_CTRL b) 4 3

/-- R314: the number of the basic cycle after the one in progress. -/
def State.nextCycle (s : State) (b : Nat) : Nat := (s.rdF (Reg.CAN_STATUS b) 13 8 + 1) % (s.ctl_ b).table.cycles

/-- R320: how far a current master's next Bell lies from the grid: after a step of the local clock at most CYCLE_LEN / 100 nearer each cycle. -/
def CanCtl.nextShift (c : CanCtl) : Int :=
  let d : Int := ((1000 * c.table.len / 100 : Nat) : Int)
  if c.bellShift < 0 then min 0 (c.bellShift + d) else max 0 (c.bellShift - d)

/-- R320: does an instant lie within 50 ns of a Bell's: a whole multiple of CYCLE_LEN µs of local time, moved by a shift? -/
def CanCtl.onGrid (c : CanCtl) (shift : Int) (t : Ns) : Bool := decide ((centred (1000 * c.table.len) ((t : Int) - shift)).natAbs ≤ 50)

/-- BELL, R319, R320: the current master's Bell, on its grid unless `late` says that a frame in progress delayed it; a master that has heard none for
2 × CYCLE_LEN starts basic cycle 0 with its own, whose instant the grid does not bind (log entry 60). -/
def execBellSend (b : Fin 2) (late : Bool) (count t : Nat) (s : State) : Host.Outcome State Fault Refusal :=
  .next (
    let s0 := s.upTo t
    let n := b.val
    let c := s0.ctl_ n
    if !s0.canSends n || !s0.rdB (Reg.CAN_CTRL n) 2 then s0
    else if s0.rdB (Reg.CAN_STATUS n) 4 then (if late || c.onGrid c.nextShift t then s0.bellOut n (s0.nextCycle n) count t late c.nextShift else s0)
    else if s0.bellRole n = 1 ∧ s0.rdB (Reg.CAN_STATUS n) 3 = false ∧ c.enabledAt + 2000 * c.table.len ≤ t then s0.bellOut n 0 count t late 0
    else s0)

/-- BELL_REPLACE, R319: a master or backup sends its own Bell BELL_WAIT µs after the one it missed. -/
def execBellReplace (b : Fin 2) (count t : Nat) (s : State) : Host.Outcome State Fault Refusal :=
  .next (
    let s0 := s.upTo t
    let n := b.val
    let c := s0.ctl_ n
    if s0.canSends n && s0.rdB (Reg.CAN_CTRL n) 2 && s0.rdB (Reg.CAN_STATUS n) 3 && !(Nat.beq (s0.bellRole n) 0) &&
        Nat.ble (80 * (c.table.len + s0.objN 0x2700 0x0C)) (countsSince c.cycleCount count) then
      (s0.wrB (Reg.CAN_STATUS n) 3 false).bellOut n (s0.nextCycle n) count t false 0
    else s0)

/-- BELL_RECEIVE, R319, R321: a Bell of another node: the controller follows it; a current master of higher identifier ceases. -/
def execBellReceive (b : Fin 2) (priority : Fin 8) (payload : List (BitVec 8)) (count t : Nat) (s : State) :
    Host.Outcome State Fault Refusal :=
  .next (
    let s0 := s.upTo t
    let n := b.val
    if !s0.canOn n || !s0.rdB (Reg.CAN_CTRL n) 2 then s0
    else if s0.rdB (Reg.CAN_STATUS n) 4 && Nat.blt (s0.rdF (Reg.CAN_CTRL n) 7 5) priority.val then s0
    else
      let cycle := leAt payload 0 1 % 64
      let s1 := ((s0.bellMaster n (some priority.val) false).wrB (Reg.CAN_STATUS n) 3 true).cycleBegin n cycle count t
      s1.wrF (Reg.CAN_BELL_STAT n) 5 0 cycle)

/-- BELL_LOSS, R321: no Bell has started within CYCLE_LEN + 2 × BELL_WAIT + D of the Bell after the last one. -/
def execBellLoss (b : Fin 2) (t : Nat) (s : State) : Host.Outcome State Fault Refusal :=
  .next (
    let s0 := s.upTo t
    let n := b.val
    let c := s0.ctl_ n
    let d := s0.canDuration n { id := 0, brs := false, data := List.replicate 12 0 }
    match c.cycleAt with
    | none => s0
    | some a =>
      if s0.rdB (Reg.CAN_STATUS n) 3 = true ∧ a * 2 + (c.table.len + 2 * s0.objN 0x2700 0x0C) * 2000 + d * 25 ≤ 2 * s0.time.now then
        ((s0.wrB (Reg.CAN_STATUS n) 3 false).canInt n 8).bellMaster n none false
      else s0)

/-! ## Bit rates and listen-only -/

/-- The nearest quantum to a percentage of a bit, at least 2 and below the bit. -/
def sampleQuantum (n pct : Nat) : Nat := clampN 2 (n - 1) ((nearQuot ((n * pct : Nat) : Int) 100).toNat)

/-- R304: the smallest divider that gives at most `cap` quanta per bit, with quanta per bit, for a bit of `counts` CANF cycles. -/
def quanta (counts cap : Nat) : Nat × Nat :=
  match (upFrom 1 16).find? (fun d => Nat.beq (counts % d) 0 && Nat.ble (counts / d) cap) with
  | some d => (d, counts / d)
  | none => (1, counts)

/-- R304: CANn_ARB_TIMING and CANn_DATA_TIMING from the rate objects; transmitter delay compensation runs on data phases. -/
def State.ratesApply (s : State) (b : Nat) : State :=
  let (da, na) := quanta (80000 / max 1 (s.objN 0x2700 1)) 385
  let (dd, nd) := quanta (80000 / max 1 (s.objN 0x2700 2)) 255
  let sa := sampleQuantum na (s.objN 0x2700 3)
  let sd := sampleQuantum nd (s.objN 0x2700 4)
  (s.wrN (Reg.CAN_ARB_TIMING b) (na + 2 ^ 10 * sa + 2 ^ 20 * min 127 (na - sa) + 2 ^ 27 * (da - 1))).wrN (Reg.CAN_DATA_TIMING b)
    (nd + 2 ^ 8 * sd + 2 ^ 16 * min 63 (nd - sd) + 2 ^ 22 * (dd - 1) + 2 ^ 25)

/-- BIT_RATE_CHANGE, R304: at the controller's next bus idle new rates apply and every pending buffer is cancelled. -/
def execBitRateChange (b : Fin 2) (s : State) : Host.Outcome State Fault Refusal :=
  .next (
    if (s.ctl_ b.val).ratesDue then
      let s1 := s.setCtl b.val { s.ctl_ b.val with ratesDue := false }
      (s1.bufsReturn b.val 1).ratesApply b.val
    else s)

/-- LISTEN_ONLY, R323: a change of LISTEN_ONLY takes effect at the next bus idle. -/
def execListenOnly (b : Fin 2) (s : State) : Host.Outcome State Fault Refusal :=
  .next (
    let want := s.rdB (Reg.CAN_CTRL b.val) 1
    if want = s.canListens b.val then s
    else
      let s1 := s.wrB (Reg.CAN_STATUS b.val) 2 want
      if want then (if s1.rdB (Reg.CAN_STATUS b.val) 4 then s1.bellMaster b.val none false else s1).bufsReturn b.val 3 else s1)

/-- R310, R313: a write of CANn_CTRL: clearing EN cancels every pending buffer, none of whose frames is then on the bus (log entry 60), and leaves
the bus; setting it joins. -/
def State.canCtrl (s : State) (b : Nat) (v : Word) : State :=
  let was := s.rdB (Reg.CAN_CTRL b) 0
  let s1 := s.wr (Reg.CAN_CTRL b) v
  if was && !bit v 0 then
    ((s1.bufsReturn b 1).bellMaster b none false).wrB (Reg.CAN_STATUS b) 3 false
  else if !was && bit v 0 then
    s1.setCtl b { s1.ctl_ b with enabledAt := s1.time.now, recover := Nat.beq (s1.rdF (Reg.CAN_STATUS b) 1 0) 2 }
  else if !bit v 2 then (s1.bellMaster b none false).wrB (Reg.CAN_STATUS b) 3 false
  else s1

/-! ## Envelopes and roll call -/

/-- FRAGMENT_TIMEOUT, R324: more than 100 ms without the next fragment of a node's envelope. -/
def execFragmentTimeout (b : Fin 2) (node t : Nat) (s : State) : Host.Outcome State Fault Refusal :=
  .next (
    let s0 := s.upTo t
    let c := s0.ctl_ b.val
    if c.partials.any (fun p => Nat.beq p.node node && Nat.blt (p.at_ + 100000000) s0.time.now) then
      (s0.setCtl b.val { c with partials := c.partials.filter (fun (p : Partial) =>
        !(Nat.beq p.node node && Nat.blt (p.at_ + 100000000) s0.time.now)) }).canBad b.val 1
    else s0)

/-- R324: the fragments of an envelope to a node, from an index on. -/
def fragments (dst : Nat) : Nat → Nat → List Byte → List CanFrame
  | 0, _, _ => []
  | k + 1, ix, bytes =>
    if bytes.length ≤ 62 then
      let n := dlcLength true (dlcFor (bytes.length + 2))
      [{ id := 0x200, data := toLE 1 dst ++ toLE 1 (ix + 8 + 16 * (n - 2 - bytes.length)) ++ bytes ++ List.replicate (n - 2 - bytes.length) 0 }]
    else { id := 0x200, data := toLE 1 dst ++ toLE 1 ix ++ bytes.take 62 } :: fragments dst k (ix + 1) (bytes.drop 62)

/-- R305, R324: an envelope sent to a node on both buses. -/
def State.envelopeSend (s : State) (dst : Nat) (bytes : List Byte) : State := (fragments dst 8 0 bytes).foldl State.canBoth s

/-- R108: a session ends: its transfers, declarations of its transport and responses go with it. -/
def State.sessEnd (s : State) (id : Nat) : State :=
  { s with dict := { s.dict with sessions := s.dict.sessions.filter (fun (e : Sess) => !(Nat.beq e.id id)),
                                 xfers := s.dict.xfers.filter (fun (x : Xfer) => !(Nat.beq x.sess id)) } }

/-- The sessions of a cabinet-bus node. -/
def State.nodeSessions (s : State) (node : Nat) : List Nat :=
  (s.dict.sessions.filter (fun e => match e.kind with
    | .can n => Nat.beq n node
    | _ => false)).map (fun e => e.id)

/-- R327, R328: the session of a node ends. -/
def State.nodeEnd (s : State) (node : Nat) : State := (s.nodeSessions node).foldl State.sessEnd s

/-- A field of a peripheral entry. -/
def State.entry (s : State) (p sub : Nat) : Nat := s.objN (0x2780 + p) sub

/-- ROLL_CALL, R327: at a whole second of local time, on both buses, except in STANDBY. -/
def execRollCall (t : Nat) (s : State) : Host.Outcome State Fault Refusal :=
  .next (
    let s0 := s.upTo t
    if t % 1000000000 = 0 ∧ s0.mode.mode ≠ .standby ∧ s0.mode.mode ≠ .starting ∧ s0.mode.mode ≠ .batteryWatch ∧ s0.mode.mode ≠ .deepSleep then
      let round := t / 1000000000 % 2 ^ 32
      let f : CanFrame := { id := 0x10, data := toLE 4 round ++ s0.obj 0x2200 1 ++ [BitVec.ofNat 8 (s0.objN 0x2700 0x0D), 20] ++ toLE 4 0 }
      let cs := s0.can.ctls.map (fun (c : CanCtl) => { c with callAt := none })
      let s1 := { s0 with can := { s0.can with round := round, rollOpen := some t, answers := [], ctls := cs } }
      s1.canBoth f
    else s0)

/-- R326: K_AUTH or K_WRAP of a peripheral, by its label. -/
def State.nodeKey (s : State) (p : Nat) (label : List Byte) : List Byte := kdf (s.codeOpen (s.obj (0x2780 + p) 2)) label 0 (s.obj (0x2780 + p) 1) 16

/-- R326: the link key of a peripheral: label CBLK under slot 24, at its KEY_GEN. -/
def State.nodeLink (s : State) (p : Nat) : List Byte :=
  kdf (s.slot 24).key [0x43, 0x42, 0x4C, 0x4B] (s.entry p 6) (s.obj (0x2780 + p) 1) 16

/-- R326: the nonce of a roll-call MIC. -/
def rollNonce (eui : List Byte) (kind : Nat) (counter : Nat) : List Byte := eui ++ toLE 1 kind ++ (toLE 4 counter).reverse

/-- R326: the MIC of a roll-call frame: the tag over its identifier and the bytes before the MIC. -/
def rollMic (key eui : List Byte) (kind counter id : Nat) (bytes : List Byte) : List Byte :=
  fit 8 (Config.ccmSeal 8 key (rollNonce eui kind counter) (toLE 4 id ++ bytes) [])

/-- R326: the MIC of a peripheral's PRESENT, under its link key. -/
def State.presentMic (s : State) (node : Nat) (body : List Byte) : List Byte :=
  rollMic (s.nodeLink node) (s.obj (0x2780 + node) 1) 0x12 s.can.round (0x080 + node) (slice body 0 8)

/-- R327: is a PRESENT one that is accepted: within 200 ms of its bus's ROLL_CALL, its ROUND, KEY_GEN and MIC right? -/
def State.presentOk (s : State) (b node : Nat) (body : List Byte) (t : Ns) : Bool :=
  let inTime : Bool := match (s.ctl_ b).callAt with
    | some c => Nat.ble t (c + 200000000)
    | none => false
  inTime && Nat.beq (leAt body 0 4) s.can.round && Nat.beq (leAt body 5 1) (s.entry node 6) && Nat.ble 2 (s.entry node 3) &&
    decide (s.chainCheck 24 = .ok) && decide (slice body 8 8 = s.presentMic node body)

/-- PRESENT, R327: a PRESENT on a bus; the first of an ASSIGNED or ABSENT entry makes it PRESENT. -/
def execRollPresent (b : Fin 2) (node : Nat) (body : List (BitVec 8)) (t : Nat) (s : State) : Host.Outcome State Fault Refusal :=
  .next (
    let s0 := s.upTo t
    if 1 ≤ node ∧ node ≤ 126 then
      if s0.presentOk b.val node body t then
        let s1 := { s0 with can := { s0.can with answers := putKey node (getKey node 0 s0.can.answers ||| 2 ^ b.val) s0.can.answers } }
        let s2 := s1.setObj (0x2780 + node) 7 (time80 s1.time.now)
        if s2.entry node 3 = 2 ∨ s2.entry node 3 = 4 then s2.setObjN (0x2780 + node) 3 1 3 else s2
      else s0.canBad b.val 6
    else s0)

/-- R327: the decision on one entry at the end of the answer window. -/
def State.entryDecide (s : State) (p : Nat) : State :=
  if s.entry p 3 < 2 then s
  else
    let a := getKey p 0 s.can.answers
    let lim := s.objN 0x2700 0x0E
    let miss := if a = 0 then getKey p 0 s.can.misses + 1 else 0
    let single := if a = 1 ∨ a = 2 then getKey p 0 s.can.singles + 1 else 0
    let s1 := { s with can := { s.can with misses := putKey p miss s.can.misses, singles := putKey p single s.can.singles,
                                           noted := if a = 3 then s.can.noted.filter (fun (x : Nat) => !(Nat.beq x p)) else s.can.noted } }
    let s2 := s1.setObjN (0x2780 + p) 4 1 a
    if lim ≤ miss ∧ s2.entry p 3 ≠ 4 then
      (((s2.setObjN (0x2780 + p) 3 1 4).nodeEnd p).record 0x0C 1 p 0 0).raise 28
    else if lim ≤ single ∧ s2.can.noted.contains p = false then
      ({ s2 with can := { s2.can with noted := s2.can.noted ++ [p] } }.record (if a = 1 then 0x0D else 0x0C) 2 p (a - 1) 0).raise 28
    else s2

/-- ANSWER_WINDOW_END, R327: 200 ms after the roll call, presence is decided for every entry. -/
def execAnswerWindowEnd (t : Nat) (s : State) : Host.Outcome State Fault Refusal :=
  .next (
    let s0 := s.upTo t
    let due : Bool := match s0.can.rollOpen with
      | some r => Nat.ble (r + 200000000) s0.time.now
      | none => false
    if due then
      let s1 := (upFrom 1 126).foldl State.entryDecide s0
      { s1 with can := { s1.can with answers := [], rollOpen := none } }
    else s0)

/-- R328, Table 10.7: ASSIGN for an entry. -/
def State.assignFrame (s : State) (p counter : Nat) : CanFrame :=
  let eui := s.obj (0x2780 + p) 1
  let wrapped := fit 24 (Config.keyWrap (s.nodeKey p [0x43, 0x42, 0x45, 0x57]) (s.nodeLink p))
  let body := eui ++ toLE 2 counter ++ toLE 1 p ++ toLE 1 (s.entry p 6) ++ wrapped ++ toLE 4 0
  { id := 0x11, data := body ++ rollMic (s.nodeKey p [0x43, 0x42, 0x45, 0x41]) eui 0x11 counter 0x11 body }

/-- R326: the MIC of an ANNOUNCE, under K_AUTH of its entry; its identifier's low 24 bits are bytes 5 to 7 of the EUI-64. -/
def State.announceMic (s : State) (p : Nat) (body : List Byte) : List Byte :=
  rollMic (s.nodeKey p [0x43, 0x42, 0x45, 0x41]) (slice body 0 8) 0x10 (leAt body 10 2) (0x1E000000 + fromLE (slice body 5 3).reverse) (slice body 0 12)

/-- ANNOUNCE, R328: one received on a bus: the first failing check discards it and is counted on that bus; otherwise KEY_GEN advances, the entry's
session ends and ASSIGN goes out on both buses, unless slot 24 gives no link key (log entry 60). -/
def execAnnounce (b : Fin 2) (body : List (BitVec 8)) (s : State) : Host.Outcome State Fault Refusal :=
  .next (
    match (upFrom 1 126).find? (fun p => Nat.ble 1 (s.entry p 3) && decide (s.obj (0x2780 + p) 1 = slice body 0 8)) with
    | none => s.canBad b.val 2
    | some p =>
      let c := leAt body 10 2
      if s.chainCheck 1 ≠ .ok ∨ slice body 12 8 ≠ s.announceMic p body then s.canBad b.val 3
      else if c ≤ s.entry p 8 then s.canBad b.val 4
      else
        let s1 := s.setObjN (0x2780 + p) 8 2 c
        if s1.objN 0x2700 0x0D = 0 ∧ s1.entry p 3 < 2 then s1.canBad b.val 5
        else if s1.chainCheck 24 ≠ .ok then s1
        else
          let s2 := ((s1.setObjN (0x2780 + p) 6 1 (s1.entry p 6 + 1)).setObj (0x2780 + p) 5 (slice body 8 2)).nodeEnd p
          let s3 := { s2 with dict := { s2.dict with links := s2.dict.links.filter (fun (e : EnvLink) => !(Nat.beq e.node p)) } }
          (s3.setObjN (0x2780 + p) 3 1 2).canBoth (s3.assignFrame p c))

end Sys2Proof.Machine
end

