-- ==== Sys2Proof/Machine/Net.lean ====
section
/-! DEFINITION. The ring ports, switching, the host port and the maintenance port (R333 to R349, R360, R495). -/

namespace Sys2Proof.Machine

/-! ## Counters, links and optics -/

/-- NET_CNT_p_c advances: 0 RX_OK, 1 RX_ERR, 2 RX_TOO_LONG, 3 RX_QUEUE_DROP, 4 TX_OK, 5 FWD_CUT, 6 FWD_STORED, 7 FWD_STOMPED,
8 EGRESS_DROP, 9 HSR_DUPLICATES, 10 HSR_OWN_REMOVED, 11 HSR_UNTAGGED, 12 HOST_DROP, 13 HOST_NO_DESC, 14 LINK_DOWNS, 15 PCS_ERR. -/
def State.netCount (s : State) (p c : Nat) : State := s.bump (0x400E0100 + 0x40 * p + 4 * c) 1

/-- A bit of NET_INT_STAT set. -/
def State.netInt (s : State) (i : Nat) : State := s.wrB Reg.NET_INT_STAT i true

/-- Is a port's link up? -/
def State.linked (s : State) (p : Nat) : Bool := s.rdB Reg.NET_STATUS p

/-- The clock domain of a ring port. -/
def portDomain (p : Nat) : Domain := if p = 0 then .netA else .netB

/-- R341: object 0x2800:0B RING_STATE follows the links and RING_OPEN; the flag RING is held while a link is down or the ring open. -/
def State.ringState (s : State) : State :=
  let both := !s.linked 0 && !s.linked 1
  let s1 := s.setObjN 0x2800 0x0B 1 (if both then 0 else if s.rdB Reg.NET_STATUS 3 then 2 else 1)
  if s.linked 0 && s.linked 1 && !s.rdB Reg.NET_STATUS 3 then s1.unhold 29 else s1

/-- R335: a link changes. -/
def State.linkSet (s : State) (p : Nat) (up : Bool) : State :=
  if s.linked p = up then s
  else
    let s1 := ((s.wrB Reg.NET_STATUS p up).netInt 0).setObjN (0x2810 + p) 1 1 (if up then 1 else 0)
    if up then s1.ringState else ((s1.netCount p 14).raiseActive 29).ringState

/-- R335: what a link that goes down takes with it: a frame being received, and one being sent. -/
def State.linkCut (s : State) (p : Nat) (rx tx : Bool) : State :=
  if s.linked p then
    let s1 := if rx then s.netCount p 1 else s
    if tx then s1.netCount p 8 else s1
  else s

/-- R495: is a cage's supply off? -/
def State.cageIsOff (s : State) (p : Nat) : Bool := s.net.cageOff.getD p false

/-- LINK_UP, R335: block_lock has held with hi_ber clear for 10 ms. -/
def execLinkUp (p : Fin 2) (s : State) : Host.Outcome State Fault Refusal :=
  .next (
    let a := Reg.NET_SFP p.val
    if s.rdB Reg.NET_CTRL p.val && s.clockPresent (portDomain p.val) && s.rdB a 0 && !s.cageIsOff p.val then
      (s.wrB a 1 false).linkSet p.val true
    else s)

/-- LINK_DOWN, R335: loss of block_lock, hi_ber, or LOS; `rx` and `tx` say whether a frame was being received or sent. -/
def execLinkDown (p : Fin 2) (los rx tx : Bool) (s : State) : Host.Outcome State Fault Refusal :=
  .next (((s.linkCut p.val rx tx).wrB (Reg.NET_SFP p.val) 1 los).linkSet p.val false)

/-- MAINT_LINK_CHANGE, R347: auto-negotiation ends: 0 no link, 1 100BASE-TX, 2 1000BASE-T; disabled while MAINT_ENABLE is 0. -/
def execMaintLinkChange (speed : Fin 3) (s : State) : Host.Outcome State Fault Refusal :=
  .next (
    let v := if s.objN 0x2800 0x0C = 1 ∧ s.rdB Reg.NET_CTRL 2 = true then speed.val else 0
    if s.rdF Reg.NET_STATUS 6 5 = v then s
    else (((s.wrF Reg.NET_STATUS 6 5 v).wrB Reg.NET_STATUS 2 (!(Nat.beq v 0))).netInt 0).setObjN 0x2812 1 1 (if v = 2 then 2 else if v = 1 then 3 else 0))

/-- R334: the optic's identification page: COMPLIANT from bits 4 and 5 of byte 3; an optic not compliant stays disabled unless
ALLOW_OTHER_OPTICS is 1. -/
def State.opticRead (s : State) (p : Nat) (id : List Byte) : State :=
  let a := Reg.NET_SFP p
  let ok := Nat.testBit (leAt id 3 1) 4 || Nat.testBit (leAt id 3 1) 5
  ((s.wrB a 4 ok).wrB a 3 (!(ok || Nat.beq (s.objN 0x2800 9) 1))).setObj (0x2810 + p) 2 ((id ++ List.replicate 96 0).take 96)

/-- R334: at a start the pages of the optics that are inserted are read. -/
def State.opticsStart (s : State) : State :=
  (upFrom 0 2).foldl (fun (t : State) p => match t.net.pages.getD p none with
    | some id => (t.wrB (Reg.NET_SFP p) 0 true).opticRead p id
    | none => t) s

/-- R334: TX_DISABLE of the optics that are inserted, as COMPLIANT and ALLOW_OTHER_OPTICS have it. -/
def State.opticsAllow (s : State) : State :=
  (upFrom 0 2).foldl (fun (t : State) p =>
    let a := Reg.NET_SFP p
    if t.rdB a 0 then t.wrB a 3 (!(t.rdB a 4 || Nat.beq (t.objN 0x2800 9) 1)) else t) s

/-- OPTIC_INSERT, R334. -/
def execOpticInsert (p : Fin 2) (id : List (BitVec 8)) (s : State) : Host.Outcome State Fault Refusal :=
  .next ((({ s with net := { s.net with pages := setAt s.net.pages p.val (some id) } }.wrB (Reg.NET_SFP p.val) 0 true).netInt 2).opticRead p.val id)

/-- OPTIC_REMOVE, R334, R495: TX_DISABLE is asserted at once; a supply switched off comes back. -/
def execOpticRemove (p : Fin 2) (rx tx : Bool) (s : State) : Host.Outcome State Fault Refusal :=
  .next (
    let a := Reg.NET_SFP p.val
    let s1 := ((((s.linkCut p.val rx tx).wrB a 0 false).wrB a 3 true).wrB a 4 false).netInt 2
    let s2 := (s1.setObj (0x2810 + p.val) 2 (List.replicate 96 0)).setObj (0x2810 + p.val) 3 (List.replicate 10 0)
    { s2 with net := { s2.net with cageOff := setAt s2.net.cageOff p.val false, pages := setAt s2.net.pages p.val none } }.linkSet p.val false)

/-- OPTIC_DIAG_READ, R334: bytes 96 to 105 of page 0xA2, every 1 s. -/
def execOpticDiagRead (p : Fin 2) (diag : List (BitVec 8)) (s : State) : Host.Outcome State Fault Refusal :=
  .next (if s.rdB (Reg.NET_SFP p.val) 0 then s.setObj (0x2810 + p.val) 3 ((diag ++ List.replicate 10 0).take 10) else s)

/-- SFP_OVERCURRENT, R495: the cage's supply is switched off until the optic is removed; PRESENT still reads 1. -/
def execSfpOvercurrent (p : Fin 2) (rx tx : Bool) (s : State) : Host.Outcome State Fault Refusal :=
  .next (
    if s.rdB (Reg.NET_SFP p.val) 0 then
      ({ s with net := { s.net with cageOff := setAt s.net.cageOff p.val true } }.linkCut p.val rx tx).linkSet p.val false
    else s)

/-! ## Frames -/

/-- A big-endian number in n bytes of a frame. -/
def beAt (l : List Byte) (off n : Nat) : Nat := fromLE (slice l off n).reverse

/-- n bytes of a number, most significant first. -/
def toBE (n v : Nat) : List Byte := (toLE n v).reverse

/-- What a frame's header says: the VLAN priority, the HSR sequence number, the EtherType after both tags and its place. -/
structure EthHead where
  pcp : Option Nat
  seq : Option Nat
  etype : Nat
  at_ : Nat
  deriving DecidableEq, Repr

/-- The header of a frame: a VLAN tag may stand before the HSR tag (EtherType 0x892F, R338). -/
def ethHead (f : List Byte) : EthHead :=
  let vlan := Nat.beq (beAt f 12 2) 0x8100
  let o := if vlan then 16 else 12
  let pcp := if vlan then some (beAt f 14 2 / 2 ^ 13) else none
  if beAt f o 2 = 0x892F then { pcp := pcp, seq := some (beAt f (o + 4) 2), etype := beAt f (o + 6) 2, at_ := o + 6 }
  else { pcp := pcp, seq := none, etype := beAt f o 2, at_ := o }

/-- R345: a frame without its HSR tag. -/
def untag (f : List Byte) : List Byte :=
  let o := if beAt f 12 2 = 0x8100 then 16 else 12
  if beAt f o 2 = 0x892F then f.take o ++ f.drop (o + 6) else f

/-- R338: the HSR tag, by the port a frame leaves on. -/
def hsrTag (f : List Byte) (port seq : Nat) : List Byte :=
  let o := if beAt f 12 2 = 0x8100 then 16 else 12
  f.take o ++ [0x89, 0x2F] ++ toBE 2 (port * 2 ^ 12 + (f.length - o + 4) % 2 ^ 12) ++ toBE 2 seq ++ f.drop o

/-- R345: the host port's MAC address, from EUI-64 bytes 0 to 2 and 5 to 7. -/
def State.hostMac (s : State) : List Byte := s.eui.take 3 ++ s.eui.drop 5

/-- R345: is an address broadcast or multicast? -/
def groupAddr (f : List Byte) : Bool := Nat.testBit (leAt f 0 1) 0

/-- LLDP's destination, 01-80-C2-00-00-0E. -/
def isLldp (f : List Byte) : Bool := Nat.beq (beAt f 0 6) 0x0180C200000E

/-- R344: the class of a forwarded frame. -/
def ethClass (f : List Byte) : Nat :=
  let h := ethHead f
  let ptp := (Nat.beq h.etype 0x88F7 && Nat.blt (beAt f (h.at_ + 2) 1 % 16) 4) || (Nat.beq h.etype 0x0800 && Nat.beq (beAt f (h.at_ + 11) 1) 17 && Nat.beq (beAt f (h.at_ + 2 + 4 * (beAt f (h.at_ + 2) 1 % 16) + 2) 2) 319)
  if ptp then 3 else match h.pcp with
    | some k => k / 2
    | none => 1

/-! ## The transparent clock -/

/-- R125: where a frame's PTP message begins: IEEE 802.3, or UDP/IPv4 on ports 319 and 320; and the place of the UDP checksum. -/
def ptpAt (f : List Byte) : Option (Nat × Option Nat) :=
  let h := ethHead f
  if h.etype = 0x88F7 then some (h.at_ + 2, none)
  else if h.etype = 0x0800 ∧ beAt f (h.at_ + 11) 1 = 17 then
    let u := h.at_ + 2 + 4 * (beAt f (h.at_ + 2) 1 % 16)
    if beAt f (u + 2) 2 = 319 ∨ beAt f (u + 2) 2 = 320 then some (u + 8, some (u + 6)) else none
  else none

/-- Ones' complement sum of two 16-bit numbers. -/
def onesAdd (a b : Nat) : Nat := if 65535 < a + b then a + b - 65535 else a + b

/-- R125: an amount in 2^-16 ns added to a message's correctionField; a UDP checksum that is not 0 is rewritten to stay valid. -/
def addCorrection (f : List Byte) (m : Nat) (udp : Option Nat) (x : Nat) : List Byte :=
  let v := toBE 8 ((beAt f (m + 8) 8 + x) % 2 ^ 64)
  let g := f.take (m + 8) ++ v ++ f.drop (m + 16)
  match udp with
  | some c =>
    if beAt f c 2 = 0 then g
    else
      let sum := (upFrom 0 4).foldl (fun a k => onesAdd (onesAdd a (65535 - beAt f (m + 8 + 2 * k) 2)) (beAt g (m + 8 + 2 * k) 2)) (65535 - beAt f c 2)
      let w := if 65535 - sum = 0 then 65535 else 65535 - sum
      g.take c ++ toBE 2 w ++ g.drop (c + 2)
  | none => g

/-- R125: the key that pairs a two-step Sync with its Follow_Up: source port identity and sequence number. -/
def ptpKey (f : List Byte) (m : Nat) : List Byte := slice f (m + 20) 12

/-- R125, R126: a frame as it is forwarded from a ring port: a one-step Sync of the module's domain on a PTP-capable port takes the
residence time and the peer delay; a two-step one leaves them to its Follow_Up. Times in 0.25 ns. -/
def State.ptpForward (s : State) (p : Nat) (f : List Byte) (residence : Nat) : List Byte × State :=
  match ptpAt f with
  | none => (f, s)
  | some (m, udp) =>
    let d := s.peer (Nat.beq p 1)
    if beAt f (m + 4) 1 ≠ s.objN 0x2110 2 ∨ d.capable = false then (f, s)
    else
      let x := (residence + (openQuot (d.sum : Nat) (max 1 d.delays.length)).toNat) * 2 ^ 14
      let kind := beAt f m 1 % 16
      if kind = 0 then
        if Nat.testBit (beAt f (m + 6) 1) 1 then
          (f, { s with net := { s.net with followUps := s.net.followUps ++ [(ptpKey f m, x)] } })
        else (addCorrection f m udp x, s)
      else if kind = 8 then
        match s.net.followUps.find? (fun e => decide (e.1 = ptpKey f m)) with
        | some e => (addCorrection f m udp e.2, { s with net := { s.net with followUps := s.net.followUps.filter (fun (k : List Byte × Nat) => decide (k.1 ≠ e.1)) } })
        | none => (f, s)
      else (f, s)

/-! ## To the host -/

/-- The bytes the host store holds (R345). -/
def State.hostBytes (s : State) : Nat := s.net.hostq.foldl (fun a f => a + f.bytes.length) 0

/-- R360: the receive channel of a host-bound frame. -/
def State.hostChannel (s : State) (port etype : Nat) : Nat :=
  match (upFrom 0 16).find? (fun k => s.rdB (Reg.NET_CLASS k) 31 && Nat.beq (s.rdF (Reg.NET_CLASS k) 15 0) etype &&
    decide (s.rdB (Reg.NET_CLASS k) 20 = Nat.beq port 2)) with
  | some k => s.rdF (Reg.NET_CLASS k) 19 16
  | none => if port = 2 then s.rdF Reg.NET_HOST_DEFAULT 7 4 else s.rdF Reg.NET_HOST_DEFAULT 3 0

/-- R350, R360: is a channel an enabled receive channel of a port? -/
def State.rxChannel (s : State) (c port : Nat) : Bool :=
  let w := s.rd (Reg.DMA_CH_CFG c)
  bit w 0 && Nat.beq (fld w 2 1) 2 && decide (bit w 3 = Nat.beq port 2)

/-- A host-bound frame dropped. -/
def State.hostDrop (s : State) (port : Nat) : State := (s.netCount port 12).netInt 4

/-- R124: a port's path adjustment register: ports A and B, or the maintenance port. -/
def netAdj (p : Nat) : Nat := if p = 0 then Reg.TIME_NET_ADJ_A else if p = 1 then Reg.TIME_NET_ADJ_B else Reg.TIME_NET_ADJ_M

/-- R124: a stamp in 0.25 ns with the port's adjustment, RX_ADJ or TX_ADJ, added. -/
def State.adjusted (s : State) (p : Nat) (tx : Bool) (q : Nat) : Nat :=
  ((q : Int) + sx 16 (if tx then s.rdF (netAdj p) 31 16 else s.rdF (netAdj p) 15 0)).toNat

/-- R345, R360: a frame for the host goes to its channel's queue with its FCS and receive stamp (R124), or is dropped; so is one above 9,216 bytes
(log entry 62). -/
def State.hostQueue (s : State) (port : Nat) (f : List Byte) (q : Nat) : State :=
  let g := untag f
  let c := s.hostChannel port (ethHead g).etype
  let bytes := g ++ toLE 4 (crc32 g)
  if 524288 < s.hostBytes + bytes.length ∨ 9216 < bytes.length ∨ s.rxChannel c port = false then s.hostDrop port
  else
    let first := !(s.net.hostq.any (fun e => Nat.beq e.chan c))
    { s with net := { s.net with hostq := s.net.hostq ++ [{ chan := c, port := port, bytes := bytes, q := s.adjusted port false q, epoch := s.time.epoch,
                                                            headAt := if first then some s.time.now else none }] } }

/-- R348: the TLVs of an LLDP frame from a place on, at most n: type and value. -/
def lldpTlvs (f : List Byte) : Nat → Nat → List (Nat × List Byte)
  | 0, _ => []
  | n + 1, o =>
    let h := beAt f o 2
    if h / 512 = 0 ∨ f.length ≤ o then [] else (h / 512, slice f (o + 2) (h % 512)) :: lldpTlvs f n (o + 2 + h % 512)

/-- A value padded with zeros to n bytes. -/
def padTo (n : Nat) (l : List Byte) : List Byte := (l ++ List.replicate n 0).take n

/-- R348, R362: the neighbour an LLDP frame describes, as object NEIGHBOUR holds it. -/
def neighbourOf (f : List Byte) : List Byte :=
  let t := lldpTlvs f 32 ((ethHead f).at_ + 2)
  let v (k : Nat) : List Byte := ((t.find? (fun e => Nat.beq e.1 k)).map (fun e => e.2)).getD []
  let own := ((t.find? (fun e => Nat.beq e.1 127 && decide (slice e.2 0 4 = Config.lldpOui))).map (fun e => e.2.drop 4)).getD []
  padTo 6 ((v 1).drop 1) ++ padTo 16 ((v 2).drop 1) ++ padTo 10 own ++ toLE 2 (beAt (v 3) 0 2) ++ padTo 1 (own.drop 10) ++ List.replicate 5 0

/-- R348: an LLDP frame heard on a port: its neighbour is kept; a change sets NEIGHBOUR. -/
def State.lldpHeard (s : State) (p : Nat) (f : List Byte) : State :=
  let n := neighbourOf f
  let s1 := { s with net := { s.net with neighbourAt := setAt s.net.neighbourAt p (some s.time.now) } }.setObj (0x2810 + p) 5 n
  if s.obj (0x2810 + p) 5 = n then s1 else s1.netInt 3

/-- R339, R345: a frame delivered to the host: unicast to its address, broadcast and multicast are accepted. -/
def State.hostDeliver (s : State) (p : Nat) (f : List Byte) (q : Nat) : State :=
  if groupAddr f || decide (f.take 6 = s.hostMac) then (if isLldp f then s.lldpHeard p (untag f) else s).hostQueue p f q else s

/-! ## Forwarding -/

/-- R344: the bytes queued at an egress port. -/
def State.egressBytes (s : State) (p : Nat) : Nat := s.net.egress.foldl (fun a e => if e.port = p then a + e.bytes.length else a) 0

/-- The frame last sent on a port. -/
def State.putLine (s : State) (p : Nat) (f : List Byte) : State := { s with net := { s.net with line := setAt s.net.line p f } }

/-- R343, R344: a frame forwarded to a ring port, cut-through or stored; bad, it is stomped or dropped. A stored one waits behind those of an equal or
higher class. -/
def State.forward (s : State) (from_ p : Nat) (f : List Byte) (ok : Bool) (residence : Nat) : State :=
  let cls := ethClass f
  let behind := s.net.egress.any (fun e => Nat.beq e.port p && Nat.ble cls e.cls)
  let cut := s.rdB Reg.NET_CTRL 4 && !behind
  if !s.linked p || !s.rdB Reg.NET_CTRL p || Nat.blt 262144 (s.egressBytes p + f.length) then s.netCount p 8
  else
    let (g, s1) := s.ptpForward from_ f residence
    if ok && behind then
      let e : TxEntry := { port := p, cls := cls, chan := 16, frameId := 0, stamp := false, wb := false, bytes := g }
      { s1 with net := { s1.net with egress := s1.net.egress ++ [e] } }.netCount p 6
    else if ok then ((s1.netCount p (if cut then 5 else 6)).netCount p 4).putLine p g
    else if cut then ((s1.netCount p 5).netCount p 7).putLine p g
    else s1

/-- R340: is (source, sequence) held by duplicate discard now? -/
def State.dupHeld (s : State) (src seq : Nat) : Bool :=
  let forget := s.rdF Reg.NET_HSR_CFG 31 24 * 10000000
  s.net.dups.any (fun e => Nat.beq e.1 src && Nat.beq e.2.1 seq && Nat.blt s.time.now (e.2.2 + forget))

/-- R340: a new entry; in a full table it replaces the oldest. -/
def State.dupAdd (s : State) (src seq : Nat) : State :=
  let e := (src, seq, s.time.now)
  let forget := s.rdF Reg.NET_HSR_CFG 31 24 * 10000000
  let live := s.net.dups.filter (fun (e : Nat × Nat × Ns) => Nat.blt s.time.now (e.2.2 + forget))
  if live.length < 8192 then { s with net := { s.net with dups := live ++ [e] } }
  else { s with net := { s.net with dups := live.drop 1 ++ [e] } }.bumpObj 0x2800 0x0A 4

/-- R338: the node table: where and when each node was last heard; an entry goes after the 60 s of IEC 62439-3's NodeForgetTime (log entry 62). -/
def State.nodeSeen (s : State) (src p : Nat) : State :=
  let kept := s.net.nodes.filter (fun (e : Nat × Nat × Ns) =>
    !(Nat.beq e.1 src && Nat.beq e.2.1 p) && Nat.blt s.time.now (e.2.2 + 60000000000))
  { s with net := { s.net with nodes := kept ++ [(src, p, s.time.now)] } }

/-- R341: one of the module's own supervision frames has returned: the ring is closed. -/
def State.supReturn (s : State) : State :=
  let s1 := { s with net := { s.net with supAt := s.time.now } }
  if s1.rdB Reg.NET_STATUS 3 then ((s1.wrB Reg.NET_STATUS 3 false).netInt 1).ringState else s1

/-- Table 11.1: an HSR frame. -/
def State.hsrIngress (s : State) (p : Nat) (f : List Byte) (ok : Bool) (q residence : Nat) : State :=
  let src := beAt f 6 6
  match (ethHead f).seq with
  | none => s.netCount p 11
  | some seq =>
    if slice f 6 6 = s.hostMac then
      let s1 := s.netCount p 10
      if ok && Nat.beq (beAt f 0 5) 0x01154E0001 then s1.supReturn else s1
    else if s.dupHeld src seq then (if ok then s.nodeSeen src p else s).netCount p 9
    else
      let s1 := if ok then (s.dupAdd src seq).nodeSeen src p else s
      let toHost (t : State) : State := if ok then t.hostDeliver p f q else t
      if isLldp f then toHost s1
      else if f.take 6 = s.hostMac then toHost s1
      else if !groupAddr f then s1.forward p (1 - p) f ok residence
      else toHost (s1.forward p (1 - p) f ok residence)

/-- R342: the port an address was learnt on, within 300 s. -/
def State.addrPort (s : State) (mac : Nat) : Option Nat :=
  (s.net.addrs.find? (fun e => Nat.beq e.1 mac && Nat.blt s.time.now (e.2.2 + 300000000000))).map (fun e => e.2.1)

/-- R342: a source address learnt; what a full table does with a new address is not stated. -/
def State.addrLearn (s : State) (mac p : Nat) : State :=
  let rest := s.net.addrs.filter (fun (e : Nat × Nat × Ns) => !(Nat.beq e.1 mac) && Nat.blt s.time.now (e.2.2 + 300000000000))
  let e := (mac, p, s.time.now)
  if rest.length < 2048 then { s with net := { s.net with addrs := rest ++ [e] } }
  else
    let (x, s1) := s.free
    if x % 2 = 0 then { s1 with net := { s1.net with addrs := rest.drop 1 ++ [e] } } else s1

/-- R342: a frame in plain switching. -/
def State.bridgeIngress (s : State) (p : Nat) (f : List Byte) (ok : Bool) (q residence : Nat) : State :=
  let s1 := if ok && !Nat.testBit (leAt f 6 1) 0 then s.addrLearn (beAt f 6 6) p else s
  let toHost (t : State) : State := if ok then t.hostDeliver p f q else t
  if isLldp f then toHost s1
  else if f.take 6 = s.hostMac then toHost s1
  else if groupAddr f then toHost (s1.forward p (1 - p) f ok residence)
  else match s1.addrPort (beAt f 0 6) with
    | some o => if o = p then s1 else s1.forward p o f ok residence
    | none => s1.forward p (1 - p) f ok residence

/-- R347: a frame on the maintenance port, for the host alone: one longer than 1,522 bytes with its FCS is counted. -/
def State.maintReceive (s : State) (f : List Byte) (fcsOk : Bool) (q : Nat) : State :=
  let len := f.length + 4
  if !s.rdB Reg.NET_CTRL 2 || !s.linked 2 then s
  else if 1522 < len then s.netCount 2 2
  else
    let ok := fcsOk && Nat.ble 64 len
    let s1 := s.netCount 2 (if ok then 0 else 1)
    if ok then s1.hostDeliver 2 f q else s1

/-- RING_FRAME_RECEIVE, R336, R339, R342, R347: a frame on a ring port, or on the maintenance port, without its FCS; its stamp in 0.25 ns of local
time, and the time it would reside in the module. -/
def execRingFrameReceive (p : Fin 3) (f : List (BitVec 8)) (fcsOk : Bool) (q residence : Nat) (s : State) :
    Host.Outcome State Fault Refusal :=
  .next (
    let n := p.val
    let s0 := s.upTo (q / 4)
    let dq := s0.queue (if n = 0 then 8 else 10)
    let len := f.length + 4
    if n = 2 then s0.maintReceive f fcsOk q
    else if !s0.rdB Reg.NET_CTRL n || !s0.linked n || dq.hold then s0
    else if dq.stallRead || dq.stallWrite then s0.netCount n 3
    else if 9222 < len then s0.netCount n 2
    else
      let ok := fcsOk && Nat.ble 64 len
      let s1 := s0.netCount n (if ok then 0 else 1)
      if len < 64 then s1
      else if s0.rdB Reg.NET_STATUS 4 then s1.hsrIngress n f ok q residence
      else s1.bridgeIngress n f ok q residence)

/-- DUPLICATE_FORGET, R340: entries made 400 ms ago (NET_HSR_CFG.FORGET) are forgotten. -/
def execDuplicateForget (t : Nat) (s : State) : Host.Outcome State Fault Refusal :=
  .next (
    let s0 := s.upTo t
    let forget := s0.rdF Reg.NET_HSR_CFG 31 24 * 10000000
    { s0 with net := { s0.net with dups := s0.net.dups.filter (fun (e : Nat × Nat × Ns) => Nat.blt s0.time.now (e.2.2 + forget)) } })

/-- ADDRESS_AGE_OUT, R342: entries 300 s old go. -/
def execAddressAgeOut (t : Nat) (s : State) : Host.Outcome State Fault Refusal :=
  .next (
    let s0 := s.upTo t
    { s0 with net := { s0.net with addrs := s0.net.addrs.filter (fun (e : Nat × Nat × Ns) => Nat.blt s0.time.now (e.2.2 + 300000000000)) } })

/-! ## The module's own frames -/

/-- A frame of the module put on every ring port whose link is up, with one HSR sequence number (R338). -/
def State.ringSend (s : State) (f : List Byte) : State :=
  let seq := s.net.hsrSeq
  let hsr := s.rdB Reg.NET_STATUS 4
  let put (t : State) (p : Nat) : State := if t.linked p then (t.netCount p 4).putLine p (if hsr then hsrTag f p seq else f) else t
  let s1 := put (put s 0) 1
  { s1 with net := { s1.net with hsrSeq := (seq + 1) % 2 ^ 16 } }

/-- SUPERVISION_FRAME, R338: every LifeCheckInterval, in HSR mode. -/
def execSupervisionFrame (s : State) : Host.Outcome State Fault Refusal :=
  .next (
    if s.rdB Reg.NET_STATUS 4 then
      { s with net := { s.net with supSeq := (s.net.supSeq + 1) % 2 ^ 16 } }.ringSend
        (Config.hsrSupervision (beAt s.hostMac 0 6) (s.rdF Reg.NET_HSR_CFG 7 0) s.net.supSeq)
    else s)

/-- RING_OPEN, R341: none of the module's supervision frames has returned for 3 × LifeCheckInterval. -/
def execRingOpen (t : Nat) (s : State) : Host.Outcome State Fault Refusal :=
  .next (
    let s0 := s.upTo t
    if s0.rdB Reg.NET_STATUS 4 && !s0.rdB Reg.NET_STATUS 3 &&
        Nat.ble (s0.net.supAt + 3 * s0.rdF Reg.NET_HSR_CFG 23 8 * 1000000) s0.time.now then
      ((((s0.wrB Reg.NET_STATUS 3 true).netInt 1).raiseActive 29)).ringState
    else s0)

/-- Do the cores of the application cluster run? -/
def State.coresRun (s : State) : Bool := !s.aon.inReset && !s.aon.appOff

/-- A TLV of IEEE 802.1AB. -/
def tlv (k : Nat) (v : List Byte) : List Byte := toBE 2 (k * 512 + v.length) ++ v

/-- R346: the IPv4 address the module holds on a port, 4 bytes, if it holds one. -/
def State.ipv4 (s : State) (p : Nat) : List Byte :=
  let l := s.obj 0x2800 (if p = 2 then 5 else 3)
  if p = 2 then (if 32 ≤ l.length then slice l 24 4 else [])
  else if slice l 0 8 = s.eui ∧ 16 ≤ l.length then slice l 8 4
  else if slice l 16 8 = s.eui ∧ 32 ≤ l.length then slice l 24 4 else []

/-- R348: the module's LLDP frame on a port. -/
def State.lldpFrame (s : State) (p : Nat) : List Byte :=
  let ip := s.ipv4 p
  toBE 6 0x0180C200000E ++ s.hostMac ++ [0x88, 0xCC] ++ tlv 1 (4 :: s.hostMac) ++ tlv 2 [7, BitVec.ofNat 8 (if p = 2 then 0x4D else 0x41 + p)] ++
    tlv 3 (toBE 2 (4 * s.objN 0x2800 7)) ++ tlv 5 (s.obj 0x1000 2) ++ (if ip.isEmpty then [] else tlv 8 ([5, 1] ++ ip ++ [1] ++ toBE 4 0 ++ [0])) ++
    tlv 127 (Config.lldpOui ++ s.eui ++ s.obj 0x2200 1 ++ s.obj 0x2800 1) ++ [0, 0]

/-- LLDP_SEND, R348: every LLDP_INTERVAL, on a port whose link is up. In HSR mode a ring port's carries an HSR tag with a sequence number of its own
(log entry 62). -/
def execLldpSend (p : Fin 3) (s : State) : Host.Outcome State Fault Refusal :=
  .next (
    let n := p.val
    if s.linked n && s.coresRun then
      if s.rdB Reg.NET_STATUS 4 && Nat.blt n 2 then
        { s with net := { s.net with hsrSeq := (s.net.hsrSeq + 1) % 2 ^ 16 } }.netCount n 4 |>.putLine n (hsrTag (s.lldpFrame n) n s.net.hsrSeq)
      else (s.netCount n 4).putLine n (s.lldpFrame n)
    else s)

/-- LLDP_NEIGHBOUR_EXPIRE, R348: a neighbour's TTL has run out. -/
def execLldpNeighbourExpire (p : Fin 3) (t : Nat) (s : State) : Host.Outcome State Fault Refusal :=
  .next (
    let s0 := s.upTo t
    match s0.net.neighbourAt.getD p.val none with
    | some h =>
      if h + leAt (s0.obj (0x2810 + p.val) 5) 32 2 * 1000000000 ≤ s0.time.now then
        ({ s0 with net := { s0.net with neighbourAt := setAt s0.net.neighbourAt p.val none } }.setObj (0x2810 + p.val) 5 (List.replicate 40 0)).netInt 3
      else s0
    | none => s0)

/-- SYNC_TRANSMIT, R127: as grandmaster the module sends a Sync on the ring; as a boundary clock, on the maintenance
port, and on the ring what it hears there. -/
def execSyncTransmit (p : Fin 3) (t : Nat) (s : State) : Host.Outcome State Fault Refusal :=
  .next (
    let s0 := s.upTo t
    let role := s0.objN 0x2110 1
    let f := Config.ptpSyncFrame s0.eui (s0.objN 0x2110 2) s0.time.syncsSent s0.time.now
    let sent : State := { s0 with time := { s0.time with syncsSent := (s0.time.syncsSent + 1) % 2 ^ 16 } }
    if p.val = 2 then
      (if role = 2 ∧ s0.time.slavePort ≠ 3 ∧ (s0.time.isMaster = true ∨ s0.time.slavePort ≠ 0) ∧ s0.linked 2 = true then (sent.netCount 2 4).putLine 2 f else s0)
    else if 1 ≤ role ∧ (s0.time.isMaster = true ∨ s0.time.slavePort = 3) ∧ s0.linked p.val = true then sent.ringSend f
    else s0)

end Sys2Proof.Machine
end

