-- ==== Sys2Proof/Machine/Radio.lean ====
section
/-! DEFINITION. Resident firmware's work on the radios: a cohort's schedule built from the objects, the MAC registers written from them, and
what a start restores (R153, R157, R168, R179, R185, R190, R196, R202, R262). -/

namespace Sys2Proof.Machine

/-! ## Cohort schedules -/

/-- Table 5.3: a cell entry. -/
def cellWord (kind day role nb len : Nat) : Word := BitVec.ofNat 32 (kind + 4 * day + 16 * role + nb * 2 ^ 10 + (len - 1) * 2 ^ 22)

/-- R156: are the offsets of a cell of `len` slots at `o` all idle, within a slotframe of l slots? -/
def slotFits (cells : List (Nat × Word)) (l o len : Nat) : Bool :=
  Nat.ble (o + len) l && (upFrom o len).all (fun k => decide (Sparse.get (fun _ => (0 : Word)) cells k = 0))

/-- R156: a cell at an offset, with its continuations. -/
def slotPut (cells : List (Nat × Word)) (o : Nat) (w : Word) : List (Nat × Word) :=
  (upFrom (o + 1) (fld w 24 22)).foldl (fun a k => Sparse.set (fun _ => (0 : Word)) a k 8) (Sparse.set (fun _ => (0 : Word)) cells o w)

/-- R157: the slots of the DAY cells. -/
def daySlots (cells : List (Nat × Word)) : Nat := (cells.filter (fun e => bit e.2 2)).foldl (fun a e => a + fld e.2 24 22 + 1) 0

/-- R202: a cell placed: at the first preferred offset where it fits, else at one of the candidates, which the module chooses (log entry 2). The
DAY cells stay within L / 10 slots. Answers the offset, none where it finds no place. -/
def State.cellPlace (s : State) (cells : List (Nat × Word)) (l : Nat) (w : Word) (prefer cands : List Nat) :
    Option Nat × List (Nat × Word) × State :=
  let len := fld w 24 22 + 1
  if bit w 2 && Nat.blt (l / 10) (daySlots cells + len) then (none, cells, s)
  else
    match prefer.find? (fun o => slotFits cells l o len) with
    | some o => (some o, slotPut cells o w, s)
    | none =>
      match cands.filter (fun o => slotFits cells l o len) with
      | [] => (none, cells, s)
      | c =>
        let (f, s1) := s.free
        let o := c.getD (f % c.length) 0
        (some o, slotPut cells o w, s1)

/-- R202: n cells of one kind placed. -/
def State.cellsPlace (l : Nat) (w : Word) (prefer cands : List Nat) : Nat → List (Nat × Word) × State → List (Nat × Word) × State
  | 0, a => a
  | n + 1, (cells, s) => let r := s.cellPlace cells l w prefer cands; State.cellsPlace l w prefer cands n r.2

/-- The offsets at which a schedule holds cells that pass a test. -/
def cellOffsets (cells : List (Nat × Word)) (p : Word → Bool) : List Nat := (cells.filter (fun e => !bit e.2 3 && p e.2)).map (fun e => e.1)

/-- R161: the slots a beacon of a cohort needs. -/
def State.beaconLen (s : State) (c : Nat) : Nat :=
  let off := s.rdF (Reg.MAC_TIMING c) 11 0
  (off + airTime (s.rd (Reg.MAC_PHY c)) ((s.beaconPayload c).length + 27) + 1000 + 9999) / 10000

/-- R262: does an offset lie in a light-map cell? -/
def State.lmCovers (s : State) (o : Nat) : Bool :=
  let p := s.objN 0x2500 5
  Nat.ble p (o % 10) && Nat.blt (o % 10) (p + s.objN 0x2500 4)

/-- R196, R202, R262: a cohort's cells in order of placement: the beacon, the light-map cells outside COMMISSION, the discovery cells, the
shared cells and the direct neighbours' cells; each stays where the schedule held it if it fits there. Answers the cells, the lanterns whose cells
moved with their offsets, and the lanterns for which no offset remains. -/
def State.cohortCells (s : State) (c : Nat) (comm : Bool) (old : List (Nat × Word)) : List (Nat × Word) × List (Nat × Nat) × List Nat × State :=
  let l := s.objN 0x7000 1
  let all := upFrom 0 l
  let n := s.beaconLen c
  let open_ (o : Nat) : Bool := (upFrom o n).all (fun k => !s.lmCovers k)
  let r1 := s.cellPlace [] l (cellWord 1 1 1 0xFFF n) ((cellOffsets old (fun w => Nat.beq (fld w 5 4) 1)).filter open_) (all.filter open_)
  let lm := cellWord 1 0 2 0xFFF (s.objN 0x2500 4)
  let c2 := if comm then r1.2.1
    else (all.filter (fun o => Nat.beq (o % 10) (s.objN 0x2500 5))).foldl (fun a o =>
      if slotFits a l o (s.objN 0x2500 4) then slotPut a o lm else a) r1.2.1
  let disc := all.filter (fun o => Nat.beq (o % 32) (4 * c))
  let r3 := State.cellsPlace l (cellWord 1 1 3 0xFFF 4) (cellOffsets old (fun w => Nat.beq (fld w 5 4) 3 && bit w 2)) disc (s.objN 0x7000 4) (c2, r1.2.2)
  let c3 := if comm then disc.foldl (fun a o => if slotFits a l o 4 then slotPut a o (cellWord 1 0 3 0xFFF 4) else a) r3.1 else r3.1
  let sh := s.objN 0x7000 5
  let shared (day : Bool) : List Nat := cellOffsets old (fun w => Nat.beq (fld w 1 0) 3 && (bit w 2 == day))
  let r4 := State.cellsPlace l (cellWord 3 1 0 0xFFF 1) (shared true) all (sh / 2) (c3, r3.2)
  let r5 := State.cellsPlace l (cellWord 3 0 0 0xFFF 1) (shared false) all (sh - sh / 2) r4
  (old.filter (fun e => !bit e.2 3 && Nat.beq (fld e.2 1 0) 2 && Nat.beq (fld e.2 5 4) 0)).foldl
    (fun (a : List (Nat × Word) × List (Nat × Nat) × List Nat × State) e =>
      let who := fld e.2 21 10
      let relay := Nat.beq (s.card who 0x1A) 1
      let ok := s.relayOffsets c who
      let may (o : Nat) : Bool := !relay || ok.contains o
      let r := a.2.2.2.cellPlace a.1 l e.2 ([e.1].filter may) (all.filter may)
      match r.1 with
      | some o => (r.2.1, if Nat.beq o e.1 then a.2.1 else a.2.1 ++ [(who, o)], a.2.2.1, r.2.2)
      | none => (r.2.1, a.2.1, a.2.2.1 ++ [who], r.2.2))
    (r5.1, [], [], r5.2)

/-- R185: the staged MAC registers that follow the mesh objects; the others are written at the commit. -/
def State.radioRegs (s : State) (c : Nat) : State :=
  let hop := s.obj 0x2200 2
  let disc := s.obj 0x2200 4
  let s1 := (s.wrF (Reg.MAC_PHY c) 11 0 (s.objN 0x2210 (c + 1))).wrF (Reg.MAC_PHY c) 31 24 (s.objN 0x2211 (c + 1))
  let s2 := (((s1.wrF (Reg.MAC_SLOTFRAME c) 12 0 (s.objN 0x7000 1)).wrF (Reg.MAC_HOP c) 6 0 hop.length).wrF (Reg.MAC_HOP c) 11 10 (disc.length - 1)).wrF
    (Reg.MAC_HOP c) 31 16 (s.objN 0x2200 3)
  let s3 := (upFrom 0 16).foldl (fun t k => t.wrN (Reg.MAC_HOPCH c k) (leAt hop (4 * k) 4)) s2
  s3.setMac c { s3.mac c with liveDue := true }

/-- R157: the staged cells replaced. -/
def State.stageCells (s : State) (c : Nat) (cells : List (Nat × Word)) : State :=
  let base := Reg.MAC_CELL c 0
  let s1 := { s with regs := s.regs.filter (fun (e : Nat × Word) => !(Nat.ble base e.1 && Nat.blt e.1 (base + 4 * 4099))) }
  cells.foldl (fun t e => t.wr (Reg.MAC_CELL c e.1) e.2) s1

/-- R202: a lantern for whose cell no offset remains goes behind a relay, if there is one, and is told its cell. -/
def State.relayInstead (c apply : Nat) (s : State) (n : Nat) : State :=
  if (s.relays c n).isEmpty then s
  else
    let r := s.placeRelay c n
    (r.2.2.setCard n 0x0A 2 r.1).sendSchedule c n (toLE 2 r.2.1 ++ [0, 1]) apply

/-- R202: the module builds and commits a cohort's schedule; a lantern whose cell moves is sent COMMAND SCHEDULE, SCHED_VERSION advances, and the
commit takes effect at the APPLY_ASN announced. A MAC that does not run takes the schedule at once. -/
def State.radioBuild (s : State) (c : Nat) : State :=
  let s1 := s.radioRegs c
  let r := s1.cohortCells c (decide (s.mode.mode = .commission)) (s.member.cells.getD c [])
  let s2 := r.2.2.2.stageCells c r.1
  if r.2.1.isEmpty && r.2.2.1.isEmpty then s2.commitNow c
  else
    let s3 := s2.setObjN (0x7001 + c) 7 1 (s2.objN (0x7001 + c) 7 + 1)
    let apply := s3.applyAsn c
    let s4 := r.2.1.foldl (fun (t : State) (e : Nat × Nat) =>
      t.sendSchedule c e.1 (toLE 2 e.2 ++ [0, 1] ++ (if t.card e.1 0x1A = 1 then t.relayCells c e.1 else [])) apply) s3
    (r.2.2.1.foldl (State.relayInstead c apply) s4).commitFor c apply

/-! ## A start -/

/-- R179, R190: a lantern's neighbour entry restored from its card, its transmit counter 1,024 on; PARKED and DEMOTED lanterns stay DEMOTED. -/
def State.nbRestore (c : Nat) (s : State) (n : Nat) : State :=
  match s.nbFree c with
  | none => s
  | some i =>
    let s1 := (s.setCard n 0x0F 4 (s.card n 0x0F + 1024)).nbWrite c i n
    if Nat.ble 5 (s.card n 3) then s1.nbDemote c i true else s1

/-- Table 2.3, R153, R179: at a start each transceiver's registers, schedule, key, neighbours and counters are restored, and its slot grid armed on
the local clock. -/
def State.radioStart (s : State) (c : Nat) : State :=
  let s1 := s.radioBuild c
  let slot := s1.objN (0x7001 + c) (if s1.objN (0x7001 + c) 5 = 0 then 3 else 4)
  let s2 := (s1.wrF (Reg.MAC_KEY c) 7 0 slot).wrF (Reg.MAC_KEY c) 15 8 ((s1.slot slot).gen % 256)
  let s3 := (s2.cohortCards c holdsEntry).foldl (State.nbRestore c) s2
  let m := s3.mac c
  let s4 := s3.setMac c { m with bcast := m.bcast + 1024, bcastSaved := m.bcast + 1024 }
  let first := (s4.time.now / 10000000 + 1) * 10000000
  let a := first / 10000000
  ((((s4.ringsStart c).wrN (Reg.MAC_ASN_SET_LO c) (a % 2 ^ 32)).wrF (Reg.MAC_ASN_SET_HI c) 7 0 (a / 2 ^ 32)).wrB (Reg.MAC_ASN_SET_HI c) 31 true).trigSet
    (12 + c) (4 * first) 10000000

/-- Table 2.3: all four transceivers. -/
def State.radiosStart (s : State) : State := (upFrom 0 4).foldl State.radioStart s

end Sys2Proof.Machine
end

