-- ==== Sys2Proof/Machine/Apply.lean ====
section
/-! DEFINITION. The registers that resident firmware and the supervisor write from the objects, group by group: at a start (Table 2.3), and
when an object is written. -/

namespace Sys2Proof.Machine

/-! ## Time and the RTC -/

/-- R122, R123, R124, R146, R503: the servo's settings and the ports' path adjustments from their objects; EN and STEP_EN are 1 from every start on. -/
def State.timeApply (s : State) : State :=
  let n := s.objN 0x2120 3
  let s1 := (s.wrF Reg.TIME_SERVO_LIMIT 15 0 (s.objN 0x2100 6)).wrF Reg.TIME_SERVO_LOCK 15 0 (s.objN 0x2100 7)
  let s2 := (s1.wrF Reg.TIME_SERVO_LOCK 31 24 (s.objN 0x2100 8)).wrF Reg.TIME_SERVO_CTRL 1 0 3
  let s3 := (s2.wrF Reg.TIME_SERVO_CTRL 3 2 (b2n (Nat.ble 1 n))).wrF Reg.TIME_SERVO_CTRL 6 4 (n - 1)
  let adj (rx tx : Nat) : Nat := s.objN 0x2110 rx + 65536 * s.objN 0x2110 tx
  (s3.wrN Reg.TIME_NET_ADJ_A (adj 0x0C 0x0D)).wrN Reg.TIME_NET_ADJ_B (adj 0x0E 0x0F)

/-- R146: the calendar layout of RTC_NOW, RTC_SET and RTC_ALARM; the year as written must be 2000 or later. -/
def civilOf8 (b : List Byte) : Civil :=
  { year := leAt b 0 2 - 2000, month := leAt b 2 1, day := leAt b 3 1, hour := leAt b 4 1, min := leAt b 5 1, sec := leAt b 6 1 }

/-- R146: is a calendar layout a date and time of R139? -/
def civil8Ok (b : List Byte) : Bool := Nat.beq b.length 8 && Nat.ble 2000 (leAt b 0 2) && (civilOf8 b).valid

/-- R143, R146: the alarm from RTC_ALARM. -/
def State.alarmApply (s : State) : State :=
  let b := s.obj 0x2130 3
  if s.aonTakes then
    if civil8Ok b then
      let c := civilOf8 b
      ((s.wrN Reg.AON_RTC_ALARM_DAY (dayNumber c.year c.month c.day)).wrN Reg.AON_RTC_ALARM_SEC c.secOfDay).wrB Reg.AON_RTC_CTRL 1
        (Nat.testBit (leAt b 7 1) 0)
    else s.wrB Reg.AON_RTC_CTRL 1 false
  else s

/-- R140, R141, Table 2.9: the curve from RTC_CURVE, the trim from RTC_TRIM, and TAMPER_WAKE. -/
def State.aonApply (s : State) : State :=
  if s.aonTakes then
    let b := s.obj 0x2130 7
    let s1 := (upFrom 0 33).foldl (fun (t : State) k => t.wrF (Reg.AON_RTC_CURVE k) 15 0 (leAt b (2 * k) 2)) s
    (s1.wrF Reg.AON_RTC_TRIM 15 0 (s.objN 0x2130 6)).wrB Reg.AON_WAKE_CFG 0 (Nat.beq (s.objN 0x2000 0x0D) 1)
  else s

/-- R144: the local clock is loaded from the RTC to within 100 µs, the servo in FREE_RUN; since then ring time and backhaul sessions
are absent (Table 2.3). The load is a SET (log entry 41), after which EPOCH is 0 (R119). -/
def State.clockLoad (s : State) : State :=
  let (f, s0) := s.free
  let s1 := { s0 with time := { s0.time with epoch := 15, changes := [] } }
  let s2 := s1.clockChange (s.rtcTime + f % 200001 - 100000)
  { s2 with time := { s2.time with servoState := 0, lockedSince := none },
            mode := { s2.mode with ringTimeSince := some s2.time.now, backhaulSince := some s2.time.now } }

/-! ## Metering -/

/-- R302, R395: the corrections in force from the calibration records. -/
def State.corrApply (s : State) : State :=
  (upFrom 0 10).foldl (fun (t : State) n =>
    let b := s.obj (0x2A20 + n) 1
    ((t.wrN (Reg.MTR_CORR_GAIN n) (leAt b 0 4)).wrN (Reg.MTR_CORR_OFFSET n) (leAt b 4 4)).wrN (Reg.MTR_CORR_DELAY n) (leAt b 8 4)) s

/-! ## Light control -/

/-- R251, R256, R257: the control engine's settings from their objects. -/
def State.ctlApply (s : State) : State :=
  ((s.wrF Reg.CTL_LAW 15 0 (s.objN 0x2500 1)).wrF Reg.CTL_RAMP_LIMIT 15 0 (s.objN 0x2500 2)).wrF Reg.CTL_HO_BAND 9 0 (s.objN 0x2500 3)

/-- R253: a class's set of a bank written into the control engine's memory. -/
def State.setApply (s : State) (bank k : Nat) : State := s.writeMem (s.setAddr bank k) (s.setObject bank k)

/-- Table 1.5: where resident firmware places an area of the control engine: apart from the others, within its region (log entry 2). -/
def ctlBase (k : Nat) : Nat := 0x90000000 + 0x8000 * (3 * (Config.ctlArea k % 1365) + k)

/-- R249, R253, R255: the control engine at a start: its areas, its settings, its sets and its bank. -/
def State.ctlStart (s : State) : State :=
  let put (t : State) (lo hi k : Nat) : State := (t.wrN lo (ctlBase k)).wrF hi 7 0 (ctlBase k / 2 ^ 32)
  let s1 := put (put (put s.ctlApply Reg.CTL_BANK_BASE_LO Reg.CTL_BANK_BASE_HI 0) Reg.CTL_OUT_BASE_LO Reg.CTL_OUT_BASE_HI 1)
    Reg.CTL_IN_BASE_LO Reg.CTL_IN_BASE_HI 2
  let s2 := (upFrom 0 16).foldl (fun (t : State) k => (t.setApply 0 k).setApply 1 k) s1
  let bank := s.objN 0x2500 7
  let s3 := s2.wrB Reg.CTL_STATUS 2 (Nat.beq bank 1)
  { s3 with ctl := { s3.ctl with core := { s3.ctl.core with bank := bank } } }

/-! ## The cabinet bus -/

/-- R331: the matrix in rows of 32 cells; a cell the object does not hold is FREE (log entry 41). -/
def matrixRows (m : List Byte) (n cycles : Nat) : List Byte :=
  (upFrom 0 64).flatMap (fun k => (upFrom 0 32).map (fun c => if Nat.blt k cycles && Nat.blt c n then m.getD (k * n + c) 0 else 0))

/-- The exponent of a cycle count. -/
def log2Of (n : Nat) : Nat := ((upFrom 0 7).find? (fun k => Nat.ble n (2 ^ k))).getD 6

/-- R316, R331: the Timetable of the objects, staged on a bus. -/
def State.tableStage (s : State) (b : Nat) : State :=
  let cols := s.obj 0x2700 0x0A
  let n := cols.length / 4
  let cycles := s.objN 0x2700 9
  let s1 := ((s.wrF (Reg.CAN_CYCLE_LEN b) 16 0 (s.objN 0x2700 8)).wrF (Reg.CAN_CYCLE_LEN b) 26 24 (log2Of cycles)).wrF (Reg.CAN_COLS b) 5 0 n
  let s2 := (upFrom 0 32).foldl (fun (t : State) c => t.wrF (Reg.CAN_COL b c) 16 0 (leAt cols (4 * c) 4)) s1
  s2.canPut b 0x8800 (matrixRows (s.obj 0x2700 0x0B) n cycles)

/-- R314, R318, R319: the Timetable's enable, the Bell role and priority on a bus. -/
def State.canRoles (s : State) (b : Nat) : State :=
  let v := s.rd (Reg.CAN_CTRL b)
  s.canCtrl b (setFld (setFld (putBit v 2 (Nat.beq (s.objN 0x2700 5) 1)) 4 3 (s.objN 0x2700 6)) 7 5 (s.objN 0x2700 7))

/-- Table 2.3: the controllers are set up and enabled, in STANDBY or before a preferred standby's decision listening only (R73, R323);
counters resume past those used (R109, R330). -/
def State.canStart (s : State) : State :=
  let listen := decide (s.mode.mode = .standby) || (decide (s.mode.mode = .starting) && Nat.beq (s.objN 0x2020 1) 2)
  let one (t : State) (b : Nat) : State :=
    let t1 := (t.ratesApply b).tableStage b
    let t2 := (t1.tableCommit b).canRoles b
    let v := putBit (t2.rd (Reg.CAN_CTRL b)) 1 listen
    (t2.wrB (Reg.CAN_STATUS b) 2 listen).canCtrl b (putBit v 0 true)
  let s1 := (upFrom 0 2).foldl one s
  { s1 with mode := { s1.mode with canStarted := some s1.time.now } }

/-! ## The ring, the recorder -/

/-- R337, R338, R345, R347: the ring ports' settings from their objects, at a start; both ring ports forward from then on. -/
def State.netStart (s : State) : State :=
  let hsr := Nat.beq (s.objN 0x2800 1) 1
  let mac := s.hostMac
  let s1 := (((s.wrB Reg.NET_CTRL 3 hsr).wrB Reg.NET_STATUS 4 hsr).wrF Reg.NET_CTRL 1 0 3).wrB Reg.NET_CTRL 2 (Nat.beq (s.objN 0x2800 0x0C) 1)
  (((s1.wrF Reg.NET_HSR_CFG 7 0 (s.objN 0x2800 8)).wrN Reg.NET_HOST_MAC_HI (beAt mac 0 2)).wrN Reg.NET_HOST_MAC_LO (beAt mac 2 4)).opticsStart

/-- R449, Table 16.7: the high-water level of the log, as many records as its percentage of 262,144 gives whole. -/
def State.highWaterApply (s : State) : State := s.wrF Reg.EVR_HIGH_WATER 18 0 (s.objN 0x2D00 6 * 262144 / 100)

end Sys2Proof.Machine
end

