-- ==== Sys2Proof/Machine/Cry.lean ====
section
/-! DEFINITION. The crypto engine: jobs of its four queues, the TRNG and the DRBG (R415 to R417, R420), and key sharing with a
standby partner (R414). -/

namespace Sys2Proof.Machine

/-! ## Descriptors -/

/-- Table 14.6: a job descriptor's 64 bytes; a field by its first byte and length. -/
abbrev Desc := List Byte

/-- Table 14.6: FLAGS.OWN. -/
def Desc.own (d : Desc) : Bool := Nat.testBit (leAt d 1 1) 0

/-- Table 14.6: FLAGS.DIR: open or verify. -/
def Desc.opens (d : Desc) : Bool := Nat.testBit (leAt d 1 1) 2

/-- Table 14.6: KEY_SLOT. -/
def Desc.slot (d : Desc) : Nat := leAt d 2 1

/-- Table 14.6: KEY_MODE. -/
def Desc.mode (d : Desc) : Nat := leAt d 4 1

/-- Table 14.6: byte 5, G of R406 or another slot. -/
def Desc.byte5 (d : Desc) : Nat := leAt d 5 1

/-- Table 14.6: TAG_LEN. -/
def Desc.tagLen (d : Desc) : Nat := leAt d 6 1

/-- Table 14.6: NONCE_LEN. -/
def Desc.nonceLen (d : Desc) : Nat := leAt d 7 1

/-- Table 14.6: LABEL. -/
def Desc.label (d : Desc) : List Byte := slice d 8 4

/-- Table 14.6: CONTEXT. -/
def Desc.context (d : Desc) : List Byte := slice d 12 8

/-- Table 14.6: a buffer: its address and length, IN from byte 20, AAD from 28, OUT from 36. -/
def Desc.buf (d : Desc) (o : Nat) : Nat × Nat := (leAt d o 5, leAt d (o + 5) 3)

/-- Table 14.6: NONCE. -/
def Desc.nonce (d : Desc) : List Byte := slice d 48 d.nonceLen

/-- R415: the address of the descriptor a queue returns next. -/
def State.cryDesc (s : State) (q : Nat) : Nat :=
  s.rdF (Reg.CRY_Q_RING_BASE_HI q) 7 0 * 2 ^ 32 + (s.rd (Reg.CRY_Q_RING_BASE_LO q)).toNat +
    64 * ((s.rd (Reg.CRY_Q_TAIL q)).toNat % max 2 (s.rdF (Reg.CRY_Q_RING_SIZE q) 8 0))

/-- R415: does a queue hold jobs? -/
def State.cryHolds (s : State) (q : Nat) : Bool :=
  s.rdB (Reg.CRY_Q_CFG q) 0 && decide (s.rd (Reg.CRY_Q_HEAD q) ≠ s.rd (Reg.CRY_Q_TAIL q))

/-- R415: is it queue q's turn? While other queues hold jobs, queue 3 receives at most one job in four. -/
def State.cryTurn (s : State) (q : Nat) : Bool :=
  !(Nat.beq q 3) || Nat.beq s.cry.turn 0 || !(s.cryHolds 0 || s.cryHolds 1 || s.cryHolds 2)

/-! ## Keys of a job -/

/-- R406: the ASCII labels a job uses. -/
def lblNLLK : List Byte := [0x4E, 0x4C, 0x4C, 0x4B]
/-- Table 14.4: NLCB. -/
def lblNLCB : List Byte := [0x4E, 0x4C, 0x43, 0x42]
/-- Table 14.4: NLKW. -/
def lblNLKW : List Byte := [0x4E, 0x4C, 0x4B, 0x57]
/-- Table 14.4: NLEW. -/
def lblNLEW : List Byte := [0x4E, 0x4C, 0x45, 0x57]
/-- Table 14.4: CBLK. -/
def lblCBLK : List Byte := [0x43, 0x42, 0x4C, 0x4B]
/-- Table 14.4: CBEW. -/
def lblCBEW : List Byte := [0x43, 0x42, 0x45, 0x57]

/-- Table 14.7: the operations. -/
def cryOps : List Nat := [1, 2, 3, 4, 5, 6, 7, 8, 0x10, 0x11, 0x12, 0x13]

/-- Table 14.7: does the operation use a key slot? -/
def cryKeyed (op : Nat) : Bool := !(Nat.beq op 4 || Nat.beq op 5 || Nat.beq op 8)

/-- Tables 14.3 and 14.7: the ATTR bit the operation needs of its slot. -/
def cryAttr (op : Nat) (opens : Bool) : Nat :=
  match op with
  | 1 | 2 => 1
  | 3 => 2
  | 6 => if opens then 4 else 3
  | 7 => 5
  | _ => 6

/-- Table 14.7: may a slot of the KIND be the operation's key? -/
def cryKind (op : Nat) (opens : Bool) (kind : Nat) : Bool :=
  match op with
  | 6 => if opens then Nat.beq kind 0x21 || Nat.beq kind 0x22 else Nat.beq kind 0x11 || Nat.beq kind 0x12
  | 7 => Nat.beq kind 0x11 || Nat.beq kind 0x12
  | _ => Nat.beq kind 1 || Nat.beq kind 2

/-- Table 14.7: may the slot be the wrapping operation's? -/
def crySlotOk (op slot : Nat) : Bool :=
  match op with
  | 0x10 => Nat.ble 16 slot && Nat.ble slot 23
  | 0x11 => Nat.beq slot 24
  | 0x12 => Nat.beq slot 5
  | 0x13 => Nat.beq slot 1
  | _ => true

/-- Table 14.6: the slots a job uses: its own first. -/
def Desc.slots (d : Desc) (op : Nat) : List Nat :=
  if cryKeyed op then
    d.slot :: ((if d.mode = 2 then [1] else []) ++ (if d.mode = 3 then [d.byte5] else []) ++ (if op = 0x12 then [d.byte5] else []))
  else []

/-- R404: the slots of a job's chains whose tags fail at this use. -/
def State.tagsUsed (s : State) (d : Desc) (op : Nat) (bad : List Nat) : State :=
  let chain := (d.slots op).flatMap (fun i => s.chainOf 8 i)
  (bad.filter (fun i => chain.contains i && s.tagged i)).foldl State.tagFail s

/-- R405, Table 14.8: the status of the chain checks: 0 where every one passes. -/
def State.cryChain (s : State) (d : Desc) (op : Nat) : Nat :=
  (d.slots op).foldl (fun a i => if a = 0 then
    (match s.chainCheck i with
     | .ok => 0
     | .invalid => 3
     | .tag => 4
     | .orphaned => 2) else a) 0

/-- R415: does every buffer of a queue 3 job lie in the integrator region? -/
def Desc.inside (d : Desc) : Bool :=
  [20, 28, 36].all (fun o => Nat.beq (d.buf o).2 0 || (admits true .cry true (d.buf o).1 (d.buf o).2))

/-- R415, Tables 14.3 and 14.7: may the queue run the operation on these slots? -/
def State.cryPermitted (s : State) (q : Nat) (d : Desc) (op : Nat) : Bool :=
  let k := s.slot d.slot
  (Nat.blt q 3 || (d.inside && Nat.blt op 0x10 && (d.slots op).all (fun i => Nat.testBit (s.slot i).attr 7) &&
    !(Nat.beq op 7 && Nat.blt d.slot 128))) &&
  (!cryKeyed op || (Nat.testBit k.attr (cryAttr op d.opens) && cryKind op d.opens k.kind && crySlotOk op d.slot &&
    (!(Nat.beq d.mode 1) || Nat.testBit k.attr 0) && (!(Nat.beq d.mode 3) || Nat.testBit (s.slot d.byte5).attr 0)))

/-- R415, Table 14.6, KEY_MODE: the key of a job, from its slot and, in mode 2, the wrapped code at the front of IN. G of a
derivation from an installation code is 0 where byte 5 carries KEY_GEN. -/
def State.cryKey (s : State) (d : Desc) (op : Nat) (input : List Byte) : List Byte :=
  let key := (s.slot d.slot).key
  match d.mode with
  | 0 => key
  | 1 => kdf key d.label d.byte5 d.context (kindBytes (s.slot d.slot).kind)
  | 2 => kdf (fit 16 (Config.keyUnwrap (s.slot 1).key (input.take 24))) d.label (if op = 0x11 then 0 else d.byte5) d.context 16
  | _ => kdf (kdf (s.slot d.byte5).key lblNLLK 0 d.context 16) lblNLKW 0 d.context 16

/-- R415: the message of a job: IN, after the wrapped code in KEY_MODE 2. -/
def Desc.message (d : Desc) (input : List Byte) : List Byte := if d.mode = 2 then input.drop 24 else input

/-! ## Running a job -/

/-- R416: are the lengths, the nonce and the modes of a job within the operation's limits? `n` is the message's length. -/
def Desc.limits (d : Desc) (op n kind : Nat) : Bool :=
  let tag := [0, 4, 8, 16].contains d.tagLen
  let body := if d.opens then Nat.ble d.tagLen n else true
  Nat.ble d.mode 3 && (!(Nat.beq d.mode 2) || Nat.ble 24 (d.buf 20).2) &&
  (match op with
   | 1 => tag && body && Nat.ble 7 d.nonceLen && Nat.ble d.nonceLen 13 &&
       Nat.blt (n - (if d.opens then d.tagLen else 0)) (2 ^ (8 * (15 - d.nonceLen)))
   | 2 => tag && body && Nat.beq d.nonceLen 12
   | 3 => tag
   | 6 => !d.opens || Nat.ble (if kind = 0x22 then 96 else 64) n
   | 8 => Nat.ble (d.buf 36).2 65536
   | 0x10 => (Nat.beq d.mode 2 && decide (d.label = lblNLEW)) || Nat.beq d.mode 3
   | 0x11 => Nat.beq d.mode 2 && decide (d.label = lblCBEW)
   | 0x12 => Nat.ble 16 d.byte5 && Nat.ble d.byte5 24
   | 0x13 => Nat.beq n 16
   | _ => true)

/-- Table 14.7: the bytes of a result, and the state that has drawn what random bits it needs. -/
def State.cryResult (s : State) (d : Desc) (op : Nat) (key msg aad : List Byte) : List Byte × State :=
  let slot := s.slot d.slot
  match op with
  | 1 => (if d.opens then fit (msg.length - d.tagLen) (Config.ccmOpen key d.nonce aad msg)
          else fit (msg.length + d.tagLen) (Config.ccmSeal d.tagLen key d.nonce aad msg), s)
  | 2 => (if d.opens then fit (msg.length - d.tagLen) (Config.gcmOpen key d.nonce aad msg)
          else fit (msg.length + d.tagLen) (Config.gcmSeal key d.nonce aad msg), s)
  | 3 => ((fit 16 (Config.cmac key msg)).take (if d.tagLen = 0 then 16 else d.tagLen), s)
  | 4 => (fit 32 (Config.sha256 msg), s)
  | 5 => (fit 48 (Config.sha384 msg), s)
  | 6 =>
    if d.opens then ([], s)
    else
      let (r, s1) := s.drbgTake 48
      (fit (if slot.kind = 0x12 then 96 else 64) (Config.ecdsaSign key r msg), s1)
  | 7 => (fit (if slot.kind = 0x12 then 48 else 32) (Config.ecdh key msg), s)
  | 8 => s.drbgTake (d.buf 36).2
  | 0x10 => (fit 40 (Config.keyWrap key (kdf slot.key lblNLLK 0 d.context 16 ++
      kdf slot.key lblNLCB 0 (List.replicate 8 0) 16)), s)
  | 0x11 => (fit 24 (Config.keyWrap key (kdf slot.key lblCBLK d.byte5 d.context 16)), s)
  | 0x12 =>
    let t := s.slot d.byte5
    (fit 32 (Config.keyWrap key (toLE 1 d.byte5 ++ toLE 1 t.kind ++ toLE 2 t.gen ++ [0, 0, 0, 0] ++ fit 16 t.key)), s)
  | _ => (fit 24 (Config.keyWrap key msg), s)

/-- R415, R416: does what a job verifies hold: the wrapped code of KEY_MODE 2, the tag of an open, a signature, the point of an ECDH? -/
def State.cryVerifies (s : State) (d : Desc) (op : Nat) (key input aad result : List Byte) : Bool :=
  let msg := d.message input
  let kind := (s.slot d.slot).kind
  let sig := if kind = 0x22 then 96 else 64
  (!(cryKeyed op && Nat.beq d.mode 2) || Config.unwrapOk (s.slot 1).key (input.take 24)) &&
    (match op with
     | 1 => !d.opens || Nat.beq d.tagLen 0 || decide (fit msg.length (Config.ccmSeal d.tagLen key d.nonce aad result) = msg)
     | 2 => !d.opens || Nat.beq d.tagLen 0 || decide (fit msg.length (Config.gcmSeal key d.nonce aad result) = msg)
     | 6 => !d.opens || Config.ecdsaVerify ((s.slot d.slot).key.take (kindBytes kind)) (msg.drop sig) (msg.take sig)
     | 7 => Config.pointValid (if kind = 0x12 then 0x22 else 0x21) msg
     | _ => true)

/-- R417: does the operation need the DRBG? -/
def Desc.random (d : Desc) (op : Nat) : Bool := Nat.beq op 8 || (Nat.beq op 6 && !d.opens)

/-- Tables 14.6 and 14.8: a job as it stands once its checks are made and its data are computed: its status, its result and
whether the result is written. -/
def State.cryCompute (s : State) (q : Nat) (d : Desc) (op : Nat) : CryJob × State :=
  let stop (st : Nat) : CryJob := { queue := q, slot := none, chain := [], result := [], written := false, status := st }
  let integ := Nat.beq q 3
  let chain := s.cryChain d op
  if !cryOps.contains op then (stop 6, s)
  else if chain ≠ 0 then (stop chain, s)
  else if !s.cryPermitted q d op then (stop 5, s)
  else if d.random op && !(s.rdB Reg.CRY_STATUS 4 && s.rdB Reg.CRY_STATUS 5) then (stop 8, s)
  else
    let n := if d.mode = 2 then (d.buf 20).2 - 24 else (d.buf 20).2
    if !d.limits op n (s.slot d.slot).kind then (stop 6, s)
    else
      let i := if Nat.beq (d.buf 20).2 0 || Nat.beq op 8 then ([], true, s) else s.busRead .cry integ (d.buf 20).1 (d.buf 20).2
      let a := if Nat.beq (d.buf 28).2 0 || !(Nat.beq op 1 || Nat.beq op 2) then ([], true, i.2.2)
        else i.2.2.busRead .cry integ (d.buf 28).1 (d.buf 28).2
      if !(i.2.1 && a.2.1) then (stop 7, a.2.2)
      else
        let r := a.2.2.cryResult d op (s.cryKey d op i.1) (d.message i.1) a.1
        let slots := d.slots op
        let job : CryJob := { queue := q, slot := slots.head?, chain := slots.flatMap (fun k => s.chainOf 8 k), result := r.1,
                              written := true, status := 0 }
        if Nat.blt (d.buf 36).2 r.1.length then (stop 6, a.2.2)
        else if !s.cryVerifies d op (s.cryKey d op i.1) i.1 a.1 r.1 then
          ({ job with result := List.replicate r.1.length 0, status := 1, written := Nat.blt 0 r.1.length }, r.2)
        else ({ job with written := Nat.blt 0 r.1.length }, r.2)

/-- R415: the descriptor as it is returned: OWN cleared, STATUS and RESULT_LEN written. -/
def Desc.returned (d : Desc) (status len : Nat) : List Byte :=
  d.take 1 ++ toLE 1 (leAt d 1 1 - leAt d 1 1 % 2) ++ slice d 2 1 ++ toLE 1 status ++ slice d 4 40 ++ toLE 4 len ++ slice d 48 16

/-- R411, R415, R416: a job returns: its result is written, then its descriptor in one write; TAIL and JOBS advance, and DONE is set
where IRQ asks for it. A result the filter refuses returns BUS_ERROR. -/
def State.cryReturn (s : State) (j : CryJob) : State :=
  let q := j.queue
  let integ := Nat.beq q 3
  let d : Desc := (s.busRead .cry integ (s.cryDesc q) 64).1
  let refused := j.written && (!(admits true .cry integ (d.buf 36).1 j.result.length) || s.errorAt (d.buf 36).1 j.result.length)
  let s1 := if j.written then s.busWrite .cry integ (d.buf 36).1 j.result else s
  let s2 := s1.busWrite .cry integ (s.cryDesc q) (d.returned (if refused then 7 else j.status) (if refused then 0 else j.result.length))
  let s3 := (s2.bump (Reg.CRY_Q_TAIL q) 1).bump (Reg.CRY_Q_JOBS q) 1
  let s4 := { s3 with cry := { s3.cry with jobs := s3.cry.jobs.filter (fun (k : CryJob) => !(Nat.beq k.queue q)) } }
  if Nat.testBit (leAt d 1 1) 1 then s4.wrB Reg.CRY_INT_STAT q true else s4

/-- R415: the engine takes the next job of queue q whose operation is the command's, or goes on with the one in progress. With
`hold` the job's data still run when the command ends. `bad` names the slots whose records the array no longer holds as they were written: their
tags fail as the job uses them (R404). A job whose OP is none of Table 14.7's is returned too (log entry 61). -/
def State.cryRun (s : State) (ops : List Nat) (q : Nat) (bad : List (Fin 256)) (hold : Bool) : State :=
  match s.cry.jobs.find? (fun (j : CryJob) => Nat.beq j.queue q) with
  | some j => if hold then s else s.cryReturn j
  | none =>
    if !(s.cryHolds q && s.cryTurn q) then s
    else
      let g := s.busRead .cry (Nat.beq q 3) (s.cryDesc q) 64
      let d : Desc := g.1
      let op := leAt d 0 1
      if !(d.own && (ops.contains op || !cryOps.contains op)) then s
      else
        let s0 := g.2.2.tagsUsed d op (bad.map (fun i => i.val))
        let r := s0.cryCompute q d op
        let turn := if q = 3 then 3 else s.cry.turn - 1
        let s1 := { r.2 with cry := { r.2.cry with jobs := r.2.cry.jobs ++ [r.1], turn := turn } }
        if hold then s1 else s1.cryReturn r.1

/-- AES_CCM, R415. -/
def execAesCcm (q : Fin 4) (bad : List (Fin 256)) (hold : Bool) (s : State) : Host.Outcome State Fault Refusal := .next (s.cryRun [1] q.val bad hold)

/-- AES_GCM, R415. -/
def execAesGcm (q : Fin 4) (bad : List (Fin 256)) (hold : Bool) (s : State) : Host.Outcome State Fault Refusal := .next (s.cryRun [2] q.val bad hold)

/-- AES_CMAC, R415. -/
def execAesCmac (q : Fin 4) (bad : List (Fin 256)) (hold : Bool) (s : State) : Host.Outcome State Fault Refusal := .next (s.cryRun [3] q.val bad hold)

/-- SHA_256, R415. -/
def execSha256 (q : Fin 4) (bad : List (Fin 256)) (hold : Bool) (s : State) : Host.Outcome State Fault Refusal := .next (s.cryRun [4] q.val bad hold)

/-- SHA_384, R415. -/
def execSha384 (q : Fin 4) (bad : List (Fin 256)) (hold : Bool) (s : State) : Host.Outcome State Fault Refusal := .next (s.cryRun [5] q.val bad hold)

/-- ECDSA, R415. -/
def execEcdsa (q : Fin 4) (bad : List (Fin 256)) (hold : Bool) (s : State) : Host.Outcome State Fault Refusal := .next (s.cryRun [6] q.val bad hold)

/-- ECDH, R415. -/
def execEcdh (q : Fin 4) (bad : List (Fin 256)) (hold : Bool) (s : State) : Host.Outcome State Fault Refusal := .next (s.cryRun [7] q.val bad hold)

/-- RANDOM, R415, R417. -/
def execRandomJob (q : Fin 4) (bad : List (Fin 256)) (hold : Bool) (s : State) : Host.Outcome State Fault Refusal := .next (s.cryRun [8] q.val bad hold)

/-- WRAP_LINK, R415, R193. -/
def execWrapLink (q : Fin 4) (bad : List (Fin 256)) (hold : Bool) (s : State) : Host.Outcome State Fault Refusal := .next (s.cryRun [0x10] q.val bad hold)

/-- WRAP_CB, R415, R326. -/
def execWrapCb (q : Fin 4) (bad : List (Fin 256)) (hold : Bool) (s : State) : Host.Outcome State Fault Refusal := .next (s.cryRun [0x11] q.val bad hold)

/-- WRAP_SLOT, R415, R414. -/
def execWrapSlot (q : Fin 4) (bad : List (Fin 256)) (hold : Bool) (s : State) : Host.Outcome State Fault Refusal := .next (s.cryRun [0x12] q.val bad hold)

/-- STORE_CODE, R415, R194. -/
def execStoreCode (q : Fin 4) (bad : List (Fin 256)) (hold : Bool) (s : State) : Host.Outcome State Fault Refusal := .next (s.cryRun [0x13] q.val bad hold)

/-! ## The TRNG and the DRBG -/

/-- R417: a health test fails: TRNG_OK clears and TRNG is raised; the count of its kind saturates. -/
def State.trngFail (s : State) (apt marked : Bool) : State :=
  let lo := if apt then 16 else 0
  let s1 := (s.wrB Reg.CRY_STATUS 4 false).wrB Reg.CRY_INT_STAT 4 true
  let s2 := (s1.wrF Reg.CRY_TRNG_STAT (lo + 15) lo (min 65535 (s.rdF Reg.CRY_TRNG_STAT (lo + 15) lo + 1))).bumpU32 0x2B00 2 5 1
  ({ s2 with cry := { s2.cry with trngFailed := true } }).raiseWith 25 true marked

/-- TRNG_HEALTH_FAIL, R417: the repetition count or the adaptive proportion test fails. -/
def execTrngHealthFail (apt : Bool) (s : State) : Host.Outcome State Fault Refusal := .next (s.trngFail apt false)

/-- R417: the DRBG reseeds from the TRNG. -/
def State.drbgReseed (s : State) : State :=
  ({ s with cry := { s.cry with requests := 0 } }.bump Reg.CRY_DRBG_STAT 1).wrB Reg.CRY_STATUS 5 true

/-- DRBG_RESEED, R417: after 65,536 requests or 60 s; not while the TRNG has failed. -/
def execDrbgReseed (s : State) : Host.Outcome State Fault Refusal := .next (if s.cry.trngFailed then s else s.drbgReseed)

/-- R417: 1,024 consecutive samples have passed and a reseed completes: TRNG_OK returns. -/
def State.drbgResume (s : State) : State :=
  if s.cry.trngFailed then (({ s with cry := { s.cry with trngFailed := false } }).drbgReseed.wrB Reg.CRY_STATUS 4 true).unhold 25 else s

/-- DRBG_RESUME, R417. -/
def execDrbgResume (s : State) : Host.Outcome State Fault Refusal := .next s.drbgResume

/-! ## Sharing with a standby partner -/

/-- R73 to R76: PAIR_STATE: 0 unpaired, 1 active, 2 standby, 3 while the partner too claims to be active. -/
def State.pairState (s : State) : Nat :=
  if s.objN 0x2020 1 = 0 then 0
  else if s.mode.mode = .standby then 2
  else
    match s.mode.partnerHeard with
    | some t => if s.eventTime < t + 1000000000 then 3 else 1
    | none => 1

/-- R414: the entries of KEY_IMPORT: every VALID slot from 16 to 24, wrapped under slot 5. -/
def State.shareEntries (s : State) : List (List Byte) :=
  ((upFrom 16 9).filter (fun i => decide ((s.slot i).state = 1))).map (fun i =>
    let t := s.slot i
    fit 32 (Config.keyWrap (s.slot 5).key (toLE 1 i ++ toLE 1 t.kind ++ toLE 2 t.gen ++ [0, 0, 0, 0] ++ fit 16 t.key)))

/-- KEY_SHARE, R414: the active module writes its partner's KEY_IMPORT with its cohort slots, over the ring session it has with its partner if
`linked`. Its TID is open. -/
def execKeyShare (linked : Bool) (s : State) : Host.Outcome State Fault Refusal :=
  .next (
    let es := s.shareEntries
    if linked ∧ s.pairState = 1 ∧ s.chainCheck 5 = .ok ∧ es ≠ [] then
      let (f, s1) := s.free
      let msg := writeRequest (f % 65536) 0x2B02 1 (s.eui ++ toLE 1 es.length ++ [0, 0, 0] ++ es.flatten)
      { s1 with key := { s1.key with shared := [msg], shareDue := false } }
    else s)

/-- R414: an entry of KEY_IMPORT unwrapped under slot 5. -/
def State.importPlain (s : State) (value : List Byte) (k : Nat) : List Byte :=
  fit 24 (Config.keyUnwrap (s.slot 5).key (slice value (12 + 32 * k) 32))

/-- R414: may an entry be taken? It names a slot from 16 to 24 and carries a GEN at least the slot's. -/
def State.importOk (s : State) (b : List Byte) : Bool :=
  let i := leAt b 0 1
  Nat.ble 16 i && Nat.ble i 24 && Nat.ble (s.slot i).gen (leAt b 2 2) && Nat.beq (leAt b 1 1) 1

/-- R414: may the value of KEY_IMPORT be accepted? -/
def State.importAccepts (s : State) (value : List Byte) : Bool :=
  let n := leAt value 8 1
  decide (s.mode.mode = .standby) && decide (slice value 0 8 = s.obj 0x2020 2) && Nat.ble 1 n && Nat.ble n 9 &&
    Nat.beq value.length (12 + 32 * n) && decide (s.chainCheck 5 = .ok) &&
    (upFrom 0 n).all (fun k => Config.unwrapOk (s.slot 5).key (slice value (12 + 32 * k) 32) && s.importOk (s.importPlain value k))

/-- R414: an entry taken: the slot is written with parent 8, ORIGIN imported and the GEN carried; one that equals what is held has
no effect. -/
def State.importSlot (s : State) (b : List Byte) : State :=
  let i := leAt b 0 1
  let t := s.slot i
  let p := s.slot 8
  if t.gen = leAt b 2 2 ∧ t.key = slice b 8 16 then s
  else
    (((s.putSlot i { key := slice b 8 16, state := 1, kind := 1, parent := 8, depth := p.depth + 1, gen := leAt b 2 2,
                     parentGen := p.gen, attr := t.attr, origin := 3 }).slotChanged i).tagHold).bumpU32 0x2B00 2 4 1

/-- R414: every entry of an accepted KEY_IMPORT taken. -/
def State.importAll (s : State) (value : List Byte) : State :=
  ((upFrom 0 (leAt value 8 1)).map (s.importPlain value)).foldl State.importSlot s

end Sys2Proof.Machine
end

