-- ==== Sys2Proof/Machine/Dma.lean ====
section
/-! DEFINITION. The DMA engine: descriptors, copies, frames and halts (R350 to R361, R365). -/

namespace Sys2Proof.Machine

/-! ## Channels -/

/-- A channel beyond its registers. -/
def State.dmaCh (s : State) (c : Nat) : DmaCh := s.dma.getD c {}

/-- A channel beyond its registers replaced. -/
def State.setDma (s : State) (c : Nat) (d : DmaCh) : State := { s with dma := setAt s.dma c d }

/-- R19, R20: is a channel granted to core 3? -/
def State.dmaGranted (s : State) (c : Nat) : Bool := s.rdB Reg.SYS_PERM_DMA c

/-- R350: may an initiator program a channel? -/
def State.dmaOwner (s : State) (ini : Initiator) (c : Nat) : Bool := ini.resident || (decide (ini = .app3) && s.dmaGranted c)

/-- A field of a channel's configuration: KIND. -/
def State.dmaKind (s : State) (c : Nat) : Nat := if s.rdF (Reg.DMA_CH_CFG c) 2 1 = 3 then 0 else s.rdF (Reg.DMA_CH_CFG c) 2 1

/-- R358: RX_BUF_SIZE in bytes. -/
def State.dmaBuf (s : State) (c : Nat) : Nat := 64 * s.rdF (Reg.DMA_CH_CFG c) 24 16

/-- Is a channel halted? -/
def State.dmaHalted (s : State) (c : Nat) : Bool := s.rdB (Reg.DMA_CH_STAT c) 1

/-- The RUNNING and HALTED bits of a channel and of DMA_STATUS follow each other (Table 11.10). -/
def State.dmaFlags (s : State) (c : Nat) (halted : Bool) : State :=
  let run := s.rdB (Reg.DMA_CH_CFG c) 0 && !halted
  (((s.wrB (Reg.DMA_CH_STAT c) 0 run).wrB (Reg.DMA_CH_STAT c) 1 halted).wrB Reg.DMA_STATUS c run).wrB Reg.DMA_STATUS (16 + c) halted

/-- R351: the address of the descriptor of an index. -/
def State.descAddr (s : State) (c ix : Nat) : Nat :=
  (s.rd (Reg.DMA_CH_RING_BASE_LO c)).toNat + s.rdF (Reg.DMA_CH_RING_BASE_HI c) 7 0 * 2 ^ 32 + 32 * (ix % max 1 (s.rdF (Reg.DMA_CH_RING_SIZE c) 12 0))

/-- R351: the next descriptor to return. -/
def State.dmaTail (s : State) (c : Nat) : Nat := (s.rd (Reg.DMA_CH_TAIL c)).toNat

/-- R351: descriptors given and not returned, modulo 2^32. -/
def State.dmaGiven (s : State) (c : Nat) : Nat := ((s.rd (Reg.DMA_CH_HEAD c)).toNat + 2 ^ 32 - s.dmaTail c) % 2 ^ 32

/-- A byte of a descriptor's FLAGS. -/
def descFlag (d : List Byte) (i : Nat) : Bool := Nat.testBit (leAt d 6 1) i

/-- R351: descriptor k places after TAIL, where software has given it and set OWN. -/
def State.descOwned (s : State) (c k : Nat) : Option (List Byte) :=
  if Nat.blt k (s.dmaGiven c) then
    let d := s.memBytes (s.descAddr c (s.dmaTail c + k)) 32
    if descFlag d 0 then some d else none
  else none

/-- Table 11.3: a pair's address, length and destination. -/
def pairOf (b : List Byte) : Nat × Nat × Nat := (leAt b 0 5, leAt b 5 3, leAt b 8 5)

/-- Table 11.2: N_PAIRS. -/
def descPairs (d : List Byte) : Nat := leAt d 5 1

/-- The pairs of a descriptor's list. -/
def State.descList (s : State) (d : List Byte) : List (Nat × Nat × Nat) :=
  (upFrom 0 (descPairs d)).map (fun k => pairOf (s.memBytes (leAt d 0 5 + 16 * k) 16))

/-- The bytes of every pair together. -/
def pairTotal (l : List (Nat × Nat × Nat)) : Nat := l.foldl (fun a p => a + p.2.1) 0

/-- The place of the first entry that passes a test. -/
def firstAt {α : Type} (p : α → Bool) : Nat → List α → Option Nat
  | _, [] => none
  | k, a :: t => if p a then some k else firstAt p (k + 1) t

/-! ## Returning a descriptor -/

/-- R351, Table 11.2: what a return writes back. -/
structure WriteBack where
  status : Nat
  count : Nat
  pair : Nat
  aux : Nat
  stamp : Option (Nat × Nat × Nat) := none
  first : Bool := false
  last : Bool := false
  frameId : Option Nat := none
  port : Option Nat := none
  deriving DecidableEq, Repr

/-- Table 11.2: a descriptor as it is returned: OWN 0, everything else software wrote kept. The stamp is (0.25 ns, EPOCH, port). -/
def descBack (d : List Byte) (w : WriteBack) : List Byte :=
  let fl := leAt d 6 1
  let flags := (fl - fl % 2) % 8 + 8 * b2n w.first + 16 * b2n w.last
  let stamp := match w.stamp with
    | some (q, ep, port) =>
      let ns := q / 4
      toLE 4 (ns % 1000000000 + 2 ^ 30 * (q % 4)) ++ toLE 6 (ns / 1000000000) ++ toLE 1 (ep % 16 + 16 * (port % 4) + 64) ++ [0]
    | none => List.replicate 12 0
  d.take 6 ++ toLE 1 flags ++ toLE 1 w.status ++ toLE 4 w.count ++ (match w.frameId with
    | some f => toLE 2 f
    | none => slice d 12 2) ++ (match w.port with
    | some p => toLE 1 p
    | none => slice d 14 1) ++ toLE 1 w.pair ++ stamp ++ toLE 4 w.aux

/-- R351, R355: the descriptor at TAIL returned by one write; a failure halts the channel. -/
def State.dmaReturn (s : State) (c : Nat) (d : List Byte) (w : WriteBack) : State :=
  let s1 := s.busWrite .dma (s.dmaGranted c) (s.descAddr c (s.dmaTail c)) (descBack d w)
  let s2 := ((s1.bump (Reg.DMA_CH_TAIL c) 1).bump (Reg.DMA_CH_DESCS c) 1).bump (Reg.DMA_CH_BYTES c) w.count
  let s3 := (s2.setDma c { s2.dmaCh c with desc := none }).wrF (Reg.DMA_CH_STAT c) 15 8 w.status
  let s4 := if descFlag d 1 then s3.wrB Reg.DMA_INT_STAT c true else s3
  if w.status = 0 ∨ w.status = 5 ∨ w.status = 6 then s4 else (s4.dmaFlags c true).wrB Reg.DMA_INT_STAT (16 + c) true

/-- R352: do two ranges of n bytes meet? -/
def rangesMeet (a b n : Nat) : Bool := Nat.blt a (b + n) && Nat.blt b (a + n)

/-- R352: the checks of a descriptor, in order: a status and the pair that fails first; status 0 where all pass. -/
def State.descCheck (s : State) (c : Nat) (d : List Byte) : Nat × Nat :=
  let g := s.dmaGranted c
  let n := descPairs d
  let la := leAt d 0 5
  let kind := s.dmaKind c
  if n = 0 ∨ 64 < n ∨ la % 16 ≠ 0 then (4, n)
  else
    let l := s.descList d
    let tot := pairTotal l
    match firstAt (fun (p : Nat × Nat × Nat) => Nat.beq p.2.1 0) 0 l with
    | some k => (4, k)
    | none =>
      if kind = 1 ∧ (tot < 60 ∨ (if s.rdB (Reg.DMA_CH_CFG c) 3 || Nat.beq (leAt d 14 1 % 4) 3 then 1518 else 9212) < tot) then (4, n)
      else if kind = 2 ∧ tot ≠ s.dmaBuf c then (4, n)
      else if !admits false .dma g (s.descAddr c (s.dmaTail c)) 32 || !admits false .dma g la (16 * n) then (3, n)
      else
        match firstAt (fun (p : Nat × Nat × Nat) => !admits (Nat.beq kind 2) .dma g p.1 p.2.1 || (Nat.beq kind 0 && !admits true .dma g p.2.2 p.2.1)) 0 l with
        | some k => (3, k)
        | none =>
          match (if kind = 0 then firstAt (fun (p : Nat × Nat × Nat) => rangesMeet p.1 p.2.2 p.2.1) 0 l else none) with
          | some k => (2, k)
          | none => (0, n)

/-- DESCRIPTOR_FETCH, R352, R355, R361: the channel's next descriptor is fetched and checked; a failing one is returned with COUNT 0
and the channel halts. -/
def execDescriptorFetch (c : Fin 16) (s : State) : Host.Outcome State Fault Refusal :=
  .next (
    let n := c.val
    if !s.rdB (Reg.DMA_CH_CFG n) 0 || s.dmaHalted n || s.aon.flushing || Nat.beq (s.dmaKind n) 2 || (s.dmaCh n).desc.isSome then s
    else
      match s.descOwned n 0 with
      | none => s
      | some d =>
        let r := s.descCheck n d
        if r.1 = 0 then s.setDma n { s.dmaCh n with desc := some { bytes := d, pairs := s.descList d } }
        else s.dmaReturn n d { status := r.1, count := 0, pair := r.2, aux := 0xFFFFFFFF })

/-! ## Moving data -/

/-- R353: pairs in order, each read after the earlier pairs' writes. -/
def State.copyPairs (s : State) (g : Bool) (l : List (Nat × Nat × Nat)) : State :=
  l.foldl (fun t p => t.busWrite .dma g p.2.2 (t.busRead .dma g p.1 p.2.1).1) s

/-- R354: the first `count` bytes of the pairs moved, but for the beat at `bad`, whose destination bytes are left open. -/
def State.copyUpTo (s : State) (g : Bool) (bad : Nat) : List (Nat × Nat × Nat) → Nat → Nat → State
  | [], _, _ => s
  | p :: t, off, count =>
    let n := min p.2.1 (count - off)
    let src := (s.busRead .dma g p.1 n).1
    let open_ (k : Nat) : Bool := Nat.ble bad (off + k) && Nat.blt (off + k) (bad + 16)
    let bytes := mapFrom (fun k b => if open_ k then BitVec.ofNat 8 (Config.freeNat (s.freeIx + k)) else b) 0 src
    let s1 := if n = 0 then s else { s.busWrite .dma g p.2.2 bytes with freeIx := s.freeIx + n }
    s1.copyUpTo g bad t (off + p.2.1) count

/-- The pair that holds an offset of a descriptor's data. -/
def pairAt : List (Nat × Nat × Nat) → Nat → Nat → Nat
  | [], _, k => k
  | p :: t, off, k => if off < p.2.1 then k else pairAt t (off - p.2.1) (k + 1)

/-- R344, R357: a host frame put at an egress port, or dropped at its limit. -/
def State.egressPut (s : State) (e : TxEntry) : Bool × State :=
  if 262144 < s.egressBytes e.port + e.bytes.length ∨ s.linked e.port = false then (false, s.netCount e.port 8)
  else (true, { s with net := { s.net with egress := s.net.egress ++ [e] } })

/-- R351, R342: the ports a transmit descriptor's EGRESS names. -/
def State.egressPorts (s : State) (eg : Nat) (f : List Byte) : List Nat :=
  match eg with
  | 0 => if s.rdB Reg.NET_STATUS 4 then [0, 1] else match (if groupAddr f then none else s.addrPort (beAt f 0 6)) with
    | some p => [p]
    | none => [0, 1]
  | 1 => [0]
  | 2 => [1]
  | _ => [2]

/-- R128, R357: a gathered frame goes to its ports' egress queues; the descriptor returns now, or waits for its stamp. -/
def State.dmaTransmit (s : State) (c : Nat) (d : DmaDesc) : State :=
  let g := s.dmaGranted c
  let f := d.pairs.flatMap (fun p => (s.busRead .dma g p.1 p.2.1).1)
  let port := leAt d.bytes 14 1
  let ports := if s.rdB (Reg.DMA_CH_CFG c) 3 then [2] else s.egressPorts (port % 4) f
  let ts := descFlag d.bytes 2
  let wb := s.rdB (Reg.DMA_CH_CFG c) 4
  let stampPort := if ports.contains 0 && s.linked 0 then 0 else ports.getLast?.getD 0
  let seq := s.net.hsrSeq
  let hsr := s.rdB Reg.NET_STATUS 4
  let r := ports.foldl (fun (a : Bool × State) p =>
    let (ok, t) := a.2.egressPut { port := p, cls := port / 4 % 4, chan := c, frameId := leAt d.bytes 12 2, stamp := ts && Nat.beq p stampPort,
                                   wb := wb, bytes := if hsr && Nat.blt p 2 then hsrTag f p seq else f }
    (a.1 || (ok && Nat.beq p stampPort), t)) (false, s)
  let s1 := { r.2 with net := { r.2.net with hsrSeq := if hsr then (seq + 1) % 2 ^ 16 else seq } }
  let total := pairTotal d.pairs
  if ts && wb then
    if r.1 then s1.setDma c { s1.dmaCh c with desc := some { d with waits := true } }
    else s1.dmaReturn c d.bytes { status := 5, count := total, pair := descPairs d.bytes, aux := 0xFFFFFFFF }
  else s1.dmaReturn c d.bytes { status := 0, count := total, pair := descPairs d.bytes, aux := 0xFFFFFFFF }

/-- R504: does the beat at an offset of a pair list read or write the word whose access the drill unit makes fail? -/
def State.beatAt (s : State) : List (Nat × Nat × Nat) → Nat → Bool
  | [], _ => false
  | p :: t, off => if off < p.2.1 then s.errorAt (p.1 + off) 16 || s.errorAt (p.2.2 + off) 16 else s.beatAt t (off - p.2.1)

/-- R354, Table 17.1: the beat at an offset of a channel's descriptor meets an error response when `count` bytes' beats have been issued. -/
def State.beatFail (s : State) (c offset count : Nat) : State :=
  match (s.dmaCh c).desc with
  | none => s
  | some d =>
    let tot := pairTotal d.pairs
    let off := min offset (tot - 1)
    let n := min tot count
    let s1 := if s.dmaKind c = 0 then s.copyUpTo (s.dmaGranted c) off d.pairs 0 n else s
    let s2 := if s.beatAt d.pairs off then s1.errorTaken else s1.raise 30
    s2.dmaReturn c d.bytes { status := 1, count := n, pair := pairAt d.pairs off 0, aux := off }

/-- R354, R504: the first beat of a pair list that meets the access which the drill unit makes fail, by its offset in the data. -/
def State.badBeat (s : State) : List (Nat × Nat × Nat) → Nat → Option Nat
  | [], _ => none
  | p :: t, off =>
    let hits (a : Nat) : Bool := s.errorAt a p.2.1
    let place (a : Nat) : Nat := off + ((s.fault.errorAddr.getD 0 - a) / 16) * 16
    if hits p.1 then some (place p.1) else if hits p.2.2 then some (place p.2.2) else s.badBeat t (off + p.2.1)

/-- DESCRIPTOR_RETURN, R351, R353: the descriptor in progress completes: a copy's bytes have moved, a frame goes to its port. Where one of its beats
meets the access that the drill unit makes fail, it ends as R354 gives, with the COUNT of that moment. -/
def execDescriptorReturn (c : Fin 16) (s : State) : Host.Outcome State Fault Refusal :=
  .next (match (s.dmaCh c.val).desc with
    | none => s
    | some d =>
      if d.waits then s
      else if (s.badBeat d.pairs 0).isSome then
        let off := (s.badBeat d.pairs 0).getD 0
        let (x, s1) := s.free
        s1.beatFail c.val off (off + x % (pairTotal d.pairs - off + 1))
      else if s.dmaKind c.val = 1 then s.dmaTransmit c.val d
      else (s.copyPairs (s.dmaGranted c.val) d.pairs).dmaReturn c.val d.bytes
        { status := 0, count := pairTotal d.pairs, pair := descPairs d.bytes, aux := 0xFFFFFFFF })

/-- BEAT_ERROR, R354. -/
def execBeatError (c : Fin 16) (offset count : Nat) (s : State) : Host.Outcome State Fault Refusal := .next (s.beatFail c.val offset count)

/-! ## Control -/

/-- RESUME, R355, R350. -/
def execDmaResume (ini : Initiator) (c : Fin 16) (s : State) : Host.Outcome State Fault Refusal :=
  .next (s.regWrite ini (s.dmaOwner ini c.val) (Reg.DMA_CH_CTRL c.val) (fun t =>
    if t.dmaHalted c.val then t.dmaFlags c.val false else t))

/-- R359: CONFIG_WARN at an enable. -/
def State.dmaWarn (s : State) (c : Nat) : State :=
  let big := if s.rdB (Reg.DMA_CH_CFG c) 3 then 1522 else 9216
  let warn := Nat.beq (s.dmaKind c) 2 && Nat.blt (s.rdF (Reg.DMA_CH_RING_SIZE c) 12 0 * s.dmaBuf c) big
  let s1 := s.wrB (Reg.DMA_CH_STAT c) 3 warn
  if warn then s1.wrB Reg.DMA_WARN c true else s1

/-- R359: EN set. -/
def State.dmaEnable (s : State) (c : Nat) : State :=
  if s.rdB (Reg.DMA_CH_CFG c) 0 then s else ((s.wrB (Reg.DMA_CH_CFG c) 0 true).dmaFlags c false).dmaWarn c

/-- R356: the destination bytes of a pair left open. -/
def State.pairOpen (c : Nat) (s : State) (p : Nat × Nat × Nat) : State :=
  let bytes := (upFrom s.freeIx p.2.1).map (fun k => BitVec.ofNat 8 (Config.freeNat k))
  { s.busWrite .dma (s.dmaGranted c) p.2.2 bytes with freeIx := s.freeIx + p.2.1 }

/-- R356: a channel that is disabled: the destination bytes of its descriptor in progress and BYTES are left open. -/
def State.dmaDropped (s : State) (c : Nat) : State :=
  let s2 := match (s.dmaCh c).desc with
    | some d => if s.dmaKind c = 0 then d.pairs.foldl (State.pairOpen c) s else s
    | none => s
  let (x, s3) := s2.free
  s3.wrN (Reg.DMA_CH_BYTES c) x

/-- R356: EN cleared: what the channel had in flight is dropped; the destination bytes of the descriptor in progress and BYTES are
left open, frames that waited are lost, and a frame whose stamp a descriptor waited for is not sent. -/
def State.dmaDisable (s : State) (c : Nat) : State :=
  if !s.rdB (Reg.DMA_CH_CFG c) 0 then s
  else
    let s1 := s.dmaDropped c
    let lost := s1.net.hostq.filter (fun e => Nat.beq e.chan c)
    let s4 := lost.foldl (fun t e => (t.netCount e.port 13).netInt 4) s1
    let s5 := { s4 with net := { s4.net with hostq := s4.net.hostq.filter (fun (e : HostFrame) => !(Nat.beq e.chan c)),
                                                        egress := s4.net.egress.filter (fun (e : TxEntry) => !(Nat.beq e.chan c && e.stamp && e.wb)) } }
    ((s5.setDma c { s5.dmaCh c with desc := none }).wrB (Reg.DMA_CH_CFG c) 0 false).wrB (Reg.DMA_CH_STAT c) 4 false |>.dmaFlags c false

/-- CHANNEL_ENABLE, R359, R350. -/
def execChannelEnable (ini : Initiator) (c : Fin 16) (s : State) : Host.Outcome State Fault Refusal :=
  .next (s.regWrite ini (s.dmaOwner ini c.val) (Reg.DMA_CH_CFG c.val) (fun t => t.dmaEnable c.val))

/-- CHANNEL_DISABLE, R356, R350. -/
def execChannelDisable (ini : Initiator) (c : Fin 16) (s : State) : Host.Outcome State Fault Refusal :=
  .next (s.regWrite ini (s.dmaOwner ini c.val) (Reg.DMA_CH_CFG c.val) (fun t => t.dmaDisable c.val))

/-- R350: a write of a channel's configuration: other fields are ignored while EN is 1 (R365); core 3 stores KIND copy. -/
def State.dmaConfig (s : State) (ini : Initiator) (c : Nat) (v : Word) : State :=
  let a := Reg.DMA_CH_CFG c
  let v1 := setFld v 24 16 (clampN 4 256 (fld v 24 16))
  let v2 := if ini = .app3 then setFld v1 2 1 0 else v1
  let s1 := if s.rdB a 0 then s else s.wr a (putBit (v2 &&& 0x01FF003F) 0 false)
  if bit v 0 then s1.dmaEnable c else s1.dmaDisable c

/-! ## Frames to memory -/

/-- The oldest host frame of a channel. -/
def State.hostHead (s : State) (c : Nat) : Option HostFrame := s.net.hostq.find? (fun e => Nat.beq e.chan c)

/-- The oldest entry of a channel dropped from a queue; the next one reached the head at `now`. -/
def popChan (c : Nat) (now : Ns) (done : Bool) : List HostFrame → List HostFrame
  | [] => []
  | e :: t =>
    if e.chan = c then (if done then { e with headAt := some (e.headAt.getD now) } :: t else popChan c now true t)
    else e :: popChan c now done t

/-- The oldest host frame of a channel removed; the next reaches the head now. -/
def State.hostPop (s : State) (c : Nat) : State := { s with net := { s.net with hostq := popChan c s.time.now false s.net.hostq } }

/-- R358: bytes spread over the pairs of a receive descriptor. -/
def State.rxWrite (s : State) (g : Bool) (l : List (Nat × Nat × Nat)) (bytes : List Byte) : State :=
  (l.foldl (fun (a : State × List Byte) p =>
    let part := a.2.take p.2.1
    (if part.isEmpty then a.1 else a.1.busWrite .dma g p.1 part, a.2.drop p.2.1)) (s, bytes)).1

/-- R354, R504: the first byte of a received frame's share, of n bytes, that meets the access which the drill unit makes fail. -/
def State.rxBad (s : State) : List (Nat × Nat × Nat) → Nat → Nat → Option Nat
  | [], _, _ => none
  | p :: t, n, off =>
    let m := min p.2.1 (n - off)
    if s.errorAt p.1 m && Nat.blt 0 m then some (off + (s.fault.errorAddr.getD 0 - p.1)) else s.rxBad t n (off + p.2.1)

/-! ## The host's own answers -/

/-- R346: the entry of the module's addresses on a port: its IPv4 address and VLAN identifier, 0 for untagged. -/
def State.hostEntry (s : State) (p : Nat) : List Byte × Nat :=
  let l := s.obj 0x2800 (if p = 2 then 5 else 3)
  let at_ := if p = 2 ∨ slice l 0 8 ≠ s.eui then 16 else 0
  (s.ipv4 p, leAt l (at_ + 14) 2)

/-- R346: the VLAN identifier of a frame, 0 for untagged. -/
def vlanOf (f : List Byte) : Nat := if beAt f 12 2 = 0x8100 then beAt f 14 2 % 4096 else 0

/-- R346, R362: a frame of the host's: its addresses, the VLAN tag with HOST_PCP, its EtherType and its payload, at least 60 bytes. -/
def State.hostFrame (s : State) (dst : List Byte) (vid etype : Nat) (payload : List Byte) : List Byte :=
  let f := dst ++ s.hostMac ++ (if vid = 0 then [] else [0x81, 0x00] ++ toBE 2 (s.objN 0x2800 6 * 2 ^ 13 + vid)) ++ toBE 2 etype ++ payload
  f ++ List.replicate (60 - f.length) 0

/-- The ones' complement sum of the 16-bit words of a string, n of them. -/
def onesSum (l : List Byte) : Nat → Nat → Nat
  | 0, _ => 0
  | n + 1, o => onesAdd (if o + 1 < l.length then beAt l o 2 else leAt l o 1 * 256) (onesSum l n (o + 2))

/-- R346: the answer to an ARP request for the module's address (RFC 826), or to an ICMP echo request to it (RFC 792): to the address it came from, its
IP header kept with the addresses exchanged (log entry 62). -/
def State.hostAnswer (s : State) (p : Nat) (f : List Byte) : Option (List Byte) :=
  let e := s.hostEntry p
  let o := (ethHead f).at_ + 2
  let ihl := 4 * (beAt f o 1 % 16)
  if e.1.isEmpty || !(Nat.beq (vlanOf f) e.2) then none
  else if (ethHead f).etype = 0x0806 ∧ beAt f (o + 6) 2 = 1 ∧ slice f (o + 24) 4 = e.1 then
    some (s.hostFrame (slice f 6 6) e.2 0x0806 (slice f o 6 ++ [0, 2] ++ s.hostMac ++ e.1 ++ slice f (o + 8) 10))
  else if (ethHead f).etype = 0x0800 ∧ beAt f (o + 9) 1 = 1 ∧ slice f (o + 16) 4 = e.1 ∧ beAt f (o + ihl) 1 = 8 then
    let icmp := slice f (o + ihl + 4) (beAt f (o + 2) 2 - ihl - 4)
    let sum := onesSum ([0, 0, 0, 0] ++ icmp) ((icmp.length + 5) / 2) 0
    some (s.hostFrame (slice f 6 6) e.2 0x0800 (slice f o 12 ++ e.1 ++ slice f (o + 12) 4 ++ slice f (o + 20) (ihl - 20) ++ [0, 0] ++
      toBE 2 (65535 - sum) ++ icmp))
  else none

/-- R338, R342: a frame of the host's sent: on the maintenance port, on both ring ports in HSR mode, or where the address table has it. -/
def State.hostSend (s : State) (p : Nat) (f : List Byte) : State :=
  if p = 2 then (s.netCount 2 4).putLine 2 f
  else if s.rdB Reg.NET_STATUS 4 then s.ringSend f
  else (s.egressPorts 0 f).foldl (fun (t : State) o => if t.linked o then (t.netCount o 4).putLine o f else t) s

/-- R346: resident firmware answers a frame that one of its own channels has received. -/
def State.hostServe (s : State) (c : Nat) (h : HostFrame) : State :=
  if s.dmaGranted c || !s.coresRun then s
  else match s.hostAnswer h.port (h.bytes.take (h.bytes.length - 4)) with
    | some g => s.hostSend h.port g
    | none => s

/-- R358: a frame's share of the descriptor at TAIL, k of n. -/
def State.rxDescriptor (s : State) (c : Nat) (f : HostFrame) (k n : Nat) : State :=
  match (if s.dmaHalted c then none else s.descOwned c 0) with
  | none => s
  | some d =>
    let r := s.descCheck c d
    let part := slice f.bytes (k * s.dmaBuf c) (s.dmaBuf c)
    let bad := s.rxBad (s.descList d) part.length 0
    if r.1 ≠ 0 then s.dmaReturn c d { status := r.1, count := 0, pair := r.2, aux := 0xFFFFFFFF }
    else if bad.isSome then
      let off := bad.getD 0
      ((s.errorTaken).rxWrite (s.dmaGranted c) (s.descList d) (part.take off)).dmaReturn c d
        { status := 1, count := off, pair := pairAt (s.descList d) off 0, aux := 0, frameId := some (s.dmaCh c).frames, port := some f.port }
    else
      (s.rxWrite (s.dmaGranted c) (s.descList d) part).dmaReturn c d
        { status := 0, count := part.length, pair := descPairs d, aux := if k + 1 = n then f.bytes.length else 0,
          stamp := if k = 0 then some (f.q, f.epoch, f.port) else none, first := Nat.beq k 0, last := Nat.beq (k + 1) n,
          frameId := some (s.dmaCh c).frames, port := some f.port }

/-- R352, R358: does the descriptor at TAIL fail its checks? -/
def State.rxFails (s : State) (c : Nat) : Bool :=
  match s.descOwned c 0 with
  | some d => !(Nat.beq (s.descCheck c d).1 0)
  | none => false

/-- DMA_RX_FRAME, R358, R359: the channel's oldest host frame fills the descriptors it needs once so many are owned; one longer than
the ring is dropped; otherwise it waits. It waits too while the first of them fails its checks, which halts the channel. -/
def execDmaRxFrame (c : Fin 16) (s : State) : Host.Outcome State Fault Refusal :=
  .next (
    let n := c.val
    if !s.rdB (Reg.DMA_CH_CFG n) 0 || !(Nat.beq (s.dmaKind n) 2) || s.dmaHalted n || s.aon.flushing then s
    else
      match s.hostHead n with
      | none => s
      | some f =>
        let size := s.dmaBuf n
        let k := (f.bytes.length + size - 1) / size
        let a := Reg.DMA_CH_RX_DROPS n
        if s.rdF (Reg.DMA_CH_RING_SIZE n) 12 0 < k then
          (((s.hostPop n).wrF a 15 0 (min 0xFFFF (s.rdF a 15 0 + 1))).netInt 4).wrB (Reg.DMA_CH_STAT n) 4 false
        else if !(upFrom 0 k).all (fun i => (s.descOwned n i).isSome) then s.wrB (Reg.DMA_CH_STAT n) 4 true
        else if s.rxFails n then s.rxDescriptor n f 0 k
        else
          let s1 := (s.hostPop n).wrB (Reg.DMA_CH_STAT n) 4 false
          let s2 := (upFrom 0 k).foldl (fun t i => t.rxDescriptor n f i k) s1
          let s3 := s2.setDma n { s2.dmaCh n with frames := (s2.dmaCh n).frames + 1 }
          if s3.dmaHalted n then s3 else s3.hostServe n f)

/-- RX_WAIT_TIMEOUT, R359: the frame at the head has waited 1 ms for descriptors. -/
def execRxWaitTimeout (c : Fin 16) (t : Nat) (s : State) : Host.Outcome State Fault Refusal :=
  .next (
    let s0 := s.upTo t
    let n := c.val
    match s0.hostHead n with
    | none => s0
    | some f =>
      if s0.rdB (Reg.DMA_CH_STAT n) 4 && Nat.ble (f.headAt.getD s0.time.now + 1000000) s0.time.now then
        let a := Reg.DMA_CH_RX_DROPS n
        ((((s0.hostPop n).wrF a 31 16 (min 0xFFFF (s0.rdF a 31 16 + 1))).netCount f.port 13).netInt 4).wrB (Reg.DMA_CH_STAT n) 4 false
      else s0)

/-! ## Frames to the line -/

/-- R344: the entry a port sends next, the host's or one forwarded: the highest class, the oldest of it. -/
def State.egressNext (s : State) (p : Nat) : Option TxEntry :=
  s.net.egress.foldl (fun (b : Option TxEntry) e =>
    if e.port = p then (match b with
      | none => some e
      | some x => if x.cls < e.cls then some e else some x) else b) none

/-- R128: the descriptor that waited for a frame's stamp returns. -/
def State.txSettle (s : State) (e : TxEntry) (status : Nat) (stamp : Option (Nat × Nat × Nat)) : State :=
  match (s.dmaCh e.chan).desc with
  | some d => if d.waits then s.dmaReturn e.chan d.bytes { status := status, count := pairTotal d.pairs, pair := descPairs d.bytes, aux := 0xFFFFFFFF, stamp := stamp } else s
  | none => s

/-- DMA_TX_FRAME, R128, R129, R344, R357: a port's next frame leaves, its stamp in 0.25 ns of local time, or is lost with its link and
its descriptor returned NOT_SENT. -/
def execDmaTxFrame (p : Fin 3) (q : Nat) (s : State) : Host.Outcome State Fault Refusal :=
  .next (
    let s0 := s.upTo (q / 4)
    match s0.egressNext p.val with
    | none => s0
    | some e =>
      let s1 := { s0 with net := { s0.net with egress := s0.net.egress.erase e } }
      if s1.linked p.val then
        let s2 := (s1.netCount p.val 4).putLine p.val e.bytes
        if !e.stamp then s2
        else
          let stamp := s2.adjusted p.val true q
          if e.wb then s2.txSettle e 0 (some (stamp, s2.time.epoch, p.val))
          else s2.tsqPush { frameId := e.frameId, port := p.val, epoch := s2.time.epoch, time := stamp / 4, quarter := stamp % 4 }
      else
        let s2 := s1.netCount p.val 8
        if e.stamp && e.wb then s2.txSettle e 5 none else s2)

/-! ## Power loss -/

/-- R361: from the power-fail interrupt a descriptor in progress runs to the end of its current pair, which the state does not
show, and is returned STOPPED; a transmit descriptor's frame is not sent. -/
def State.dmaStop (s : State) (c : Nat) : State :=
  match (s.dmaCh c).desc with
  | none => s
  | some d =>
    let (x, s1) := s.free
    let k := if d.waits then d.pairs.length else 1 + x % max 1 d.pairs.length
    let done := d.pairs.take k
    let s0 := { s1 with net := { s1.net with egress := s1.net.egress.filter (fun (e : TxEntry) => !(Nat.beq e.chan c && e.stamp && e.wb)) } }
    let s2 := if s1.dmaKind c = 0 then s1.copyPairs (s1.dmaGranted c) done else s0
    s2.dmaReturn c d.bytes { status := 6, count := pairTotal done, pair := descPairs d.bytes, aux := 0xFFFFFFFF }

end Sys2Proof.Machine
end

