-- ==== Sys2Proof/Machine/Sink.lean ====
section
/-! DEFINITION. Sink channels and halyards (R366 to R376, R380, R382), and CAL's calibration of the sinks (R398). -/

namespace Sys2Proof.Machine

/-! ## Sink channels -/

/-- A sink channel's own state. -/
def State.snkCh (s : State) (c : Nat) : SnkCh := s.snk.chans.getD c {}

/-- A sink channel's own state replaced. -/
def State.setSnkCh (s : State) (c : Nat) (k : SnkCh) : State := { s with snk := { s.snk with chans := setAt s.snk.chans c k } }

/-- R369: is a channel's disconnect switch open? -/
def State.snkCut (s : State) (c : Nat) : Bool := s.rdB (Reg.SNK_CH_STAT c) 0 && !(s.snkCh c).injected

/-- R376, R380: may channels draw current at all? -/
def State.snkOn (s : State) : Bool := s.rdB Reg.SNK_CTRL 0 && !s.rdB Reg.SNK_CTRL 2 && !s.aon.appOff

/-- R370: a bank's derating factor. -/
def State.snkFactor (s : State) (b : Nat) : Nat × Nat := s.snk.factors.getD b (1, 1)

/-- R366: a channel's target current in µA, as a quotient, by the settings in force: 0 with EN = 0 or CUT = 1. -/
def State.snkTarget (s : State) (c : Nat) : Int × Nat :=
  let k := s.snkCh c
  let f := s.snkFactor (c / 8)
  let den := 255 * 4095 * 32768 * f.2
  if s.snkOn && bit k.cfg 16 && !s.snkCut c then
    ((500000 * s.snk.scale * fld k.cfg 11 0 * fld k.trim 15 0 * f.1 : Nat) + sx 16 (fld k.trim 31 16) * (den : Int), den)
  else (0, den)

/-- R367: the tick applies the registers of every channel and the scale, unless HOLD is 1. -/
def State.snkApply (s : State) : State :=
  if s.rdB Reg.SNK_CTRL 1 then s
  else
    let chans := mapFrom (fun c (k : SnkCh) => { k with cfg := s.rd (Reg.SNK_CH_CFG c), trim := s.rd (Reg.SNK_CH_TRIM c) }) 0 s.snk.chans
    { s with snk := { s.snk with scale := s.rdF Reg.SNK_SCALE 7 0, chans := chans } }

/-- R369: STATUS.OC shows whether some channel is cut. -/
def State.snkShowCut (s : State) : State := s.wrB Reg.SNK_STATUS 2 ((upFrom 0 24).any (fun c => s.rdB (Reg.SNK_CH_STAT c) 0))

/-- R369: at a tick a cut channel whose OC software has cleared reconnects, if EN is still 1. -/
def State.snkReconnect (s : State) : State :=
  ((upFrom 0 24).foldl (fun (t : State) c =>
    if t.rdB (Reg.SNK_CH_STAT c) 0 && !t.rdB (Reg.SNK_CH_STAT c) 1 && bit (t.snkCh c).cfg 16 then
      (t.setSnkCh c { t.snkCh c with injected := false }).wrB (Reg.SNK_CH_STAT c) 0 false else t) s).snkShowCut

/-- R372: does a channel take part in the headroom loop? -/
def State.snkLoops (s : State) (c : Nat) : Bool :=
  s.rdB Reg.SNK_HDRM_MASK c && bit (s.snkCh c).cfg 16 && !s.snkCut c && decide (0 < (s.snkTarget c).1)

/-- R372: the lowest headroom of the loop, in 10 mV. -/
def State.snkLowest (s : State) : Option Nat :=
  ((upFrom 0 24).filter s.snkLoops).foldl (fun (a : Option Nat) c =>
    let h := s.rdF (Reg.SNK_CH_MEAS c) 31 16
    some (min h (a.getD h))) none

/-- R372: FB with its fraction, clamped, after an error of e mV. -/
def State.snkStep (s : State) (e : Int) : State :=
  let ki : Int := s.rdF Reg.SNK_HDRM_CFG 19 12
  let fb : Int := s.rdF Reg.SNK_HDRM_STAT 11 0 * 4096 + s.snk.frac
  let want := if s.rdB Reg.SNK_HDRM_CFG 20 then fb - e * ki else fb + e * ki
  let lo : Int := s.rdF Reg.SNK_HDRM_FB_LIM 11 0 * 4096
  let hi : Int := s.rdF Reg.SNK_HDRM_FB_LIM 27 16 * 4096
  let v := clampI lo hi want
  let pushed := decide (want < lo ∨ hi < want)
  let s1 := s.wrF Reg.SNK_HDRM_STAT 11 0 (v / 4096).toNat
  let since := if pushed then some (s.snk.clampSince.getD s.time.now) else none
  { s1 with snk := { s1.snk with frac := (v % 4096).toNat, clampSince := since } }

/-- R372: the loop at a tick. -/
def State.snkLoop (s : State) : State :=
  match s.snkLowest with
  | none => { s with snk := { s.snk with clampSince := none } }
  | some h =>
    let s1 := s.wrF Reg.SNK_HDRM_STAT 31 16 h
    if s.rdB Reg.SNK_HDRM_CFG 21 then s1.snkStep ((10 * h : Nat) - (s.rdF Reg.SNK_HDRM_CFG 11 0 : Int))
    else { s1 with snk := { s1.snk with clampSince := none } }

/-- R371: the OPEN condition of a channel. -/
def State.snkOpen (s : State) (c : Nat) : Bool :=
  let t := s.snkTarget c
  let m := s.rd (Reg.SNK_CH_MEAS c)
  decide (5000 * (t.2 : Int) < t.1 ∧ 20 * (fld m 15 0 : Int) * t.2 < t.1) && Nat.blt (fld m 31 16) (s.rdF Reg.SNK_DETECT 7 0)

/-- R371: the SHORT condition of a channel. -/
def State.snkShort (s : State) (c : Nat) : Bool :=
  let fb := s.rdF Reg.SNK_HDRM_STAT 11 0
  Nat.blt (10 * s.rdF Reg.SNK_DETECT 15 8) (s.rdF (Reg.SNK_CH_MEAS c) 31 16) && s.snkLoops c &&
    (match s.snkLowest with
     | some h => decide (((10 * h : Nat) - (s.rdF Reg.SNK_HDRM_CFG 11 0 : Int)).natAbs ≤ 100)
     | none => false) &&
    Nat.blt (s.rdF Reg.SNK_HDRM_FB_LIM 11 0) fb && Nat.blt fb (s.rdF Reg.SNK_HDRM_FB_LIM 27 16)

/-- R371: since when a condition has held, and since when it has been absent. -/
def holdSince (now : Ns) (c : Bool) (a : Option Ns) : Option Ns := if c then some (a.getD now) else none

/-- R371: the string conditions noted at a tick. -/
def State.snkStrings (s : State) : State :=
  let t := s.time.now
  let chans := mapFrom (fun c (k : SnkCh) =>
    { k with openOn := holdSince t (s.snkOpen c) k.openOn, openOff := holdSince t (!s.snkOpen c) k.openOff,
             shortOn := holdSince t (s.snkShort c) k.shortOn, shortOff := holdSince t (!s.snkShort c) k.shortOff }) 0 s.snk.chans
  { s with snk := { s.snk with chans := chans } }

/-- R398: a current measured through a bank's sense chain, less the chain's gain error in 10 ppm. -/
def senseFixed (e : Int) (m : Nat) : Nat := min 0xFFFF (openRound (m * 100000 : Nat) (100000 + e).toNat).toNat

/-- R366, R398: the measured currents (10 µA), corrected by their bank's chain error, and headrooms (10 mV) of the channels. -/
def State.snkMeasured (s : State) (meas : List (Nat × Nat)) : State :=
  (upFrom 0 24).foldl (fun (t : State) c =>
    let m := meas.getD c (0, 0)
    (t.wrF (Reg.SNK_CH_MEAS c) 15 0 (senseFixed (sx 16 (s.rdF (Reg.CAL_SINK_REF (c / 8)) 15 0)) m.1)).wrF (Reg.SNK_CH_MEAS c) 31 16 m.2) s

/-- R372: STATUS.HDRM_LIMIT does not outlast the condition. -/
def State.snkShowLimit (s : State) : State := if s.snk.clampSince.isNone then s.wrB Reg.SNK_STATUS 3 false else s

/-- LOOP_TICK, R367, R369, R371, R372: the loop tick of an instant, with VLED present or not and each channel's measurements. -/
def execLoopTick (t : Nat) (vled : Bool) (meas : List (Nat × Nat)) (s : State) : Host.Outcome State Fault Refusal :=
  .next (
    let s0 := s.upTo t
    if s0.aon.appOff then s0
    else
      let s1 := ((s0.snkApply.snkReconnect.snkMeasured meas).snkLoop.snkStrings).snkShowLimit
      s1.wrB Reg.SNK_STATUS 0 (s1.snkOn && vled))

/-- R369: a channel cut by its overcurrent comparator. -/
def State.snkTrip (s : State) (c : Nat) (marked : Bool) : State :=
  (((((s.setSnkCh c { s.snkCh c with injected := marked }).wrB (Reg.SNK_CH_STAT c) 0 true).wrB (Reg.SNK_CH_STAT c) 1 true).wrB Reg.SNK_INT_STAT 0 true).wrB Reg.SNK_STATUS 2 true).raiseWith
    23 true marked

/-- SINK_OVERCURRENT, R369: a channel that draws current exceeds the overcurrent level. -/
def execSinkOvercurrent (c : Fin 24) (s : State) : Host.Outcome State Fault Refusal :=
  .next (if s.snkOn && bit (s.snkCh c.val).cfg 16 && !s.snkCut c.val then s.snkTrip c.val false else s)

/-- R369: OC cleared; the hoist flag's condition holds while some channel shows OC. -/
def State.snkClear (s : State) (c : Nat) : State :=
  let s1 := s.wrB (Reg.SNK_CH_STAT c) 1 false
  if (upFrom 0 24).any (fun k => s1.rdB (Reg.SNK_CH_STAT k) 1) then s1 else s1.unhold 23

/-- OC_CLEAR, R369, R19: a write of 1 to SNK_CH_STAT_c.OC. -/
def execOcClear (ini : Initiator) (c : Fin 24) (s : State) : Host.Outcome State Fault Refusal :=
  .next (s.permGate ini (Reg.SNK_CH_STAT c.val) true (fun t => (t.snkClear c.val).answer 0))

/-- R370: a bank's factor at a temperature in 0.01 °C, as a quotient. -/
def derate (temp : Int) (knee : Nat) : Nat × Nat :=
  if temp ≤ 100 * (knee : Int) then (1, 1) else if 14000 ≤ temp then (0, 1) else ((14000 - temp).toNat, 14000 - 100 * knee)

/-- BANK_TEMP_READ, R370: a bank's junction temperature is read; FACTOR's rounding is open. -/
def execBankTempRead (b : Fin 3) (temp : BitVec 16) (s : State) : Host.Outcome State Fault Refusal :=
  .next (
    if s.aon.appOff then s else
    let was := s.snkFactor b.val
    let f := derate temp.toInt (s.rdF Reg.SNK_KNEE 7 0)
    let factors := setAt s.snk.factors b.val f
    let s1 := { s with snk := { s.snk with factors := factors } }
    let s2 := (s1.wrF (Reg.SNK_TEMP b.val) 15 0 temp.toNat).wrF (Reg.SNK_TEMP b.val) 23 16 (openRound (255 * f.1 : Nat) f.2).toNat
    let s3 := if Nat.beq was.1 was.2 && Nat.blt f.1 f.2 then s2.wrB Reg.SNK_INT_STAT 3 true else s2
    let s4 := if Nat.beq f.1 0 && Nat.blt 0 was.1 then s3.wrB Reg.SNK_INT_STAT 4 true else s3
    let s5 := s4.wrB Reg.SNK_STATUS 1 (factors.any (fun (q : Nat × Nat) => Nat.blt q.1 q.2))
    if temp.toInt < -4500 ∨ 15000 < temp.toInt then s5.ratingOut else s5)

/-- Has an instant been reached 10 ms ago? -/
def heldFor (now ns : Ns) : Option Ns → Bool
  | some a => Nat.ble (a + ns) now
  | none => false

/-- STRING_FAULT_SET, R371: a condition has held for 10 ms. -/
def execStringFaultSet (c : Fin 24) (short : Bool) (t : Nat) (s : State) : Host.Outcome State Fault Refusal :=
  .next (
    let s0 := s.upTo t
    let k := s0.snkCh c.val
    let i := if short then 3 else 2
    if heldFor s0.time.now 10000000 (if short then k.shortOn else k.openOn) && !s0.rdB (Reg.SNK_CH_STAT c.val) i then
      (s0.wrB (Reg.SNK_CH_STAT c.val) i true).wrB Reg.SNK_INT_STAT (i - 1) true
    else s0)

/-- STRING_FAULT_CLEAR, R371: 10 ms have passed without the condition. -/
def execStringFaultClear (c : Fin 24) (short : Bool) (t : Nat) (s : State) : Host.Outcome State Fault Refusal :=
  .next (
    let s0 := s.upTo t
    let k := s0.snkCh c.val
    if heldFor s0.time.now 10000000 (if short then k.shortOff else k.openOff) then
      s0.wrB (Reg.SNK_CH_STAT c.val) (if short then 3 else 2) false
    else s0)

/-- HDRM_LIMIT, R372: FB has stayed at a clamp for 100 ms while the error pushed it further. -/
def execHdrmLimit (t : Nat) (s : State) : Host.Outcome State Fault Refusal :=
  .next (
    let s0 := s.upTo t
    if heldFor s0.time.now 100000000 s0.snk.clampSince then (s0.wrB Reg.SNK_INT_STAT 5 true).wrB Reg.SNK_STATUS 3 true else s0)

/-! ## Halyards -/

/-- A halyard's own state. -/
def State.halyard (s : State) (x : Nat) : HalState := s.hal.getD x {}

/-- A halyard's own state replaced. -/
def State.setHalyard (s : State) (x : Nat) (h : HalState) : State := { s with hal := setAt s.hal x h }

/-- HAL_COMMIT, R375, R19: a write of 1 to HAL_x_CTRL.COMMIT. -/
def execHalCommit (ini : Initiator) (x : Fin 2) (s : State) : Host.Outcome State Fault Refusal :=
  .next (s.permGate ini (Reg.HAL_CTRL x.val) true (fun t => (t.halCommit x.val).answer 0))

/-- R374: the pennants of the staging copy. -/
def State.halStaged (s : State) (x : Nat) : List (Nat × Nat × Nat) :=
  (upFrom 0 512).map (fun d => (s.rdF (Reg.HAL_PEN_LO x d) 15 0, s.rdF (Reg.HAL_PEN_LO x d) 31 16, s.rdF (Reg.HAL_PEN_HI x d) 15 0))

/-- R375: a commit applied at a frame start: the transmit copy takes the staging copy whole. -/
def State.halApply (s : State) (x : Nat) : State :=
  let h := s.halyard x
  ((((s.setHalyard x { h with sent := s.halStaged x, commit := none }).wrB (Reg.HAL_CTRL x) 2 false).wrB (Reg.HAL_STATUS x) 1 false).wrB
    (Reg.HAL_INT_STAT x) 1 true)

/-- R375, R376, R380: may a frame begin now? -/
def State.halMayBegin (s : State) (x : Nat) : Bool :=
  let h := s.halyard x
  s.rdB (Reg.HAL_CTRL x) 0 && !s.rdB (Reg.HAL_CTRL x) 3 && !s.aon.flushing && !s.aon.appOff && !s.rdB (Reg.HAL_STATUS x) 0 &&
    (match h.endedAt with
     | some e => Nat.ble (e + h.gap * 1000) s.time.now
     | none => true) &&
    (s.rdB (Reg.HAL_CTRL x) 1 || heldFor s.time.now 5000 h.commit)

/-- R375: COUNT and GAP take effect at a frame start, a change made with EN = 1 once it is 5 µs old. -/
def State.halTake (s : State) (x : Nat) : State :=
  let h := s.halyard x
  if h.cfgAt.isNone || heldFor s.time.now 5000 h.cfgAt then
    s.setHalyard x { h with count := s.rdF (Reg.HAL_CFG x) 9 0, gap := s.rdF (Reg.HAL_CFG x) 31 16, cfgAt := none }
  else s

/-- HAL_FRAME_START, R375: a frame begins; a commit at least 5 µs old is applied, and COUNT and GAP take effect. -/
def execHalFrameStart (x : Fin 2) (t : Nat) (s : State) : Host.Outcome State Fault Refusal :=
  .next (
    let s0 := s.upTo t
    if s0.halMayBegin x.val then
      let s1 := (if heldFor s0.time.now 5000 (s0.halyard x.val).commit then s0.halApply x.val else s0).halTake x.val
      (s1.setHalyard x.val { s1.halyard x.val with frameAt := some s1.time.now, stopsAt := none }).wrB (Reg.HAL_STATUS x.val) 0 true
    else s0)

/-- R373: the frame on the line has ended at an instant; the line rests low. -/
def State.halEnd (s : State) (x : Nat) (e : Ns) : State :=
  (s.setHalyard x { s.halyard x with frameAt := none, endedAt := some e, stopsAt := none }).wrB (Reg.HAL_STATUS x) 0 false

/-- FRAME_DONE, R374, R375: the last cell of a frame ends; the gap begins. A frame that ends early by R376 is not completed. -/
def execFrameDone (x : Fin 2) (t : Nat) (s : State) : Host.Outcome State Fault Refusal :=
  .next (
    let s0 := s.upTo t
    let h := s0.halyard x.val
    match h.frameAt with
    | none => s0
    | some a =>
      let full := a + 48000 * h.count
      let e := min full (h.stopsAt.getD full)
      if s0.time.now < e then s0
      else if e = full then ((s0.halEnd x.val e).wrB (Reg.HAL_INT_STAT x.val) 0 true).bump (Reg.HAL_FRAMES x.val) 1
      else s0.halEnd x.val e)

/-- R376: EN cleared: the frame ends at the end of the pennant in progress, 48 µs each. -/
def State.halStop (s : State) (x : Nat) : State :=
  let h := s.halyard x
  match h.frameAt with
  | some a => s.setHalyard x { h with stopsAt := some (h.stopsAt.getD (a + 48000 * ((s.time.now - a) / 48000 + 1))) }
  | none => s

/-- R380: the line rests low at once while INHIBIT is 1. -/
def State.halMute (s : State) (x : Nat) : State := if (s.halyard x).frameAt.isSome then s.halEnd x s.time.now else s

/-- R376: HAL_x_CTRL.EN cleared. -/
def State.halClear (s : State) (x : Nat) : State := (s.wrB (Reg.HAL_CTRL x) 0 false).halStop x

/-- HAL_DISABLE, R376, R19: a write that clears HAL_x_CTRL.EN. -/
def execHalDisable (ini : Initiator) (x : Fin 2) (s : State) : Host.Outcome State Fault Refusal :=
  .next (s.permGate ini (Reg.HAL_CTRL x.val) true (fun t => (t.halClear x.val).answer 0))

/-- R380: INHIBIT of the sinks and both halyards set or cleared by the supervisor. -/
def State.localInhibit (s : State) (on : Bool) : State :=
  let s1 := ((s.wrB Reg.SNK_CTRL 2 on).wrB (Reg.HAL_CTRL 0) 3 on).wrB (Reg.HAL_CTRL 1) 3 on
  if on then (s1.halMute 0).halMute 1 else s1

/-- R380: entry to STANDBY. -/
def State.localStandby (s : State) : State :=
  ((((s.wrB Reg.SNK_CTRL 0 false).wrB Reg.SNK_HDRM_CFG 21 false).halClear 0).halClear 1).localInhibit true

/-- R376: what SNK and HAL keep through a module reset, the instants of the local clock that stops there left out: a frame has ended,
a commit still waits, and the conditions of R371 and R372 are timed afresh. -/
def State.localReset (s : State) : State :=
  let chans := s.snk.chans.map (fun (k : SnkCh) => { k with openOn := none, openOff := none, shortOn := none, shortOff := none })
  let hal := s.hal.map (fun (h : HalState) => { h with frameAt := none, endedAt := none, stopsAt := none, commit := h.commit.map (fun _ => 0), cfgAt := none })
  let s1 := { s with snk := { s.snk with chans := chans, clampSince := none, trimSince := List.replicate 24 none }, hal := hal }
  ((s1.halClear 0).halClear 1).wrB (Reg.HAL_STATUS 0) 0 false |>.wrB (Reg.HAL_STATUS 1) 0 false

/-! ## Sink calibration -/

/-- SINK_REF_CALIBRATION, R398, R384: each bank's sense-chain error, in 10 ppm; none is taken while the reference is at fault. -/
def execSinkRefCalibration (e0 e1 e2 : BitVec 16) (s : State) : Host.Outcome State Fault Refusal :=
  .next (
    if s.calGoes && s.calFunction 2 && !s.calBit 2 then
      (((s.wrF (Reg.CAL_SINK_REF 0) 15 0 e0.toNat).wrF (Reg.CAL_SINK_REF 1) 15 0 e1.toNat).wrF
        (Reg.CAL_SINK_REF 2) 15 0 e2.toNat).initialDone 1
    else s)

/-- R398: does a channel qualify for a trim? Enabled, not cut, f_b = 1, its headroom meeting R366, its target at least 20 mA. -/
def State.trimQualifies (s : State) (c : Nat) : Bool :=
  let t := s.snkTarget c
  let f := s.snkFactor (c / 8)
  s.snkOn && bit (s.snkCh c).cfg 16 && !s.snkCut c && Nat.beq f.1 f.2 &&
    decide (20000 * (t.2 : Int) ≤ t.1 ∧ 1500000 * (t.2 : Int) + 13 * t.1 ≤ 100000 * (s.rdF (Reg.SNK_CH_MEAS c) 31 16 : Int) * t.2)

/-- R398: a trim's new GAIN: × (1 + (t − m) / 2m), the change limited to 0.5 %, GAIN to its limits; its rounding is open. -/
def State.trimGain (s : State) (c : Nat) : Nat :=
  let t := s.snkTarget c
  let m : Int := 10 * (s.rdF (Reg.SNK_CH_MEAS c) 15 0 : Int) * t.2
  let g : Int := s.rdF (Reg.SNK_CH_TRIM c) 15 0
  let d := t.1 - m
  let up := decide (m < 100 * d)
  let down := decide (100 * d < -m)
  let step : Int := if up then openRound g 200 else if down then openRound (-g) 200 else openRound (g * d) (2 * m).toNat
  (clampI 0x7333 0x8CCC (g + step)).toNat

/-- R398: TRIM_LIMIT of a channel held at a limit for 60 s, recorded once. -/
def State.trimLimit (s : State) (c : Nat) : State :=
  match s.snk.trimSince.getD c none with
  | some a =>
    if a + 60000000000 ≤ s.time.now ∧ s.cal.trims.any (fun (q : Nat × Ns) => Nat.beq q.1 c) = false then
      (({ s with cal := { s.cal with trims := s.cal.trims ++ [(c, s.time.now)] } }).calCount 7).record 0x0B 5 c 0 0
    else s
  | none => s

/-- R398: one channel's trim. -/
def State.trimChannel (s : State) (c : Nat) : State :=
  if s.trimQualifies c then
    let g := s.trimGain c
    let at_ := Nat.beq g 0x7333 || Nat.beq g 0x8CCC
    let s1 := s.wrF (Reg.SNK_CH_TRIM c) 15 0 g
    let since := if at_ then some ((s.snk.trimSince.getD c none).getD s.time.now) else none
    ({ s1 with snk := { s1.snk with trimSince := setAt s1.snk.trimSince c since } }).trimLimit c
  else s

/-- SINK_TRIM, R398: every 1 s CAL adjusts each channel that qualifies. -/
def execSinkTrim (t : Nat) (s : State) : Host.Outcome State Fault Refusal :=
  .next (
    let s0 := s.upTo t
    if s0.calGoes && s0.calFunction 2 then ((upFrom 0 24).foldl State.trimChannel s0).initialDone 6 else s0)

end Sys2Proof.Machine
end

