-- ==== Sys2Proof/Machine/Aon.lean ====
section
/-! DEFINITION. The always-on domain: the contactors and their sources, the heartbeat, the photocell, the tamper inputs, the supplies, and
what power removal and a module reset leave (R46 to R51, R60, R66 to R70, R78, R376, R463, R467, R482, R490). -/

namespace Sys2Proof.Machine

/-! ## Contactors -/

/-- R48: the outputs AON drives: none without MAINS; else none, the fallback's, or CMD, by the source. -/
def State.contOut (s : State) : Nat :=
  if s.rdB Reg.AON_STATUS 0 then
    match s.rdF Reg.AON_CONT_STAT 5 4 with
    | 1 => if s.rdB Reg.AON_STATUS 2 then 15 else 0
    | 2 => s.rdF Reg.AON_CONT_CTRL 3 0
    | _ => 0
  else 0

/-- R48: AON_CONT_STAT.OUT follows the source. -/
def State.contRefresh (s : State) : State := s.wrF Reg.AON_CONT_STAT 3 0 s.contOut

/-- R48, R463: the contactor pins: all four under the supervisor's override, gated by the unclocked comparator; else OUT. -/
def State.contPins (s : State) : Nat :=
  if s.rdB Reg.SUP_CONT_FORCE 0 && s.aon.comparator then 15 else s.rdF Reg.AON_CONT_STAT 3 0

/-- R48, Table 2.7: the source becomes 0 released, 1 fallback or 2 supervisor. -/
def State.contSource (s : State) (src : Nat) : State :=
  (((s.wrF Reg.AON_CONT_STAT 5 4 src).wrB Reg.AON_STATUS 7 (Nat.beq src 1)).wrB Reg.AON_CONT_CTRL 8 (Nat.beq src 2)).contRefresh

/-- R49: the contactors go to the dark fallback and the supervisor's ownership ends. -/
def State.contFallback (s : State) : State := s.contSource 1

/-- R50: a take of ownership with a CMD: refused unless CMD equals OUT, and while the heartbeat is missing (R49). -/
def State.contTake (s : State) (cmd : Nat) : State :=
  let s1 := s.wrF Reg.AON_CONT_CTRL 3 0 cmd
  if cmd = s.rdF Reg.AON_CONT_STAT 3 0 ∧ s.rdB Reg.AON_STATUS 6 = true then s1.contSource 2 else s1.wrB Reg.AON_CONT_CTRL 16 true

/-- R48: a command of the outputs. -/
def State.contCommand (s : State) (cmd : Nat) : State := (s.wrF Reg.AON_CONT_CTRL 3 0 cmd).contRefresh

/-- R16, R48 to R50: a write of AON_CONT_CTRL that reaches AON. -/
def State.contWrite (s : State) (v : Word) : State :=
  let own := s.rdB Reg.AON_CONT_CTRL 8
  let s1 := if bit v 16 then s.wrB Reg.AON_CONT_CTRL 16 false else s
  if !s.aonTakes then s
  else if bit v 8 then (if own then s1.contCommand (fld v 3 0) else s1.contTake (fld v 3 0))
  else if own && s.rdB Reg.AON_STATUS 6 then (s1.wrF Reg.AON_CONT_CTRL 3 0 (fld v 3 0)).contSource 0
  else s1.contCommand (fld v 3 0)

/-- R7, R38: a write of a register of AON or SUP that only the supervisor may make. -/
def State.supOnly (s : State) (ini : Initiator) (addr : Nat) (go : State → State) : State :=
  s.regWrite ini (decide (ini = .sup)) addr go

/-- CONTACTOR_TAKE, R50: a write of AON_CONT_CTRL with SUP_OWN 1. -/
def execContactorTake (ini : Initiator) (cmd : Fin 16) (s : State) : Host.Outcome State Fault Refusal :=
  .next (s.supOnly ini Reg.AON_CONT_CTRL (fun t => t.contWrite (BitVec.ofNat 32 (256 + cmd.val))))

/-- CONTACTOR_RELEASE, R48: a write of AON_CONT_CTRL with SUP_OWN 0. -/
def execContactorRelease (ini : Initiator) (cmd : Fin 16) (s : State) : Host.Outcome State Fault Refusal :=
  .next (s.supOnly ini Reg.AON_CONT_CTRL (fun t => t.contWrite (BitVec.ofNat 32 cmd.val)))

/-- CONTACTOR_COMMAND, R48: a write of CMD that leaves SUP_OWN as it stands. -/
def execContactorCommand (ini : Initiator) (cmd : Fin 16) (s : State) : Host.Outcome State Fault Refusal :=
  .next (s.supOnly ini Reg.AON_CONT_CTRL (fun t =>
    if t.aonTakes then t.contCommand cmd.val else t))

/-- CONTACTOR_FORCE_ON, R463: a write of 1 to SUP_CONT_FORCE.ON. -/
def execContactorForceOn (ini : Initiator) (s : State) : Host.Outcome State Fault Refusal :=
  .next (s.supOnly ini Reg.SUP_CONT_FORCE (fun t => t.wrB Reg.SUP_CONT_FORCE 0 true))

/-- R47, R51, R59: the outputs the mode and the lighting phase require. -/
def State.contRequired (s : State) : Nat :=
  match s.mode.mode with
  | .standby => 0
  | .provision => if s.rdB Reg.AON_STATUS 2 then 15 else 0
  | _ => if s.mode.phase = .day then 0 else s.objN 0x2000 15 % 16

/-- R50: the supervisor takes the outputs as they stand, if it does not own them, and then sets them to what is required. -/
def State.contDrive (s : State) : State :=
  if !s.aonTakes then s
  else
    let s1 := if s.rdB Reg.AON_CONT_CTRL 8 then s else s.contTake (s.rdF Reg.AON_CONT_STAT 3 0)
    if s1.rdB Reg.AON_CONT_CTRL 8 then s1.contCommand s1.contRequired else s1

/-- CONTACTOR_FORCE_OFF, R463: the AON clock has run again for 1 s: the supervisor takes the contactors and clears ON. -/
def execContactorForceOff (s : State) : Host.Outcome State Fault Refusal :=
  .next (match s.aon.clockBackSince with
    | some a => if s.rdB Reg.SUP_CONT_FORCE 0 = true ∧ a + 1000000000 ≤ s.eventTime then s.contDrive.wrB Reg.SUP_CONT_FORCE 0 false else s
    | none => s)

/-! ## Heartbeat and photocell -/

/-- R49: a write of AON_HEARTBEAT counts when it holds 0x5A or 0xA5 and differs from the previous counting write. -/
def State.heartbeat (s : State) (v : Word) : State :=
  let b := BitVec.ofNat 8 v.toNat
  if s.aonTakes ∧ (b = 0x5A ∨ b = 0xA5) ∧ s.aon.lastBeat ≠ some b then
    ({ s with aon := { s.aon with lastBeat := some b } }).wrB Reg.AON_STATUS 6 true
  else s

/-- HEARTBEAT_WRITE, R49. -/
def execHeartbeatWrite (ini : Initiator) (v : Word) (s : State) : Host.Outcome State Fault Refusal :=
  .next (s.supOnly ini Reg.AON_HEARTBEAT (fun t => t.heartbeat v))

/-- HEARTBEAT_MISSING, R49: no counting write for 6,554 AON cycles; AON's timers need its clock. -/
def execHeartbeatMissing (s : State) : Host.Outcome State Fault Refusal :=
  .next (if s.aonTakes then (s.wrB Reg.AON_STATUS 6 false).contFallback else s)

/-- R46: the level in mV below which PHOTO is dark. -/
def State.darkLevel (s : State) : Nat := 10 * s.rdF Reg.AON_PHOTO_CFG 9 0

/-- R46: the level in mV above which PHOTO is light. -/
def State.lightLevel (s : State) : Nat := s.darkLevel + 10 * s.rdF Reg.AON_PHOTO_CFG 19 12

/-- PHOTOCELL_DARK, R46: PHOTO, `mv` at most, has stayed so for a time in ms without a break; an open input reads 0. Dark is declared below
DARK_LEVEL for 30 s. -/
def execPhotocellDark (mv ms : Nat) (s : State) : Host.Outcome State Fault Refusal :=
  .next (if s.aonTakes && Nat.blt mv s.darkLevel && Nat.ble 30000 ms then (s.wrB Reg.AON_STATUS 2 true).contRefresh else s)

/-- PHOTOCELL_LIGHT, R46: PHOTO, `mv` at least, has stayed so for a time in ms without a break. Light is declared above DARK_LEVEL + HYST for
120 s. -/
def execPhotocellLight (mv ms : Nat) (s : State) : Host.Outcome State Fault Refusal :=
  .next (if s.aonTakes && Nat.blt s.lightLevel mv && Nat.ble 120000 ms then (s.wrB Reg.AON_STATUS 2 false).contRefresh else s)

/-! ## Tamper inputs -/

/-- R69: DAY and SEC of the latching cycle. -/
def State.tamperStamp (s : State) (k : Nat) : State :=
  let c := s.civil
  let sec := c.seconds % 86400
  (s.wrN (Reg.AON_TAMPER_DAY k) (c.seconds / 86400)).wrN (Reg.AON_TAMPER_SEC k) (sec + s.rtcTick * 2 ^ 17)

/-- R70: the latchings not yet recorded are recorded with their captured times, once the event recorder runs. -/
def State.tamperRecord (s : State) : State :=
  if s.aon.supRunning then
    let s1 := s.aon.tamperDue.foldl (fun (t : State) (e : Nat × Ns) => t.recordAt e.2 1 1 e.1 0 0) s
    { s1 with aon := { s1.aon with tamperDue := [] } }
  else s

/-- TAMPER_LATCH, R69, Table 2.7: input k has been asserted for a number of AON cycles, none where it is released; `stays` says whether it is
asserted now. Fewer than 4 cycles latch nothing, and a set latch only counts. -/
def execTamperLatch (k : Fin 3) (cycles : Nat) (stays : Bool) (s : State) : Host.Outcome State Fault Refusal :=
  .next (
    if s.aonTakes then
      let s1 := s.wrB Reg.AON_STATUS (3 + k.val) stays
      if cycles < 4 then s1
      else if s.rdB Reg.AON_TAMPER_STAT k.val then
        s1.wrF (Reg.AON_TAMPER_DAY k.val) 31 24 (min 255 (s.rdF (Reg.AON_TAMPER_DAY k.val) 31 24 + 1))
      else
        let s2 := ((s1.wrB Reg.AON_TAMPER_STAT k.val true).wrB Reg.KEY_STATUS 2 true).tamperStamp k.val
        ({ s2 with aon := { s2.aon with tamperDue := s2.aon.tamperDue ++ [(k.val, s.rtcTime)] } }).tamperRecord
    else s)

/-- R72: AON_TAMPER_CLEAR: the named latches whose inputs are not asserted clear, with their times and counts. -/
def State.tamperClear (s : State) (mask : Nat) : State :=
  let s1 := (upFrom 0 3).foldl (fun (t : State) k =>
    if Nat.testBit mask k && !t.rdB Reg.AON_STATUS (3 + k) then
      ((t.wrB Reg.AON_TAMPER_STAT k false).wrN (Reg.AON_TAMPER_DAY k) 0).wrN (Reg.AON_TAMPER_SEC k) 0
    else t) s
  s1.wrB Reg.KEY_STATUS 2 (!(Nat.beq (s1.rdF Reg.AON_TAMPER_STAT 2 0) 0))

/-! ## Supplies -/

/-- R482: the supply that runs AON: 0 VIN, 1 VBAT, 2 VCOIN. -/
def aonSupply (vin vbat : Nat) : Nat := if Nat.ble 9000 vin then 0 else if Nat.ble 9000 vbat then 1 else 2

/-- MAINS_COMPARATOR_SET, R60: VIN rises through 17.0 V. -/
def execMainsComparatorSet (vin : Nat) (s : State) : Host.Outcome State Fault Refusal :=
  .next (if Nat.ble 17000 vin then
      ({ s with aon := { s.aon with vin := vin, comparator := true } }).wrF Reg.AON_STATUS 9 8 (aonSupply vin s.aon.vbat)
    else s)

/-- BAT_LOW_SET, R66: VBAT falls below LOW_LEVEL. -/
def execBatLowSet (vbat : Nat) (s : State) : Host.Outcome State Fault Refusal :=
  .next (if vbat < 10 * s.rdF Reg.AON_BAT_CFG 10 0 then
      (({ s with aon := { s.aon with vbat := vbat } }).wrB Reg.AON_STATUS 1 true).wrF Reg.AON_STATUS 9 8 (aonSupply s.aon.vin vbat)
    else s)

/-- BAT_LOW_CLEAR, R66: VBAT rises 0.30 V above LOW_LEVEL. -/
def execBatLowClear (vbat : Nat) (s : State) : Host.Outcome State Fault Refusal :=
  .next (if 10 * s.rdF Reg.AON_BAT_CFG 10 0 + 300 ≤ vbat then
      (({ s with aon := { s.aon with vbat := vbat } }).ratingOut.wrB Reg.AON_STATUS 1 false).wrF Reg.AON_STATUS 9 8 (aonSupply s.aon.vin vbat)
    else s)

/-! ## What a reset or a power removal leaves -/

/-- R376, R467: the three ways in which blocks lose their state: a module reset, a power-on (or a wake from DEEP_SLEEP), and the removal of
the application cluster's power. -/
inductive ResetKind where
  | module | powerOn | app
  deriving DecidableEq, Repr

/-- R78, R376, R403, R441, R467: does a register keep its value? -/
def ResetKind.keeps (k : ResetKind) (a : Nat) : Bool :=
  let slot := Reg.slotOf a
  match slot with
  | 1 => true
  | 0x15 => decide (a ≠ Reg.UPD_INT_EN)
  | 0x12 => Nat.ble (Reg.KEY_SLOT_INFO 0) a
  | 0x16 => decide (k = .app ∨ (k = .module ∧ (a = Reg.SUP_HOIST ∨ a = Reg.SUP_DRILLMARK ∨ a = Reg.SUP_RESET_HIST ∨ a = Reg.SUP_CONT_FORCE)))
  | 0x10 | 0x11 => decide (k = .module)
  | 0 | 0x0A | 0x0B | 0x14 => decide (k = .app)
  | _ => false

/-- Does the kind of loss leave a byte of memory? The MRAM keeps its content; without power the DRAM loses it (log entry 6). -/
def ResetKind.keepsByte (k : ResetKind) (a : Nat) : Bool :=
  decide (k = .module) || (Nat.ble 0x20000000 a && Nat.blt a 0x21000000) || (decide (k = .app) && Nat.blt a 0x20000000)

/-- The state of the blocks that lose theirs in every kind of loss: the time base, the dictionary's transports, the engines, the radios,
membership, counting, light control, the cabinet bus, the ring and DMA. -/
def State.engineReset (s : State) : State :=
  { s with
    time := { trig := List.replicate 16 {}, lastEdge := List.replicate 8 none },
    dict := { s.dict with sessions := [{ id := 0, kind := .mailbox, buf := 4096, opened := true }], xfers := [],
                          links := s.dict.links.map (fun (e : EnvLink) => { e with rx := e.saved.1, tx := e.saved.2 }), modeWait := [],
                          status := 0, response := none, held := [], mailboxIrq := false, written := [], alert := none },
    key := { s.key with cmdData := [], scrubNext := 0, scrubPasses := 0 },
    cry := {}, macs := s.macs.map (fun (m : MacState) => { bcast := m.bcastSaved, bcastSaved := m.bcastSaved }),
    member := { s.member with responses := [], outbox := [], probeRuns := [], fragments := [], messages := [] },
    traffic := { bulk := s.traffic.bulk }, ctl := {},
    can := { hbEpoch := s.can.hbSaved.1, hbCount := s.can.hbSaved.2, hbSaved := s.can.hbSaved, hbHeard := s.can.hbHeard },
    net := { pages := s.net.pages, cageOff := s.net.cageOff }, dma := List.replicate 16 {} }

/-- The state of the metering, calibration and system blocks, which a removal of the application cluster's power leaves. -/
def State.coreReset (s : State) : State :=
  { s with
    sys := { queues := List.replicate 34 {} },
    mtr := { inputs := List.replicate 10 {}, runs := List.replicate 5 (0, 0), saves := s.mtr.saves, bulk := s.mtr.bulk, stopped := true,
             outageOpen := s.mtr.outageOpen },
    cal := { offsets := s.cal.offsets, daily := s.cal.daily, remaining := s.cal.remaining, initial := s.cal.initial },
    evr := { s.evr with sub := [], integratorTimes := [], bufDrops := 0 },
    fault := { s.fault with kicks := [none, none, none, none], proof := none, debugUnlocked := false, debugAnswer := none,
                            corruptWords := s.fault.corruptWords.filter (fun (e : Nat × Bool × Bool) => !e.2.1) } }

/-- R467: registers and blocks after a loss of the kind. -/
def State.blocksReset (s : State) (k : ResetKind) : State :=
  let starts := s.rdF Reg.SUP_STATUS 15 8
  let s1 := { s with regs := s.regs.filter (fun (e : Nat × Word) => k.keeps e.1), mem := s.mem.filter (fun (e : Host.Cell) => k.keepsByte e.1) }
  let s2 := s1.engineReset
  let lose (t : State) : State := { t with fault := { t.fault with
    corruptWords := t.fault.corruptWords.filter (fun (e : Nat × Bool × Bool) => k.keepsByte e.1) } }
  let s3 := lose (if k = .app then s2 else s2.coreReset)
  let s4 := if k = .module then s3.wrF Reg.SUP_STATUS 15 8 starts else s3
  let s5 := if k = .powerOn then
      { s4 with evr := { s4.evr with buffer := [], flushDue := false }, fault := { s4.fault with faultStarts := [], heldInReset := false } } else s4
  if k = .module then s5.localReset
  else
    { s5 with fault := { s5.fault with kicks := s5.fault.kicks.take 1 ++ [none, none, none] }, snk := { chans := List.replicate 24 {} },
              hal := [{}, {}] }

/-- R40, R52: the start begins: MODE reads 0xFF until the first mode decision. -/
def State.starting (s : State) : State :=
  { s with mode := { s.mode with mode := .starting, lawWritten := none, arbitrationLost := false, canStarted := none,
                                 partnerHeard := none } }

/-- R44, R49, R467: a module reset with its cause: the blocks lose their state, the contactors go to the fallback within 3 AON cycles, core 3 is
held, and the module stays in reset until its start. -/
def State.moduleReset (s : State) (cause : Nat) : State :=
  let s1 := (s.blocksReset (if cause = 0 ∨ cause = 2 then .powerOn else .module)).starting
  let s2 := { s1 with aon := { s1.aon with inReset := true, supRunning := false, resetCause := cause, flushing := false, sensed := 0 } }
  if s2.aonTakes then s2.contFallback else s2

/-- MODULE_RESET, R467: a reset decided by a fault's reaction takes effect, with its cause: 3 after a watchdog or a stall monitor, 7 after any
other fault, or another cause of R61. -/
def execModuleReset (cause : Fin 8) (s : State) : Host.Outcome State Fault Refusal := .next (s.moduleReset cause.val)

/-- R376: APP_OFF removes power from the application cluster, the radios, the ring ports, the cabinet bus and the sinks. -/
def State.appPowerOff (s : State) : State :=
  let s1 := s.core3Stop.blocksReset .app
  let s2 := { s1 with aon := { s1.aon with appOff := true } }
  { s2 with sys := { s2.sys with queues := List.replicate 34 {} } }

/-- APP_OFF, R376: a write of AON_PWR_CTRL.APP_OFF. -/
def execAppOff (ini : Initiator) (s : State) : Host.Outcome State Fault Refusal :=
  .next (s.supOnly ini Reg.AON_PWR_CTRL (fun t => if t.aonTakes then t.appPowerOff else t))

/-- R67: AON removes every supply but its own. -/
def State.allOff (s : State) : State :=
  let s1 := s.blocksReset .powerOn
  { s1 with aon := { s1.aon with appOff := true, asleep := true, supRunning := false, inReset := true, flushing := false, sensed := 0 } }

/-- R67, Table 2.9: the module is in DEEP_SLEEP, every supply but AON's removed. -/
def State.sleepEnter (s : State) : State :=
  { s.allOff with mode := { s.mode with mode := .deepSleep, reason := 0x15, entered := s.eventTime, lawWritten := none } }

/-- SLEEP, R67: a write of AON_PWR_CTRL.SLEEP enters DEEP_SLEEP; it has no effect while MAINS is 1. -/
def execSleepCmd (ini : Initiator) (s : State) : Host.Outcome State Fault Refusal :=
  .next (s.supOnly ini Reg.AON_PWR_CTRL (fun t => if t.aonTakes && !t.rdB Reg.AON_STATUS 0 then t.sleepEnter else t))

/-- SUPPLY_CUT, R482: VIN falls below 9.0 V while VBAT is below 9.0 V: the module stops where it stands; what was not written is lost. -/
def execSupplyCut (vin : Nat) (s : State) : Host.Outcome State Fault Refusal :=
  .next (if vin < 9000 ∧ s.aon.vbat < 9000 then
      let s1 := ({ s with aon := { s.aon with vin := vin, comparator := false } }).allOff.starting
      ({ s1 with aon := { s1.aon with resetCause := 0 } }.wrB Reg.AON_STATUS 0 false).wrF Reg.AON_STATUS 9 8 2 |>.contRefresh
    else s)

/-- ALL_SUPPLIES_ABSENT, R78: VCOIN is lost while VIN and VBAT are absent: the AON registers take their reset values. -/
def execAllSuppliesAbsent (s : State) : Host.Outcome State Fault Refusal :=
  .next (if s.aon.vin < 9000 ∧ s.aon.vbat < 9000 then
      let s1 := s.allOff.starting
      { s1 with regs := s1.regs.filter (fun (e : Nat × Word) => !(Nat.beq (Reg.slotOf e.1) 1)),
                rtc := {}, aon := { vin := s.aon.vin, vbat := s.aon.vbat, vcoin := 0, otp0 := s.aon.otp0, otp1 := s.aon.otp1 } }
    else s)

end Sys2Proof.Machine
end

