-- ==== Sys2Proof/Machine/Evr.lean ====
section
/-! DEFINITION. The event recorder: submission, flush, clearing and reading (R442 to R456). -/

namespace Sys2Proof.Machine

/-- R456: word w of an initiator's staging copy of EVR_SUB. -/
def State.evrStage (s : State) (ini w : Nat) : Word := Sparse.get (fun _ => (0 : Word)) s.evr.sub (ini * 8 + w)

/-- R456: a staged word written. -/
def State.setEvrStage (s : State) (ini w : Nat) (v : Word) : State :=
  { s with evr := { s.evr with sub := Sparse.set (fun _ => (0 : Word)) s.evr.sub (ini * 8 + w) v } }

/-- R456: the staged bytes of an initiator. -/
def State.evrStaged (s : State) (ini : Nat) : List Byte := (upFrom 0 7).flatMap (fun w => toLE 4 (s.evrStage ini w).toNat)

/-- R444, R456: the record of 28 staged bytes. EVR fills SEQ, and TIME where bytes 0 to 9 are all zero. -/
def State.submitBytes (s : State) (b : List Byte) : State :=
  let r : Rec := { time := if leAt b 0 10 = 0 then fromLE (time80 s.eventTime) else leAt b 0 10, source := leAt b 10 1,
                   flags := leAt b 11 1, code := leAt b 12 2, seq := s.evr.nextSeq, p0 := leAt b 18 2, p1 := leAt b 20 4,
                   p2 := leAt b 24 4 }
  ({ s with evr := { s.evr with nextSeq := (s.evr.nextSeq + 1) % 2 ^ 32 } }).recPlace r

/-- R456: a write of EVR_SUB_6 submits the staged record. -/
def State.evrSubmit (s : State) (ini : Initiator) (v : Word) : State :=
  let s1 := s.setEvrStage ini.number 6 v
  s1.submitBytes (s1.evrStaged ini.number)

/-- EVR_SUBMIT, R456: EVR_SUB_6 is WO (RES). -/
def execEvrSubmit (ini : Initiator) (v : Word) (s : State) : Host.Outcome State Fault Refusal :=
  .next (s.regWrite ini ini.resident (Reg.EVR_SUB 6) (fun t => t.evrSubmit ini v))

/-- R447, R449: a flush writes every buffered record to the log in order of SEQ. -/
def State.flushLog (s : State) : State :=
  let s1 := s.evr.buffer.foldl State.logStore { s with evr := { s.evr with buffer := [], flushDue := false } }
  ((s1.wrB Reg.EVR_CTRL 1 false).wrB Reg.EVR_INT_STAT 0 true).bumpU32 0x2D00 9 2 1

/-- EVR_FLUSH, R447: the flush that a trigger has made due. -/
def execEvrFlush (s : State) : Host.Outcome State Fault Refusal := .next (if s.evr.flushDue then s.flushLog else s)

/-- FLUSH_REQUEST, R447: a write of 1 to EVR_CTRL.FLUSH: the bit stays 1 until the flush ends. -/
def State.flushRequest (s : State) : State :=
  { (s.wrB Reg.EVR_CTRL 1 true) with evr := { s.evr with flushDue := true } }

/-- FLUSH_REQUEST, R447: EVR_CTRL.FLUSH is written 1. -/
def execFlushRequest (s : State) : Host.Outcome State Fault Refusal := .next s.flushRequest

/-- R452, steps 3 and 4: CLEARED at index 0, the log's flags and counts 0. -/
def State.logClear (s : State) (v : Nat) : State :=
  let r : Rec := { time := fromLE (time80 s.eventTime), source := 0x14, flags := s.recFlags 0x14 1 false, code := 1, seq := s.evr.nextSeq,
                   p0 := s.evr.reserveUsed, p1 := v, p2 := s.evr.dropped }
  (({ s with evr := { s.evr with nextSeq := (s.evr.nextSeq + 1) % 2 ^ 32, log := [r], lastSeq := r.seq, dropped := 0,
                                 reserveUsed := 0, logHigh := false, logFull := false, reserveFull := false } }).wrB
    Reg.EVR_INT_STAT 5 true).bumpU32 0x2D00 9 3 1

/-- R453: an integrator event: at most 100 in any 1 s are recorded, the rest counted. -/
def State.integratorEvent (s : State) (v : List Byte) : State :=
  let recent := s.evr.integratorTimes.filter (fun t => Nat.blt s.time.now (t + 1000000000))
  if Nat.blt recent.length 100 then
    let s1 := { s with evr := { s.evr with integratorTimes := recent ++ [s.time.now] } }
    s1.record 0x40 (leAt v 0 2) (leAt v 2 2) (leAt v 4 4) (leAt v 8 4)
  else s.bumpU32 0x2D00 9 1 1

/-- R451: does a read of RECORDS from an index reach LOG_COUNT? -/
def State.recordsReach (s : State) (ix : Nat) : Bool := Nat.ble s.evr.log.length (ix + 2048)

/-- R451: the value of RECORDS from an index: at most 2,048 stored records. -/
def State.recordsValue (s : State) (ix : Nat) : List Byte := ((s.evr.log.drop ix).take 2048).flatMap Rec.bytes

/-- R450: the records before the first whose SEQ is not greater than that of the record before it. -/
def ascending (last : Option Nat) : List Rec → List Rec
  | [] => []
  | r :: t =>
    match last with
    | some n => if Nat.ble r.seq n then [] else r :: ascending (some r.seq) t
    | none => r :: ascending (some r.seq) t

/-- R444, R447, R450: at start the log's end is found, SEQ resumes above the highest found, and the retained records are flushed. -/
def State.evrStart (s : State) : State :=
  let log := ascending none s.evr.log
  let next := (log ++ s.evr.buffer).foldl (fun m r => max m (r.seq + 1)) 1
  let n := log.length
  let s1 := { s with evr := { s.evr with log := log, lastSeq := (log.getLast?.map (fun (r : Rec) => r.seq)).getD 0, nextSeq := next % 2 ^ 32,
                                         sub := [], flushDue := false, logHigh := Nat.ble (s.rdF Reg.EVR_HIGH_WATER 18 0) n,
                                         logFull := Nat.ble logOrdinaryEnd n, reserveFull := Nat.ble logEnd n,
                                         reserveUsed := n - logOrdinaryEnd } }
  if s.evr.buffer.isEmpty then s1 else s1.flushLog

end Sys2Proof.Machine
end

