-- ==== Sys2Proof/Machine/Upd.lean ====
section
/-! DEFINITION. Field update: manifests, staging, the seal, activation, probation and fallback (R421 to R435, R440, R441). -/

namespace Sys2Proof.Machine

/-- R423: UPD_COUNTERS: 0 MANIFESTS_ACCEPTED, 1 REFUSALS, 2 DIGEST_FAILS, 3 ACTIVATIONS, 4 CONFIRMATIONS, 5 FALLBACKS. -/
def State.updCount (s : State) (k : Nat) : State := s.bumpU32 0x2C00 0x10 k 1

/-- R423: a refused update request: its reason, the count and the flag; nothing else changes. -/
def State.updRefuse (s : State) (reason : Nat) : State :=
  ((((s.setObjN 0x2C00 0x0D 1 reason).wrF Reg.UPD_REFUSE 7 0 reason).wrF Reg.UPD_REFUSE 31 16
    (min 0xFFFF (s.rdF Reg.UPD_REFUSE 31 16 + 1))).wrB Reg.UPD_INT_STAT 4 true).updCount 1

/-- Table 15.3: the dictionary status of a reason. -/
def reasonStatus (reason : Nat) : Nat := if reason = 1 then 8 else if reason = 2 then 9 else 0x0A

/-! ## Conditions -/

/-- R424: reason 4: BATTERY_FITTED is 1 and the state of charge is below 30 %. -/
def State.batteryPoor (s : State) : Bool :=
  let soc := s.objN 0x2C00 0x0B
  Nat.beq (s.objN 0x2C00 0x0A) 1 && (if soc ≤ 100 then Nat.blt soc 30 else Nat.blt s.aon.vbat 11540)

/-- R422: NAME of a header: text, then zeros. -/
def nameOk : List Byte → Bool
  | [] => true
  | b :: t => if b = 0 then t.all (fun x => decide (x = 0)) else nameOk t

/-- R422, Table 15.2: may entry k of a manifest stand so? -/
def entryOk (m : List Byte) (k : Nat) : Bool :=
  let e := partEntry m k
  let ty := leAt e 0 1
  let len := leAt e 8 4
  (slice e 12 4).all (fun x => decide (x = 0)) && Nat.ble 1 len &&
    (if k < 8 then Nat.beq ty (k + 1) && Nat.beq (leAt e 1 1) (if k = 7 then 1 else 0) && Nat.beq (leAt e 2 2) 0 && Nat.ble len 67108864
     else Nat.beq ty 16 && Nat.beq (leAt e 1 1) 0 && Nat.ble len 16777216)

/-- R422: are all entries of a list of classes distinct? -/
def distinct : List Nat → Bool
  | [] => true
  | a :: t => !t.contains a && distinct t

/-- R422, reason 7: is a manifest well formed, for this product and silicon? -/
def State.manifestFormed (s : State) (m : List Byte) : Bool :=
  let n := manifestParts m
  decide (slice m 0 4 = [0x4C, 0x4D, 0x46, 0x31]) && Nat.beq (leAt m 4 2) 1 && Nat.ble 8 n && Nat.ble n 40 &&
    Nat.beq (leAt m 8 4) (64 * (n + 1) + 96) && Nat.beq m.length (64 * (n + 1) + 96) && Nat.beq (leAt m 16 2) 0x8240 &&
    Nat.ble (leAt m 18 2) (s.rdF Reg.SYS_ID 15 0) && nameOk (slice m 20 32) && (slice m 52 12).all (fun x => decide (x = 0)) &&
    (upFrom 0 n).all (entryOk m) && distinct ((upFrom 8 (n - 8)).map (fun k => leAt (partEntry m k) 2 2)) &&
    Nat.ble ((upFrom 0 8).foldl (fun a k => a + partLength m k) 0) 268435456

/-- R422: does a manifest carry a metrology change? -/
def State.metrologyChange (s : State) (m : List Byte) : Bool := decide (partDigest m 7 ≠ partDigest s.activeSet.manifest 7)

/-- R428: is the metrology seal open? -/
def State.sealOpen (s : State) : Bool := s.rdB Reg.UPD_STATUS 4

/-- Table 15.3: reasons 2 to 5, in order: 0 where none applies. `probation` says whether reason 5 is among those that apply. -/
def State.updReasons (s : State) (probation : Bool) : Nat :=
  if s.tamperLatched then 2
  else if s.objN 0x1010 2 = 1 then 3
  else if s.batteryPoor then 4
  else if probation && Nat.ble 3 s.updState then 5
  else 0

/-- R421: is a manifest signed: its last 96 bytes over those before, under key slot 4? -/
def State.manifestSigned (s : State) (m : List Byte) : Bool :=
  let n := 64 * (manifestParts m + 1)
  decide (s.chainCheck 4 = .ok) && Config.ecdsaVerify ((s.slot 4).key.take 49) (m.take n) (slice m n 96)

/-- R423: the reason a MANIFEST is refused for, 0 where it is accepted. -/
def State.manifestReason (s : State) (m : List Byte) : Nat :=
  let r := s.updReasons true
  if r ≠ 0 then r
  else if !s.manifestSigned m then 6
  else if !s.manifestFormed m then 7
  else if manifestSeq m ≤ manifestSeq s.activeSet.manifest ∨ manifestSeq m = s.objN 0x2C00 0x0F then 8
  else if s.metrologyChange m && !s.sealOpen then 9
  else 0

/-! ## Staging -/

/-- The inactive bank. -/
def State.spareBank (s : State) : Nat := 1 - s.activeBankOf

/-- R427, R440: STAGE_PROGRESS shows each part's RECEIVED. -/
def State.stageShow (s : State) : State := s.setObj 0x2C00 4 ((s.bankSet s.spareBank).parts.flatMap (fun p => toLE 4 p.length))

/-- R425: an accepted manifest: the inactive bank erased, every RECEIVED 0, STAGING. -/
def State.manifestTake (s : State) (m : List Byte) : State :=
  let n := manifestParts m
  let s1 := (s.setBank s.spareBank { manifest := m, parts := List.replicate n [] }).setObj 0x2C00 2 m
  let s2 := ({ s1 with upd := { s1.upd with saved := List.replicate n 0 } }).setUpdState 1
  ((s2.wrN Reg.UPD_STAGED_SEQ (manifestSeq m)).updCount 0).stageShow

/-- R423, R425: a write of MANIFEST decided: its status and what it does. -/
def State.manifestWrite (s : State) (m : List Byte) : Nat × State :=
  let r := s.manifestReason m
  if r = 0 then (0, s.manifestTake m) else (reasonStatus r, s.updRefuse r)

/-- R427: the counts saved in the journal at each further 1 MiB. -/
def savedCounts (old : List Nat) (k received : Nat) : List Nat :=
  if received / 1048576 > old.getD k 0 / 1048576 then setAt old k received else old

/-- R426: are all parts of a set complete? -/
def setComplete (v : ImageSet) : Bool :=
  (upFrom 0 (manifestParts v.manifest)).all (fun k => Nat.beq (v.parts.getD k []).length (partLength v.manifest k))

/-- R426: data appended to a part: its digest is checked when it is whole, and the last part to pass makes the set STAGED. -/
def State.stageAppend (s : State) (k : Nat) (data : List Byte) : Nat × State :=
  let b := s.spareBank
  let v := s.bankSet b
  let part := v.parts.getD k [] ++ data
  let put (p : List Byte) : State := s.setBank b { v with parts := setAt v.parts k p }
  if part.length = partLength v.manifest k ∧ fit 48 (Config.sha384 part) ≠ partDigest v.manifest k then
    let s1 := put []
    let s2 := (({ s1 with upd := { s1.upd with saved := setAt s1.upd.saved k 0 } }).wrB Reg.UPD_INT_STAT 1 true).stageShow
    (reasonStatus 12, ((s2.record 0x15 5 k 0 0).updCount 2).updRefuse 12)
  else
    let s1 := put part
    let s2 := ({ s1 with upd := { s1.upd with saved := savedCounts s1.upd.saved k part.length } }).stageShow
    if setComplete (s2.bankSet b) then (0, (s2.setUpdState 2).wrB Reg.UPD_INT_STAT 0 true) else (0, s2)

/-- R426: a STAGE_BLOCK decided: PART, OFFSET and DATA. -/
def State.stageBlock (s : State) (v : List Byte) : Nat × State :=
  let k := leAt v 0 1
  let off := leAt v 4 4
  let data := v.drop 8
  let set := s.bankSet s.spareBank
  let got := (set.parts.getD k []).length
  let r := s.updReasons false
  if r ≠ 0 then (reasonStatus r, s.updRefuse r)
  else if !(Nat.beq s.updState 1 || Nat.beq s.updState 2) then (reasonStatus 10, s.updRefuse 10)
  else if manifestParts set.manifest ≤ k then (reasonStatus 11, s.updRefuse 11)
  else if off + data.length ≤ got then (0, s)
  else if off ≠ got ∨ partLength set.manifest k < off + data.length then (reasonStatus 11, s.updRefuse 11)
  else s.stageAppend k data

/-- R427: the staged counts as a power loss or a reset leaves them: RECEIVED resumes from the counts saved, but a staged set stays. -/
def State.stageResume (s : State) : State :=
  if s.updState = 1 then
    let b := s.spareBank
    let v := s.bankSet b
    (s.setBank b { v with parts := mapFrom (fun k (p : List Byte) => if Nat.beq p.length (partLength v.manifest k) then p
      else p.take (s.upd.saved.getD k 0)) 0 v.parts }).stageShow
  else s

/-- R427: RECEIVED saved at the power-fail flush. -/
def State.stageSave (s : State) : State :=
  { s with upd := { s.upd with saved := (s.bankSet s.spareBank).parts.map (fun (p : List Byte) => p.length) } }

/-- R425, R427: the staging is discarded. -/
def State.stageDiscard (s : State) : State :=
  let s1 := (s.setBank s.spareBank {}).setUpdState 0
  (({ s1 with upd := { s1.upd with saved := [] } }).wrN Reg.UPD_STAGED_SEQ 0).setObj 0x2C00 4 []

/-! ## The seal -/

/-- R428: the seal closes. -/
def State.sealShut (s : State) : State := ({ s with upd := { s.upd with sealUntil := none } }).wrB Reg.UPD_STATUS 4 false

/-- R428: SEAL_OPEN opens the seal for a number of minutes; 0 closes it. -/
def State.sealWrite (s : State) (minutes : Nat) : State :=
  if minutes = 0 then s.sealShut
  else ({ s with upd := { s.upd with sealUntil := some (s.eventTime + minutes * 60000000000) } }).wrB Reg.UPD_STATUS 4 true

/-- SEAL_CLOSE, R428: the end of the seal's time. -/
def execSealClose (t : Nat) (s : State) : Host.Outcome State Fault Refusal :=
  .next (
    let s0 := s.upTo t
    match s0.upd.sealUntil with
    | some e => if e ≤ s0.eventTime then s0.sealShut else s0
    | none => s0)

/-! ## Activation -/

/-- R433: the transports in service: the ring, the cabinet bus, the mailbox. -/
def State.transports (s : State) : List Bool :=
  [s.dict.sessions.any (fun e => decide (e.kind = .ring)), s.rdB (Reg.CAN_CTRL 0) 0 || s.rdB (Reg.CAN_CTRL 1) 0, s.rdB Reg.SYS_CORE3_CTRL 0]

/-- R85, R113, Table 3.10: is an object stored? An integrator object is where its declaration says so. -/
def State.persists (s : State) (k : Nat) : Bool :=
  match Obj.find (k / 256) (k % 256) with
  | some r => r.stored
  | none => s.dict.decls.any (fun (e : Nat × List Byte) => Nat.beq e.1 k && Nat.beq (leAt e.2 3 1) 1)

/-- R429, step 2: the stored objects. -/
def State.storedObjects (s : State) : List (Nat × List Byte) := s.objs.filter (fun (e : Nat × List Byte) => s.persists e.1)

/-- R429, step 3: metering stops as at a stop frame; LAST_OUTAGE and OUTAGES keep their values. Answers the bound of the partial cycle
in µWh, of the three phases together. -/
def State.activationStop (s : State) : Nat × State :=
  let s1 := s.mtrStop
  let r := s1.obj 0x2660 1
  let bound := if s.rdB Reg.MTR_CTRL 0 && !s.mtr.stopped then leAt r 24 4 + leAt r 28 4 + leAt r 32 4 else 0
  (bound, ({ s1 with mtr := { s1.mtr with outageOpen := s.mtr.outageOpen } }.setObj 0x2660 1 (s.obj 0x2660 1)).setObj 0x2660 2 (s.obj 0x2660 2))

/-- R423: the reason an ACTIVATE is refused for, 0 where it is accepted. -/
def State.activateReason (s : State) : Nat :=
  let r := s.updReasons true
  if r ≠ 0 then r
  else if (Nat.beq s.updState 1 || Nat.beq s.updState 2) && s.metrologyChange (s.bankSet s.spareBank).manifest && !s.sealOpen then 9
  else if s.updState ≠ 2 then 10
  else 0

/-- R429: an accepted ACTIVATE: the journal, the snapshot, metering's stop, the flush, and the reset into the new bank. -/
def State.activate (s : State) : State :=
  let m := (s.bankSet s.spareBank).manifest
  let s1 := s.setUpdState 3
  let s2 := { s1 with upd := { s1.upd with snapshot := s1.storedObjects, preHoist := s.rd Reg.SUP_HOIST, preTransports := s.transports,
                                           preLinks := [s.linked 0, s.linked 1], elapsedSaved := 0, countingSince := none } }
  let b := s2.activationStop
  let s3 := ((b.2.wrF Reg.UPD_PROB_LIMIT 15 0 (s.objN 0x2C00 7)).wrN Reg.UPD_PROB_ELAPSED 0).wrF Reg.UPD_STATUS 15 8 0
  let s4 := ((s3.wrN Reg.UPD_ACTIVE_SEQ (manifestSeq m)).updCount 3).record 0x15 1 0 (manifestSeq m) b.1
  let s5 := if s.metrologyChange m then s4.record 0x15 6 0 (partVersion s.activeSet.manifest 7) (partVersion m 7) else s4
  let s6 := s5.flushLog.moduleReset 4
  { s6 with mode := { s6.mode with reason := 0x11 } }

/-- R423, R429: a write of ACTIVATE decided. -/
def State.activateWrite (s : State) : Nat × State :=
  let r := s.activateReason
  if r = 0 then (0, s.activate) else (reasonStatus r, s.updRefuse r)

/-! ## Probation -/

/-- R432: UPD_PROB_ELAPSED: the count saved and the whole seconds since it began to run. -/
def State.probElapsed (s : State) : Nat :=
  match s.upd.countingSince with
  | some a => s.upd.elapsedSaved + (s.time.now - a) / 1000000000
  | none => s.upd.elapsedSaved

/-- R432: the count saved in the journal; it runs on from there. -/
def State.probSave (s : State) : State :=
  let e := s.probElapsed
  let run := s.upd.countingSince.map (fun a => a + (e - s.upd.elapsedSaved) * 1000000000)
  ({ s with upd := { s.upd with elapsedSaved := e, countingSince := run } }).wrF Reg.UPD_PROB_ELAPSED 15 0 e

/-- R432: the count begins to run, or stops. -/
def State.probRun (s : State) (on : Bool) : State :=
  let s1 := s.probSave
  { s1 with upd := { s1.upd with countingSince := if on && Nat.beq s.updState 4 then some s.time.now else none } }

/-- PROBATION_SAVE, R432: every 10 s the count is saved in the journal. -/
def execProbationSave (t : Nat) (s : State) : Host.Outcome State Fault Refusal :=
  .next (if s.updState = 4 then (s.upTo t).probSave else s.upTo t)

/-- R434: the objects whose larger value a fallback keeps: OWNER_COUNTER, SEAL_COUNTER, the cards' ENROL, RX and TX counters and the
peripherals' ANNOUNCE_COUNTER. -/
def counterKey (k : Nat) : Bool :=
  let i := k / 256
  let b := k % 256
  Nat.beq k (Obj.key 0x1010 3) || Nat.beq k (Obj.key 0x1011 2) ||
    (Nat.ble 0x6000 i && Nat.blt i 0x7000 && (Nat.beq b 0x0D || Nat.beq b 0x0E || Nat.beq b 0x0F)) ||
    (Nat.ble 0x2710 i && Nat.blt i 0x2800 && Nat.beq b 8)

/-- R434: the objects a fallback leaves: the metering state, the calibration state and the journal's state, manifest, progress, set and
rejected sequence. -/
def keptKey (k : Nat) : Bool :=
  let i := k / 256
  let b := k % 256
  Nat.beq i 0x2610 || Nat.beq i 0x2612 || Nat.beq i 0x2640 || Nat.beq i 0x2660 || (Nat.beq i 0x2C00 && [1, 2, 4, 0x0E, 0x0F].contains b) || Nat.beq k (Obj.key 0x2A00 1) ||
    (Nat.ble 0x2A20 i && Nat.blt i 0x2A30)

/-- R434, step 2: the persistent dictionary region restored from the snapshot, counters keeping their larger value. -/
def State.restoreSnapshot (s : State) : State :=
  let keys := s.objs.map (fun (e : Nat × List Byte) => e.1) ++ s.upd.snapshot.map (fun (e : Nat × List Byte) => e.1)
  keys.foldl (fun (t : State) k =>
    let old := Sparse.get Obj.default s.upd.snapshot k
    let now := Sparse.get Obj.default s.objs k
    let v := if keptKey k then now else if counterKey k && Nat.ble (fromLE old) (fromLE now) then now else old
    { t with objs := Sparse.set Obj.default t.objs k v }) s

/-- The running set's bank: the new one while a set is on probation, else the active one. -/
def State.runningBank (s : State) : Nat := if Nat.ble 3 s.updState then s.spareBank else s.activeBankOf

/-- R434: the module falls back: 0 expiry, 1 fault start, 2 fourth start, 3 abort. -/
def State.fallBack (s : State) (cause : Nat) : State :=
  let seq := manifestSeq (s.bankSet s.spareBank).manifest
  let s1 := ((s.setUpdState 5).setObjN 0x2C00 0x0F 4 seq).restoreSnapshot
  let s2 := (((s1.record 0x15 4 cause seq 0).updCount 5).wrB Reg.UPD_INT_STAT 3 true).sealShut
  let s3 := (s2.setUpdState 0).wrN Reg.UPD_ACTIVE_SEQ (manifestSeq s2.activeSet.manifest)
  let s4 := { s3 with upd := { s3.upd with countingSince := none, integratorOk := false } }
  let s5 := s4.flushLog.moduleReset 5
  { s5 with mode := { s5.mode with reason := 0x13 } }

/-- PROBATION_EXPIRY, R434: the count reaches the limit without a confirmation. -/
def execProbationExpiry (t : Nat) (s : State) : Host.Outcome State Fault Refusal :=
  .next (
    let s0 := s.upTo t
    if s0.updState = 4 ∧ s0.rdF Reg.UPD_PROB_LIMIT 15 0 ≤ s0.probElapsed then s0.fallBack 0 else s0)

/-- R433, conditions 1 to 7, as far as the state shows them. -/
def State.healthy (s : State) : Bool :=
  let u := s.upd
  let implies (a b : Bool) : Bool := !a || b
  !s.aon.inReset && !s.aon.appOff &&
    (List.zipWith implies u.preTransports s.transports).all id &&
    (upFrom 0 4).all (fun n => implies (s.rdB (Reg.MAC_CTRL n) 0) (Nat.ble 3 (u.macRuns.getD n 0) && !s.rdB (Reg.MAC_STATUS n) 4)) &&
    implies (s.rdB Reg.CTL_CTRL 0) (Nat.ble 100 u.ctlRun) && implies (s.rdB Reg.MTR_CTRL 0) u.latched &&
    (List.zipWith implies u.preLinks [s.linked 0, s.linked 1]).all id &&
    decide (s.rd Reg.SUP_HOIST &&& ~~~u.preHoist = 0) && implies (Nat.beq (s.objN 0x2C00 8) 1) u.integratorOk

/-- R440: ACTIVE_SET: SEQUENCE, the bank, and the versions of entries 0 to 7. -/
def State.activeShow (s : State) : State :=
  let m := s.activeSet.manifest
  s.setObj 0x2C00 0x0E (toLE 4 (manifestSeq m) ++ toLE 1 s.activeBankOf ++ [0, 0, 0] ++ (upFrom 0 8).flatMap (fun k => toLE 4 (partVersion m k)) ++
    List.replicate 8 0)

/-- R433: a confirmation taken: the new bank becomes the active bank. -/
def State.confirm (s : State) : State :=
  let s1 := (s.wrB Reg.UPD_STATUS 3 (Nat.beq s.spareBank 1)).setUpdState 0
  let s2 := ((({ s1 with upd := { s1.upd with countingSince := none, transfers := [], released := [] } }).activeShow).wrB Reg.UPD_INT_STAT 2 true).sealShut
  ((s2.wrN Reg.UPD_STAGED_SEQ 0).updCount 4).record 0x15 3 0 (s.rd Reg.UPD_ACTIVE_SEQ).toNat 0

/-- R433, R435: a write of UPD_CONFIRM counts while STATE is PROBATION and it equals UPD_ACTIVE_SEQ; any other is ignored. -/
def State.confirmWrite (s : State) (v : Word) : State :=
  if s.updState = 4 ∧ v = s.rd Reg.UPD_ACTIVE_SEQ then s.confirm else s

/-- CONFIRM, R433: resident firmware confirms its health: it writes SEQUENCE only when every condition holds on the new set. -/
def execConfirmSet (ini : Initiator) (v : Word) (s : State) : Host.Outcome State Fault Refusal :=
  .next (s.permGate ini Reg.UPD_CONFIRM true (fun t => t.reservedTo ini ini.resident Reg.UPD_CONFIRM (fun u =>
    (if u.healthy then u.confirmWrite v else u).answer 0)))

/-- R427, R434: a write of 1 to ABORT: a fallback during probation, else staging is discarded. -/
def State.abortWrite (s : State) : State :=
  if s.updState = 4 then s.fallBack 3 else if s.updState = 1 ∨ s.updState = 2 then s.stageDiscard else s

/-- R433: INTEGRATOR_HEALTH written 1 by core 3. -/
def State.integratorHealthy (s : State) (core3 : Bool) : State :=
  if core3 then { s with upd := { s.upd with integratorOk := true } } else s

/-- R439: LANTERN_ACTIVATE names a class whose VERIFIED lanterns may be activated. -/
def State.lanternRelease (s : State) (cls : Nat) : State :=
  { s with upd := { s.upd with released := s.upd.released.filter (fun c => !(Nat.beq c cls)) ++ [cls] } }

end Sys2Proof.Machine
end

