-- ==== Sys2Proof/Machine/Fault.lean ====
section
/-! DEFINITION. Fault detection and its reactions, the watchdogs, the hoist's remaining sources, and the drill unit (R457 to R472, R504). -/

namespace Sys2Proof.Machine

/-! ## Reactions -/

/-- R467: a fault whose reaction is a module reset: its flag is raised, the raising is recorded after the start, and the reset takes effect. -/
def State.resetOn (s : State) (f cause : Nat) : State :=
  let s1 := if s.rdB Reg.SUP_HOIST f then s
    else { s.wrB Reg.SUP_HOIST f true with fault := { s.fault with raisedDue := s.fault.raisedDue ++ [f] } }
  s1.moduleReset cause

/-- R472: a detection whose reaction is a module reset, or the marking in its place. -/
def State.reactReset (s : State) (f cause : Nat) (marked : Bool) : State :=
  if marked then s.raiseWith f false true else s.resetOn f cause

/-- R24, R459: a detection whose reaction is a restart of core 3, or the marking in its place. -/
def State.reactCore3 (s : State) (f : Nat) (marked : Bool) : State :=
  if marked then s.raiseWith f false true
  else
    let s1 := s.raise f
    if s1.rdB Reg.SYS_CORE3_CTRL 0 then s1.core3Restart else s1

/-- Does the supervisor run, so that its mechanisms detect? -/
def State.detects (s : State) : Bool := !s.aon.inReset

/-- R460: core c's retirement checker finds a mismatch. -/
def State.retireFail (s : State) (c : Nat) (marked : Bool) : State :=
  if Nat.beq c 3 then s.reactCore3 4 marked else s.reactReset 3 7 marked

/-- LOCKSTEP_MISMATCH, R459, R467. -/
def State.lockstepFail (s : State) (marked : Bool) : State := (s.faultCount 2).reactReset 0 7 marked

def execLockstepMismatch (s : State) : Host.Outcome State Fault Refusal := .next (if s.detects then s.lockstepFail false else s)

/-- Does core c of the application cluster run? -/
def State.coreRuns (s : State) (c : Nat) : Bool := if Nat.beq c 3 then s.rdB Reg.SYS_CORE3_CTRL 0 else s.coresRun

/-- RETIREMENT_MISMATCH, R460. -/
def execRetirementMismatch (c : Fin 4) (s : State) : Host.Outcome State Fault Refusal :=
  .next (if s.coreRuns c.val then s.retireFail c.val false else s)

/-- REGISTER_PARITY_ERROR, Table 17.1. -/
def execRegisterParityError (s : State) : Host.Outcome State Fault Refusal := .next (if s.detects then s.resetOn 6 7 else s)

/-- RAIL_FAULT, Table 17.1: a rail is also a rating of R458. -/
def execRailFault (s : State) : Host.Outcome State Fault Refusal := .next (if s.detects then s.ratingOut.resetOn 11 7 else s)

/-- TIME_CHECK_MISMATCH, Table 17.1. -/
def execTimeCheckMismatch (s : State) : Host.Outcome State Fault Refusal := .next (if s.detects then s.resetOn 13 7 else s)

/-- FABRIC_ECC_ERROR, Table 17.1: the initiator of the transfer takes an error response. -/
def execFabricEccError (ini : Initiator) (s : State) : Host.Outcome State Fault Refusal :=
  .next (if s.detects then (s.raise 30).refuse ini else s)

/-! ## Flags whose condition can last -/

/-- R465: a flag follows its condition: raised while it holds, and no longer active once it does not. -/
def State.follow (s : State) (f : Nat) (holds : Bool) : State := if holds then s.raiseActive f else s.unhold f

/-- CLOCK_RATE_ERROR, Table 17.1: FAB against AON over an RTC second, in ppm. -/
def execClockRateError (ppm : Int) (s : State) : Host.Outcome State Fault Refusal :=
  .next (if s.detects && s.aonTakes then s.follow 9 (Nat.blt 100 ppm.natAbs) else s)

/-- TRIG_READBACK_MISMATCH, Table 17.1: the pads of TRIG0 to TRIG7 that have differed from their driven state for 10 ns. -/
def execTrigReadbackMismatch (pads : BitVec 8) (s : State) : Host.Outcome State Fault Refusal :=
  .next (if s.detects then s.follow 14 (decide (pads ≠ 0)) else s)

/-- R490: a contactor output's reading: energised from 20 mA, de-energised below 2 mA, else as it was. -/
def sensedBit (was : Bool) (ma : Nat) : Bool := if Nat.ble 20 ma then true else if Nat.blt ma 2 then false else was

/-- R490: the four readings at the currents in the drivers, in mA. -/
def State.sense (s : State) (l : List Nat) : Nat :=
  (mapFrom (fun k ma => b2n (sensedBit (Nat.testBit s.aon.sensed k) ma) * 2 ^ k) 0 l).foldl (fun a b => a + b) 0

/-- CONT_READBACK, R463, R470: the sensed outputs have stood for 10 ms; they are compared with OUT, or with the override while
SUP_CONT_FORCE.ON is 1. The outputs stay as AON drives them. -/
def execContReadback (ma0 ma1 ma2 ma3 : Nat) (s : State) : Host.Outcome State Fault Refusal :=
  .next (
    if s.detects then
      let s1 := { s with aon := { s.aon with sensed := s.sense [ma0, ma1, ma2, ma3] } }
      let want := if s.rdB Reg.SUP_CONT_FORCE 0 then (if s.aon.comparator then 15 else 0) else s.rdF Reg.AON_CONT_STAT 3 0
      s1.follow 7 (!(Nat.beq s1.aon.sensed want))
    else s)

/-- R465: a die sensor's state, in 0.01 °C: hot above 125 °C, until it reads 115 °C or less. -/
def hotNow (was : Bool) (t : Int) : Bool := if 12500 < t then true else if t ≤ 11500 then false else was

/-- OVERTEMP, R458, R465: the die sensors of the supervisor and the application cluster are read, in 0.01 °C. -/
def execOvertemp (sup app : BitVec 16) (s : State) : Host.Outcome State Fault Refusal :=
  .next (
    if s.detects then
      let hot := [hotNow (s.fault.hot.getD 0 false) sup.toInt, hotNow (s.fault.hot.getD 1 false) app.toInt]
      let s1 := { s with fault := { s.fault with hot := hot } }
      let out (t : Int) : Bool := decide (t < -4500) || decide (12500 < t)
      (if out sup.toInt || out app.toInt then s1.ratingOut else s1).follow 12 (hot.any id)
    else s)

/-! ## RAM errors -/

/-- R472, R504: is the word one that the drill unit corrupted, in DRILL? -/
def State.eccMarked (s : State) (addr : Nat) (l2 two : Bool) : Bool :=
  s.inDrill && s.fault.corruptWords.contains (addr / 16 * 16, l2, two)

/-- R462: the address of the first two-bit error is held until ECC_UNCORR is cleared. -/
def State.eccAddr (s : State) (addr : Nat) : State :=
  if s.rdB Reg.SUP_ECC_ADDR_HI 31 then s
  else (s.wrN Reg.SUP_ECC_ADDR_LO (addr % 2 ^ 32)).wrN Reg.SUP_ECC_ADDR_HI (addr / 2 ^ 32 % 256 + 2 ^ 31)

/-- R462: a one-bit error is corrected and written back. -/
def State.eccOne (s : State) (addr : Nat) (l2 : Bool) : State :=
  let f := s.fault
  (({ s with fault := { f with corruptWords := f.corruptWords.filter (fun (e : Nat × Bool × Bool) => !(decide (e = (addr / 16 * 16, l2, false)))) } }).bump
    Reg.SUP_ECC_CORR 1).faultCount 0

/-- R462, R464: a two-bit error: an error response to its initiator, ECC_UNCORR, and the reaction of the failing word's region: core 3
restarted, the descriptor concerned returned with BUS_ERROR, or a module reset. -/
def State.eccTwo (s : State) (ini : Initiator) (addr : Nat) (l2 : Option (Fin 16)) (desc : Option (Fin 16 × Nat × Nat)) (marked : Bool) : State :=
  let s1 := ((s.eccAddr addr).faultCount 1).refuse ini
  let ways : Bool := match l2 with
    | some w => Nat.ble 12 w.val
    | none => false
  if ways || (l2.isNone && decide (regionOf addr = .integrator)) then s1.reactCore3 5 marked
  else if l2.isNone && decide (regionOf addr = .packet) then
    let s2 := s1.raiseWith 5 false marked
    match desc with
    | some d => s2.beatFail d.1.val d.2.1 d.2.2
    | none => s2
  else s1.reactReset 5 7 marked

/-- ECC_ERROR, R462: an access or the scrub meets a word with one or two wrong bits, in memory or in a way of the L2; `desc` names the DMA
channel whose descriptor is concerned, the beat's offset and the bytes issued. -/
def execEccError (ini : Initiator) (addr : Nat) (l2 : Option (Fin 16)) (two : Bool) (desc : Option (Fin 16 × Nat × Nat)) (s : State) :
    Host.Outcome State Fault Refusal :=
  .next (
    if s.aon.asleep then s
    else if two then s.eccTwo ini addr l2 desc (s.eccMarked addr l2.isSome true) else s.eccOne addr l2.isSome)

/-- SCRUB_PASS, Table 17.1: the scrub of DRAM (0), MRAM (1) or TCM and L2 (2) has gone through a percentage of its pass. -/
def execScrubPass (m : Fin 3) (progress : Fin 101) (s : State) : Host.Outcome State Fault Refusal :=
  .next (
    let a := Reg.SUP_SCRUB m.val
    if s.aon.asleep then s
    else if Nat.beq progress.val 100 then (s.wrF a 15 0 (min 65535 (s.rdF a 15 0 + 1))).wrF a 22 16 0 else s.wrF a 22 16 progress.val)

/-! ## Clocks and queues -/

/-- R36, R463: a controller that stops is on no bus, and the frames its queue held are discarded. -/
def State.canStop (s : State) (b : Nat) : State :=
  let s1 := (s.bellMaster b none false).wrB (Reg.CAN_STATUS b) 3 false
  s1.setCtl b { s1.ctl_ b with held := [] }

/-- R277, R463: the samples of an input without its clock are invalid. -/
def State.inputBad (s : State) (n : Nat) : State :=
  { s with mtr := { s.mtr with inputs := setAt s.mtr.inputs n { s.mtrIn n with bad := true } } }

/-- R463: the reaction to a lost clock, by its domain. -/
def State.clockReact (s : State) (d : Domain) : State :=
  match d with
  | .fab | .time => s
  | .netA => s.linkSet 0 false
  | .netB => s.linkSet 1 false
  | .rad _ => s.raiseActive 18
  | .mod n => s.inputBad n.val
  | .canf => ((s.canStop 0).canStop 1).raiseActive 28
  | .aon =>
    let kept := s.regs.filter (fun (e : Nat × Word) => Nat.beq (Reg.slotOf e.1) 1)
    let s1 := { s with aon := { s.aon with aonClockLost := true, clockBackSince := none, copy := kept } }
    if s.aon.supRunning then s1.wrB Reg.SUP_CONT_FORCE 0 true else s1

/-- R26, R36, R463: an unrelated clock is declared lost: its bit clears, its queues are held and discarded, and its domain's reaction follows. -/
def State.clockLose (s : State) (d : Domain) : State :=
  match monBit d with
  | none => (s.faultCount 5).resetOn 8 7
  | some b =>
    if !s.rdB Reg.SYS_CLKMON b then s
    else
      let s1 := ((s.wrB Reg.SYS_CLKMON b false).queuesHold d).faultCount 5
      if d = .time then s1.resetOn 8 7
      else (({ s1 with fault := { s1.fault with lost := s1.fault.lost ++ [b] } }).raiseActive 8).clockReact d

/-- CLOCK_LOST, R463; `rx` and `tx` say whether a frame was being received or sent on the ring port whose clock it is (R335). -/
def execClockLost (d : Domain) (rx tx : Bool) (s : State) : Host.Outcome State Fault Refusal :=
  .next (if s.detects then
      (match d with
        | .netA => s.linkCut 0 rx tx
        | .netB => s.linkCut 1 rx tx
        | _ => s).clockLose d
    else s)

/-- R463: what follows when a domain's clock runs again. -/
def State.clockBack (s : State) (d : Domain) : State :=
  match d with
  | .rad _ => s.radioHold
  | .canf =>
    let join (t : State) (b : Nat) : State := t.setCtl b { t.ctl_ b with enabledAt := t.time.now }
    let s1 := join (join s 0) 1
    if s1.rdF (Reg.CAN_STATUS 0) 1 0 = 2 ∨ s1.rdF (Reg.CAN_STATUS 1) 1 0 = 2 then s1 else s1.unhold 28
  | .aon => { s with aon := { s.aon with aonClockLost := false, clockBackSince := some s.eventTime } }
  | _ => s

/-- R25, Table 1.21: does a domain exist? Only a self-clocked input forms a MODn domain. -/
def State.domainExists (s : State) (d : Domain) : Bool :=
  match d with
  | .mod n => s.selfClocked n.val
  | _ => true

/-- CLOCK_RESTORED, R26, R36: the bit sets again and the domain's queues are released. A bit that an injection forced to 0 only sets again
(R472). -/
def execClockRestored (d : Domain) (s : State) : Host.Outcome State Fault Refusal :=
  .next (
    match monBit d with
    | none => s
    | some b =>
      if s.aon.inReset || s.rdB Reg.SYS_CLKMON b || !s.domainExists d then s
      else
        let s1 := s.wrB Reg.SYS_CLKMON b true
        if s.fault.lost.contains b then
          let s2 := { s1 with fault := { s1.fault with lost := s1.fault.lost.filter (fun (k : Nat) => !(Nat.beq k b)) } }
          let s3 := if s2.fault.lost.isEmpty then s2.unhold 8 else s2
          (s3.queuesBack d).clockBack d
        else s1.queuesBack d)

/-- R34: a queue's SYS_QFAULT bit. -/
def State.qfault (s : State) (q : Nat) : State :=
  if Nat.blt q 32 then s.wrB Reg.SYS_QFAULT_LO q true else s.wrB Reg.SYS_QFAULT_HI (q - 32) true

/-- R34, R36: a Gray pointer of a queue fails its parity: the queue is held and discarded, and released as its clocks run (R35); an injected
fault is marked instead (R472). -/
def State.qparity (s : State) (q : Nat) (marked : Bool) : State :=
  let s1 := (s.qfault q).raiseWith 10 false marked
  if marked then s1
  else
    let d := (s1.queue q).holdReset
    s1.setQueue q (if s1.queueReleasable q then d.release else d)

/-- QPTR_PARITY_MISMATCH, R34. -/
def execQptrParityMismatch (q : Fin 34) (s : State) : Host.Outcome State Fault Refusal :=
  .next (if s.detects && s.queueExists q.val then s.qparity q.val false else s)

/-! ## Watchdogs -/

/-- Table 17.3: the flag of a watchdog: 0 the supervisor's window, 1 to 3 cores 0 to 2, 4 to 7 the stall monitors of cores 0 to 3. -/
def watchdogFlag (w : Nat) : Nat := if w = 0 then 1 else if w ≤ 3 then 2 else if w ≤ 6 then 3 else 4

/-- R469: is a watchdog armed: does its core run? -/
def State.watchdogArmed (s : State) (w : Nat) : Bool :=
  if w = 0 then s.aon.supRunning else if w ≤ 3 then s.coresRun else s.coreRuns (w - 4)

/-- R467, R469, Table 17.3: an expiry of a watchdog or a stall monitor. -/
def State.watchdogExpire (s : State) (w : Nat) (marked : Bool) : State :=
  let s1 := s.faultCount 3
  if w = 7 then s1.reactCore3 4 marked else s1.reactReset (watchdogFlag w) 3 marked

/-- WATCHDOG_EXPIRY, R469: no kick within the limit. -/
def execWatchdogExpiry (w : Fin 4) (s : State) : Host.Outcome State Fault Refusal :=
  .next (if s.watchdogArmed w.val then s.watchdogExpire w.val false else s)

/-- CORE_STALL, R460: a core has for 10 ms neither retired an instruction nor waited for an interrupt. -/
def execCoreStall (c : Fin 4) (s : State) : Host.Outcome State Fault Refusal :=
  .next (if s.watchdogArmed (4 + c.val) then s.watchdogExpire (4 + c.val) false else s)

/-- R478: the core that a kick register serves. -/
def kicker (c : Nat) : Initiator := match c with
  | 0 => .sup
  | 1 => .app0
  | 2 => .app1
  | _ => .app2

/-- R469: a kick is 0x5A or 0xA5 that differs from the previous kick; `cycles` are the FAB cycles since that one. The supervisor's earlier than
2 ms is an expiry, and one later than 10 ms of any watchdog comes after its expiry. -/
def State.kick (s : State) (c : Nat) (v : Word) (cycles : Nat) : State :=
  let b := BitVec.ofNat 8 v.toNat
  let last := (s.fault.kicks.getD c none).map (fun (e : Byte × Ns) => e.1)
  if (b = 0x5A ∨ b = 0xA5) ∧ last ≠ some b then
    let s1 := { s with fault := { s.fault with kicks := setAt s.fault.kicks c (some (b, s.eventTime)) } }
    if last.isSome = true ∧ ((c = 0 ∧ cycles < 1600000) ∨ 8000000 < cycles) then s1.watchdogExpire c false else s1
  else s

/-- WATCHDOG_KICK, R469, R478: a write of SUP_WDT_KICK_c. -/
def execWatchdogKick (ini : Initiator) (c : Fin 4) (v : Word) (cycles : Nat) (s : State) : Host.Outcome State Fault Refusal :=
  .next (s.permGate ini (Reg.SUP_WDT_KICK c.val) true (fun t =>
    t.reservedTo ini (decide (ini = kicker c.val)) (Reg.SUP_WDT_KICK c.val) (fun u => (u.kick c.val v cycles).answer 0)))

/-! ## CTL -/

/-- R461: a lane's residue differs at the end of a stage: the sample is abandoned as a missed one. -/
def State.residueFail (s : State) (marked : Bool) : State := (s.ctlMiss).raiseWith 16 false marked

/-- CTL_RESIDUE_MISMATCH, R461: in the sample in progress; an injection that waits for a sample is the cause where one stands (R472). -/
def execCtlResidueMismatch (s : State) : Host.Outcome State Fault Refusal :=
  .next (
    if s.ctl.sample.isSome then
      let inj := s.rdB Reg.DRL_INJECT 31 && Nat.beq (s.rdF Reg.DRL_INJECT 3 0) 8
      (if inj then s.wrB Reg.DRL_INJECT 31 false else s).residueFail (inj && s.inDrill)
    else s)

end Sys2Proof.Machine
end

