-- ==== Sys2Proof/Machine/Drill.lean ====
section
/-! DEFINITION. The drill unit: its registers, their limits by mode, the perturbations and the injections (R56, R471, R472, R479, R504). -/

namespace Sys2Proof.Machine

/-! ## Limits -/

/-- R471: DRILL in force. -/
def State.drillFull (s : State) : Bool := s.inDrill

/-- R471: DAY with LIVE_DRILL_EN. -/
def State.drillLive (s : State) : Bool := decide (s.mode.mode = .day) && Nat.beq (s.objN 0x2E00 6) 1

/-- R504: the address of the injection. -/
def State.injectAddr (s : State) : Nat := (s.rd Reg.DRL_INJECT_ADDR_LO).toNat + s.rdF Reg.DRL_INJECT_ADDR_HI 7 0 * 2 ^ 32

/-- Table 17.11: the KINDs, and the TARGETs of each. -/
def injectTarget (kind target : Nat) : Bool :=
  match kind with
  | 1 | 2 => Nat.ble target 1
  | 4 => Nat.ble target 18
  | 5 => Nat.ble target 33
  | 7 => Nat.ble target 3
  | 9 => Nat.ble target 7
  | 10 => Nat.ble target 23
  | 3 | 6 | 8 | 11 | 12 => Nat.beq target 0
  | _ => false

/-- R471: does a write hold something other than 0 in a field that sets a perturbation? The addresses set none by themselves. -/
def drlPerturbs (off : Nat) (v : Word) : Bool :=
  match off with
  | 0x10 => bit v 31 || !(Nat.beq (fld v 23 8) 0)
  | 0x14 => !(Nat.beq (fld v 10 8) 0)
  | 0x20 | 0x24 | 0x28 | 0x2C => decide (v ≠ 0)
  | 0x30 => bit v 31 || !(Nat.beq (fld v 3 0) 0)
  | 0x40 => !(Nat.beq (fld v 19 8) 0)
  | 0x50 => bit v 0
  | _ => false

/-- Table 17.5: is a perturbing write within the limits of the mode in force? -/
def State.drlWithin (s : State) (off : Nat) (v : Word) : Bool :=
  let full := s.drillFull
  let live := s.drillLive
  match off with
  | 0x10 =>
    let q := fld v 5 0
    let n := fld v 23 8
    Nat.ble 1 n && ((full && Nat.ble q 33) || (live && (Nat.ble q 11 || (Nat.ble 24 q && Nat.ble q 27)) && Nat.ble n 256))
  | 0x14 =>
    let t := fld v 7 0
    full && (Nat.ble t 33 || (Nat.ble 64 t && Nat.ble t 97) || (Nat.ble 128 t && Nat.ble t 146))
  | 0x20 | 0x24 | 0x28 | 0x2C =>
    let o := (sx 16 (fld v 15 0)).natAbs
    let n := (off - 0x20) / 4
    (full && Nat.ble o 2000) ||
      (live && Nat.ble o 250 && Nat.ble (fld v 31 16) 4096 && (upFrom 0 4).all (fun k => Nat.beq k n || decide (s.rd (Reg.DRL_RADIO k) = 0)))
  | 0x30 =>
    let k := fld v 3 0
    let t := fld v 11 4
    if bit v 31 then injectTarget k t && (full || (live && Nat.beq k 1 && decide (regionOf s.injectAddr ≠ .supervisor)))
    else (full && Nat.ble k 12) || (live && Nat.beq k 1)
  | 0x40 => full || (live && Nat.ble 12 (fld v 3 0) && Nat.ble (fld v 19 8) 64)
  | 0x50 => full
  | _ => full || live

/-! ## Stalls and clearing -/

/-- R471: a stall of queue q's write side (0) or read side (1) begins. -/
def State.stallBegin (s : State) (q side : Nat) : State :=
  let d := s.queue q
  s.setQueue q (if side = 0 then { d with stallWrite := true } else { d with stallRead := true })

/-- R471: the stall in progress ends, and GO clears; frames a stalled CAN queue held go on. -/
def State.stallEnd (s : State) : State :=
  if s.rdB Reg.DRL_QSTALL 31 then
    let s1 := { s with sys := { s.sys with queues := mapFrom (fun q (d : DQueue) => d.unstall (queueLog q)) 0 s.sys.queues } }
    let s2 := s1.setQueue 22 ((s1.queue 22).seeWrites 4 16)
    ((s2.wrB Reg.DRL_QSTALL 31 false).canDrain 0).canDrain 1
  else s

/-- R471: every setting cleared: what is in progress ends, and a fallback check is abandoned with DONE = 0. -/
def State.drlSettingsClear (s : State) : State :=
  let s1 := s.stallEnd
  let s2 := ([Reg.DRL_QSTALL, Reg.DRL_SYNC, Reg.DRL_RADIO 0, Reg.DRL_RADIO 1, Reg.DRL_RADIO 2, Reg.DRL_RADIO 3, Reg.DRL_INJECT,
    Reg.DRL_INJECT_ADDR_LO, Reg.DRL_INJECT_ADDR_HI, Reg.DRL_DMA]).foldl (fun (t : State) a => t.wr a 0) s1
  let s3 := if s2.rdB Reg.DRL_AON_TEST 0 then (s2.wrB Reg.DRL_AON_TEST 0 false).wrB Reg.DRL_AON_TEST 5 false else s2
  { s3 with fault := { s3.fault with errorAddr := none } }

/-- R56, R471: the settings end with the mode that admitted them, EN with them. -/
def State.drlEnd (s : State) : State := s.drlSettingsClear.wrB Reg.DRL_CTRL 0 false

/-- R471: the settings end where neither DRILL nor live drill admits them. -/
def State.drlMode (s : State) : State := if s.drillFull || s.drillLive then s else s.drlEnd

/-! ## Injections -/

/-- Table 1.21: the domain of a SYS_CLKMON bit. -/
def monDomain (b : Nat) : Domain :=
  match b with
  | 0 => .time
  | 1 => .netA
  | 2 => .netB
  | 17 => .canf
  | 18 => .aon
  | _ => if b ≤ 6 then .rad (Fin.ofNat 4 (b - 3)) else .mod (Fin.ofNat 10 (b - 7))

/-- R472: an injection of a KIND with its TARGET and address takes its fault's path through detection. A CTL residue waits for a sample. -/
def State.inject (s : State) (kind target addr : Nat) : State :=
  let s1 := s.bump Reg.DRL_COUNT 1
  let m := s.inDrill
  match kind with
  | 1 | 2 => { s1 with fault := { s1.fault with corruptWords := s1.fault.corruptWords ++ [(addr / 16 * 16, Nat.beq target 1, Nat.beq kind 2)] } }
  | 3 => s1.lockstepFail m
  | 4 => if s1.rdB Reg.SYS_CLKMON target then ((s1.wrB Reg.SYS_CLKMON target false).faultCount 5).raiseWith 8 false m else s1
  | 5 => if s1.queueExists target then s1.qparity target m else s1
  | 6 => { s1 with fault := { s1.fault with errorAddr := some (addr / 16 * 16) } }
  | 7 => if s1.coreRuns target then s1.retireFail target m else s1
  | 8 => s1.residueFail m
  | 9 => if s1.watchdogArmed target then s1.watchdogExpire target m else s1
  | 10 => s1.snkTrip target m
  | 11 => s1.trngFail false m
  | 12 => s1.reactReset 13 7 m
  | _ => s1

/-- R471, R472: an accepted write of DRL_INJECT: with GO the fault is injected once, and GO clears; a CTL residue keeps GO until a sample is
in progress. -/
def State.injectWrite (s : State) (v : Word) : State :=
  let s1 := s.wr Reg.DRL_INJECT (v &&& 0xFFF)
  if bit v 31 then
    if fld v 3 0 = 8 ∧ s.ctl.sample = none then s1.wrB Reg.DRL_INJECT 31 true else s1.inject (fld v 3 0) (fld v 11 4) s.injectAddr
  else s1

/-! ## Writes -/

/-- R471: a refused write. -/
def State.drlRefuse (s : State) : Bool × State := (true, s.wrB Reg.DRL_STATUS 3 true)

/-- R471: an accepted write of DRL_QSTALL: with GO the stall begins, an earlier one ending. -/
def State.stallWrite (s : State) (v : Word) : State :=
  if bit v 31 then (s.stallEnd.wr Reg.DRL_QSTALL (v &&& 0x80FFFF7F)).stallBegin (fld v 5 0) (fld v 6 6)
  else s.wr Reg.DRL_QSTALL ((v &&& 0x00FFFF7F) ||| (s.rd Reg.DRL_QSTALL &&& 0x80000000))

/-- R471: a write of DRL_CTRL: CLEAR clears every setting in every mode; EN is a setting, and clearing it clears every other. -/
def State.drlCtrl (s : State) (v : Word) : Bool × State :=
  let may := s.drillFull || s.drillLive
  if bit v 1 then (false, s.drlSettingsClear.wrB Reg.DRL_CTRL 0 (bit v 0 && may))
  else if bit v 0 then (if may then (false, s.wrB Reg.DRL_CTRL 0 true) else s.drlRefuse)
  else if s.rdB Reg.DRL_CTRL 0 then (false, s.drlEnd) else (false, s)

/-- R471, R479: a write of a DRL register by resident firmware: whether it was refused, and what it leaves. A write beyond the limits is
ignored as a whole; GO or FALLBACK_CHECK while EN is 0 has no effect, nor FALLBACK_CHECK while the AON clock is lost. -/
def State.drlWrite (s : State) (off : Nat) (v : Word) : Bool × State :=
  let go := match off with
    | 0x10 | 0x30 => bit v 31
    | 0x50 => bit v 0
    | _ => false
  if off = 0 then s.drlCtrl v
  else if off = 4 then (false, if bit v 3 then s.wrB Reg.DRL_STATUS 3 false else s)
  else if drlPerturbs off v && !s.drlWithin off v then s.drlRefuse
  else if go && (!s.rdB Reg.DRL_CTRL 0 || (Nat.beq off 0x50 && !s.rdB Reg.SYS_CLKMON 18)) then s.drlRefuse
  else
    (false, match off with
      | 0x10 => s.stallWrite v
      | 0x14 => s.wr Reg.DRL_SYNC (v &&& 0x7FF)
      | 0x20 => s.wr (Reg.DRL_RADIO 0) v
      | 0x24 => s.wr (Reg.DRL_RADIO 1) v
      | 0x28 => s.wr (Reg.DRL_RADIO 2) v
      | 0x2C => s.wr (Reg.DRL_RADIO 3) v
      | 0x30 => s.injectWrite v
      | 0x34 => s.wr Reg.DRL_INJECT_ADDR_LO (v &&& 0xFFFFFFF0)
      | 0x38 => s.wr Reg.DRL_INJECT_ADDR_HI (v &&& 0xFF)
      | 0x40 => s.wr Reg.DRL_DMA (v &&& 0xFFF0F)
      | 0x50 => if bit v 0 then (s.wrB Reg.DRL_AON_TEST 0 true).wrB Reg.DRL_AON_TEST 5 false else s
      | _ => s)

/-- R477: the offsets of Table 17.10. -/
def drlOffsets : List Nat := [0, 4, 0x10, 0x14, 0x20, 0x24, 0x28, 0x2C, 0x30, 0x34, 0x38, 0x40, 0x50, 0x60]

/-- R7, R479: a write of a DRL register on the fabric. -/
def State.drlAccess (s : State) (ini : Initiator) (off : Nat) (v : Word) : State :=
  let a := Reg.DRL_CTRL + off
  s.permGate ini a true (fun t => t.reservedTo ini ini.resident a (fun u => (u.drlWrite off v).2.answer 0))

/-- The word of an injection. -/
def injectWord (kind : Nat) (target : BitVec 8) : Word := BitVec.ofNat 32 (kind + 16 * target.toNat + 2 ^ 31)

/-- QUEUE_STALL, R471: a write of DRL_QSTALL. -/
def execQueueStall (ini : Initiator) (v : Word) (s : State) : Host.Outcome State Fault Refusal := .next (s.drlAccess ini 0x10 v)

/-- QUEUE_STALL_END, R471: the stalled side has had its cycles. -/
def execQueueStallEnd (s : State) : Host.Outcome State Fault Refusal := .next s.stallEnd

/-- DRILL_CLEAR, R471: a write of DRL_CTRL with CLEAR. -/
def execDrillClear (ini : Initiator) (v : Word) (s : State) : Host.Outcome State Fault Refusal := .next (s.drlAccess ini 0 (v ||| 2))

/-- INJECT_ONE_BIT_ECC, R504. -/
def execInjectOneBitEcc (ini : Initiator) (target : BitVec 8) (s : State) : Host.Outcome State Fault Refusal :=
  .next (s.drlAccess ini 0x30 (injectWord 1 target))

/-- INJECT_TWO_BIT_ECC, R504. -/
def execInjectTwoBitEcc (ini : Initiator) (target : BitVec 8) (s : State) : Host.Outcome State Fault Refusal :=
  .next (s.drlAccess ini 0x30 (injectWord 2 target))

/-- INJECT_LOCKSTEP, R472. -/
def execInjectLockstep (ini : Initiator) (target : BitVec 8) (s : State) : Host.Outcome State Fault Refusal :=
  .next (s.drlAccess ini 0x30 (injectWord 3 target))

/-- INJECT_CLOCK_MONITOR, R472. -/
def execInjectClockMonitor (ini : Initiator) (target : BitVec 8) (s : State) : Host.Outcome State Fault Refusal :=
  .next (s.drlAccess ini 0x30 (injectWord 4 target))

/-- INJECT_GRAY_PARITY, R472. -/
def execInjectGrayParity (ini : Initiator) (target : BitVec 8) (s : State) : Host.Outcome State Fault Refusal :=
  .next (s.drlAccess ini 0x30 (injectWord 5 target))

/-- INJECT_ERROR_RESPONSE, R472, R504. -/
def execInjectErrorResponse (ini : Initiator) (target : BitVec 8) (s : State) : Host.Outcome State Fault Refusal :=
  .next (s.drlAccess ini 0x30 (injectWord 6 target))

/-- INJECT_RETIREMENT_CHECKER, R472. -/
def execInjectRetirementChecker (ini : Initiator) (target : BitVec 8) (s : State) : Host.Outcome State Fault Refusal :=
  .next (s.drlAccess ini 0x30 (injectWord 7 target))

/-- INJECT_CTL_RESIDUE, R472. -/
def execInjectCtlResidue (ini : Initiator) (target : BitVec 8) (s : State) : Host.Outcome State Fault Refusal :=
  .next (s.drlAccess ini 0x30 (injectWord 8 target))

/-- INJECT_WATCHDOG_EXPIRY, R472. -/
def execInjectWatchdogExpiry (ini : Initiator) (target : BitVec 8) (s : State) : Host.Outcome State Fault Refusal :=
  .next (s.drlAccess ini 0x30 (injectWord 9 target))

/-- INJECT_SINK_OVERCURRENT, R472. -/
def execInjectSinkOvercurrent (ini : Initiator) (target : BitVec 8) (s : State) : Host.Outcome State Fault Refusal :=
  .next (s.drlAccess ini 0x30 (injectWord 10 target))

/-- INJECT_TRNG_STUCK, R472. -/
def execInjectTrngStuck (ini : Initiator) (target : BitVec 8) (s : State) : Host.Outcome State Fault Refusal :=
  .next (s.drlAccess ini 0x30 (injectWord 11 target))

/-- INJECT_LOCAL_CLOCK_COUNTER, R472. -/
def execInjectLocalClockCounter (ini : Initiator) (target : BitVec 8) (s : State) : Host.Outcome State Fault Refusal :=
  .next (s.drlAccess ini 0x30 (injectWord 12 target))

/-! ## The fallback check -/

/-- FALLBACK_CHECK, R471: a write of 1 to DRL_AON_TEST.FALLBACK_CHECK. -/
def execFallbackCheck (ini : Initiator) (s : State) : Host.Outcome State Fault Refusal := .next (s.drlAccess ini 0x50 1)

/-- R48, R471: the check completes: the outputs the fallback would energise, and the AON cycles it took. -/
def State.fallbackDone (s : State) (cycles : Nat) : State :=
  let a := Reg.DRL_AON_TEST
  if s.rdB a 0 && s.aonTakes then
    (((s.wrB a 0 false).wrF a 4 1 (if s.rdB Reg.AON_STATUS 0 then 15 else 0)).wrB a 5 true).wrF a 31 16 cycles
  else s

/-- FALLBACK_CHECK_DONE, R471. -/
def execFallbackCheckDone (cycles : BitVec 16) (s : State) : Host.Outcome State Fault Refusal := .next (s.fallbackDone cycles.toNat)

end Sys2Proof.Machine
end

