-- ==== Sys2Proof/Machine/Modes.lean ====
section
/-! DEFINITION. The mode machine: the lighting phase, what each mode sets, the transitions of Table 2.2 at a mode tick, and the proof test
(R40 to R56, R473 to R475). -/

namespace Sys2Proof.Machine

/-! ## The lighting phase -/

/-- R45: is it dark by the source chosen? With both, dusk comes at the earlier and dawn at the later. -/
def State.darkNow (s : State) : Bool :=
  let photo := s.rdB Reg.AON_STATUS 2
  let sched := s.scheduleDusk s.eventTime
  match s.objN 0x2000 6 with
  | 0 => photo
  | 1 => sched
  | _ => photo || sched

/-- R47: does a transition of the light run? -/
def State.transits (s : State) : Bool :=
  decide (s.mode.mode = .transition) || decide (s.mode.phase = .dusk) || decide (s.mode.phase = .dawn)

/-- R47: has TRANSITION_TIME expired? -/
def State.transitionOver (s : State) : Bool := s.transits && Nat.ble (s.mode.transAt + s.objN 0x2000 0x0E * 1000000000) s.eventTime

/-- R243, Table 8.2: CTL's source follows the mode and the phase. -/
def State.sourceFollow (s : State) : State :=
  if s.rdB Reg.CTL_CTRL 0 then s.wrF Reg.CTL_CTRL 5 4 (s.sourceOf s.mode.mode s.mode.phase) else s

/-- R45, R47, R59: the contactors follow the phase; not while the override holds them (R463). -/
def State.contFollow (s : State) : State := if s.rdB Reg.SUP_CONT_FORCE 0 || !s.aon.supRunning then s else s.contDrive

/-- LIGHTING_PHASE_UPDATE, R45, R47: the phase at a mode tick. A contrary condition waits for the end of a transition. -/
def State.phaseStep (s : State) : State :=
  let m := s.mode
  let next : ModeState :=
    if s.transits then (if s.transitionOver then { m with phase := if m.toNight then .night else .day } else m)
    else if decide (m.phase = .day) && s.darkNow then { m with phase := .dusk, toNight := true, transAt := s.eventTime }
    else if decide (m.phase = .night) && !s.darkNow then { m with phase := .dawn, toNight := false, transAt := s.eventTime }
    else m
  if next = m then s else ({ s with mode := next }).sourceFollow

/-! ## Profiles -/

/-- Table 2.1, R157: MACn_CTRL in a mode: off, receive only, day duty or full. -/
def radioWord (m : Mode) : Word :=
  match m with
  | .provision | .batteryWatch | .deepSleep | .starting => 0
  | .day | .activation => 11
  | .standby => 5
  | _ => 3

/-- R43: a transceiver that runs takes its duty at its next slotframe boundary, any other at once. -/
def State.macDuty (m : Mode) (s : State) (n : Nat) : State :=
  if s.rdB (Reg.MAC_STATUS n) 0 then s.setMac n { s.mac n with ctrlDue := some (radioWord m) } else s.macCtrlWrite n (radioWord m)

/-- Table 2.1, R43: the transceivers and SCAN in a mode. -/
def State.radioProfile (s : State) (m : Mode) : State :=
  ((upFrom 0 4).foldl (State.macDuty m) s).wrB Reg.SCAN_CTRL 0 (decide (m = .commission ∨ m = .standby))

/-- Table 2.1, R42, R43, R243: CTL in a mode. -/
def State.ctlMode (s : State) (m : Mode) : State :=
  let s1 := s.ctlProfile m s.mode.phase
  if ctlRuns m then s1.periodSet (1000 * s1.objN 0x2010 (m.code + 1)) else s1.trigDisarm 10

/-- R393, R396: CAL in a mode. -/
def State.calProfile (s : State) (m : Mode) : State :=
  let run := meters m && decide (m ≠ .batteryWatch)
  let s1 := (s.wrB Reg.CAL_CTRL 0 run).wrB Reg.CAL_CTRL 1 run
  let s2 := if m = .transition then s1.calPause else s1.calResume
  if m = .commission then s2.calInitial else s2.stepNext

/-- R44: the mode-change interrupt of core 3 where the mode holds it in reset. -/
def State.core3Profile (s : State) (m : Mode) : State :=
  if s.rdB Reg.SYS_CORE3_CTRL 0 && !m.core3Runs then { s with sys := { s.sys with core3Irq := true } } else s

/-- R74, R75, R323, R380: what entry to and exit from STANDBY set. -/
def State.standbyProfile (s : State) (m : Mode) : State :=
  let listen (t : State) (on : Bool) : State := (upFrom 0 2).foldl (fun (u : State) b => u.canCtrl b (putBit (u.rd (Reg.CAN_CTRL b)) 1 on)) t
  if m = .standby then (listen s true).localStandby
  else if s.aon.appOff || decide (m = .batteryWatch ∨ m = .deepSleep) then s
  else if s.rdB Reg.SNK_CTRL 2 then ((listen s false).localInhibit false).localRun
  else listen s false

/-- R41, R43, R232, R235: the profile of a mode, entered from another. -/
def State.profile (s : State) (old m : Mode) : State :=
  let s1 := ((((s.ctlMode m).radioProfile m).mtrProfile m).calProfile m).core3Profile m
  let s2 := (s1.standbyProfile m).wrB Reg.EVR_CTRL 2 (decide (m = .batteryWatch))
  let s3 := if (old = .commission) != (m = .commission) then (upFrom 0 4).foldl State.radioBuild s2 else s2
  ((if m = .islanded then s3.portsIslanded else s3).winMode old m).contFollow

/-! ## The proof test -/

/-- R472, R473: the marked flags and the marks cleared; an overcurrent that only injections set is no condition that lasts (log entry 39). -/
def State.marksClear (s : State) : State :=
  let k := s.rd Reg.SUP_DRILLMARK
  let s1 := (s.wr Reg.SUP_HOIST (s.rd Reg.SUP_HOIST &&& ~~~k)).wr Reg.SUP_DRILLMARK 0
  let s2 := if bit k 5 then s1.wrB Reg.SUP_ECC_ADDR_HI 31 false else s1
  if bit k 23 && !((upFrom 0 24).any (fun c => s2.rdB (Reg.SNK_CH_STAT c) 1 && !(s2.snkCh c).injected)) then s2.unhold 23 else s2

/-- R473, R474: the proof test ends with a verdict: 1 passed, 2 failed, 3 aborted. -/
def State.proofEnd (s : State) (p : Proof) (verdict : Nat) : State :=
  let t := s.eventTime
  let v := time80 t ++ toLE 1 verdict ++ toLE 1 (p.firstFailed.getD 0xFF) ++ toLE 4 p.passed ++ toLE 4 ((t - p.began) / 1000000) ++ toLE 4 0
  let s1 := ((s.marksClear).setObj 0x2E00 5 v).wrB Reg.SUP_INT_STAT 1 true
  { s1 with fault := { s1.fault with proof := none, lastVerdict := if verdict = 3 then s1.fault.lastVerdict else verdict,
                                     lastPassedEnd := if verdict = 1 then some t else s1.fault.lastPassedEnd } }

/-- R56, R473: DRILL ends: a proof test in progress is aborted, and every drill-unit setting cleared. -/
def State.drillLeave (s : State) : State :=
  (match s.fault.proof with
    | some p => s.proofEnd p 3
    | none => s).drlEnd

/-- R462, R504: step 2 of the proof test: a one-bit and a two-bit error in each of four memories. -/
def State.proofEcc (s : State) : State :=
  (upFrom 0 4).foldl (fun (t : State) _ =>
    let (f, t1) := ((t.bump Reg.SUP_ECC_CORR 1).faultCount 0).free
    ((t1.faultCount 1).eccAddr (f % 2 ^ 36 * 16)).raiseWith 5 false true) (s.bump Reg.DRL_COUNT 8)

/-- R26, R472: step 3: the monitor's bit of a clock injected clears, and sets again, its clock being present. -/
def State.proofClock (s : State) (b : Nat) : State := if s.rdB Reg.SYS_CLKMON b then (s.inject 4 b 0).wrB Reg.SYS_CLKMON b true else s

/-- Table 17.6: what a step that passes has done. -/
def State.proofWork (s : State) (step : Nat) : State :=
  match step with
  | 0 => s.inject 3 0 0
  | 1 => (upFrom 0 4).foldl (fun (t : State) c => t.inject 7 c 0) s
  | 2 => s.proofEcc
  | 3 => (upFrom 0 19).foldl State.proofClock s
  | 4 => (upFrom 0 34).foldl (fun (t : State) q => if t.queueReleasable q then t.inject 5 q 0 else t) s
  | 5 => (s.bump Reg.DRL_COUNT 1).raiseWith 30 false true
  | 6 => s.inject 8 0 0
  | 7 => (upFrom 0 8).foldl (fun (t : State) w => t.inject 9 w 0) s
  | 8 => (upFrom 0 24).foldl (fun (t : State) c => if t.rdB (Reg.SNK_CH_CFG c) 16 then t else t.inject 10 c 0) s
  | 9 => (s.inject 11 0 0).drbgResume
  | 10 => s.inject 12 0 0
  | 11 => (upFrom 0 4).foldl (fun (t : State) n =>
      if t.rdB (Reg.MAC_STATUS n) 0 then (t.wrB (Reg.MAC_STATUS n) 2 true).macInt n 7 else t) s
  | 12 => let r := s.free; (r.2.wrB Reg.DRL_AON_TEST 0 true).fallbackDone (6552 + r.1 % 5)
  | _ => s

/-- R473: a step has passed, or its limit has expired. Steps run in order; the last one's end ends the test. -/
def State.proofStepDone (s : State) (p : Proof) (passed : Bool) : Proof × State :=
  let s1 := if passed then s.proofWork p.step else s
  ({ p with step := p.step + 1, passed := if passed then p.passed + 2 ^ p.step else p.passed,
            firstFailed := if passed then p.firstFailed else some (p.firstFailed.getD p.step) }, s1)

/-! ## Transitions -/

/-- MODE_CHANGE, R43, R52, R56: the mode changes at a mode tick, with its reason; the profile follows. -/
def State.modeEnter (s : State) (m : Mode) (reason : Nat) : State :=
  let old := s.mode.mode
  let s0 := if old = .drill then s.drillLeave else s
  let s1 := { s0 with mode := { s0.mode with mode := m, reason := reason, entered := s0.eventTime, lawWritten := none,
                                             arbitrationLost := s0.mode.arbitrationLost && decide (m ≠ Mode.standby) } }
  ((s1.record 0x16 2 (old.code * 256 + m.code) reason 0).profile old m).drlMode

/-- Table 2.1: the night mode NIGHT_LAW names. -/
def State.nightMode (s : State) : Mode := if s.objN 0x2000 7 = 4 then .nightScheduled else .nightFollowing

/-- R47, R52: TRANSITION entered: a transition of the phase in progress goes on; in NIGHT, or at a start, one begins. -/
def State.toTransition (s : State) (start : Bool) (reason : Nat) : State :=
  let m := s.mode
  let fresh := start || decide (m.phase = .night)
  let s1 := if fresh then { s with mode := { m with toNight := decide (m.phase ≠ .dawn), transAt := s.eventTime } } else s
  s1.modeEnter .transition reason

/-- R52: "phase mode"; a module started in NIGHT enters TRANSITION. -/
def State.toPhaseMode (s : State) (start : Bool) (reason : Nat) : State :=
  match s.mode.phase with
  | .day => s.modeEnter .day reason
  | .night => if start then s.toTransition true reason else s.modeEnter s.nightMode reason
  | _ => s.toTransition start reason

/-- R473, R475: DRILL entered, and the proof test begun. -/
def State.toDrill (s : State) (reason : Nat) : State :=
  let s1 := (s.modeEnter .drill reason).wrB Reg.DRL_CTRL 0 true
  { s1 with fault := { s1.fault with proof := some { step := 0, passed := 0, firstFailed := none, began := s1.eventTime } },
            mode := { s1.mode with proofBegunDay := some ((s1.utcSec s1.eventTime).toNat / 86400) } }

/-- R52: have backhaul sessions and ring time both been absent for more than 30 s, in a mode that islands? -/
def State.islands (s : State) : Bool :=
  (match s.mode.mode with
    | .day | .transition | .nightScheduled | .nightFollowing | .activation => true
    | _ => false) &&
    (match s.mode.ringTimeSince, s.mode.backhaulSince with
      | some a, some b => Nat.blt (max a b + 30000000000) s.eventTime
      | _, _ => false)

/-- R52: is ring time back with the servo's lock held for 10 s, and a backhaul session established? -/
def State.rejoined (s : State) : Bool :=
  s.mode.ringTimeSince.isNone && s.mode.backhaulSince.isNone &&
    (match s.time.lockedSince with
      | some a => Nat.ble (a + 10000000000) s.time.now
      | none => false)

/-- R52: has no count report come for 60 s, since the later of the last one and the mode's entry? -/
def State.countsLost (s : State) : Bool :=
  decide (s.mode.mode = .nightFollowing) && Nat.ble (max s.traffic.lastReport s.mode.entered + 60000000000) s.eventTime

/-- R475: is the scheduled proof test due? -/
def State.proofDue (s : State) : Bool :=
  let t := s.eventTime
  let u := (s.utcSec t).toNat
  Nat.beq (s.objN 0x2E00 9) 1 && decide (s.mode.mode = .day) && decide (s.mode.phase = .day) && Nat.ble (s.objN 0x2E00 0x0A) (u % 86400) &&
    decide (s.mode.proofBegunDay ≠ some (u / 86400)) && !s.duskWithin t 900000000000

/-- Table 2.2: arbitration lost (R76), islanding and its end, dusk, dawn and the completion of a transition; none where none holds. `over`
says that a transition has completed at this tick. -/
def State.tickPhases (s : State) (above : Bool) : Option State :=
  match s.mode.mode with
  | .day | .activation => if s.mode.phase = .day then none else some (s.toTransition false 0x08)
  | .drill => if s.mode.phase = .day then none else some (s.toTransition false 0x19)
  | .transition => if above then some (if s.mode.phase = .night then s.modeEnter s.nightMode 0x09 else s.modeEnter .day 0x0B) else none
  | .nightScheduled | .nightFollowing => if s.mode.phase = .dawn then some (s.toTransition false 0x0A) else none
  | _ => none

/-- Table 2.2: NIGHT_LAW written, and the loss of count reports. -/
def State.tickLaw (s : State) (law : Option Nat) : Option State :=
  match s.mode.mode with
  | .nightScheduled => if law = some 5 then some (s.modeEnter .nightFollowing 0x0C) else none
  | .nightFollowing => if law = some 4 || s.countsLost then some (s.modeEnter .nightScheduled 0x0C) else none
  | _ => none

/-- R55: a request's transition, none where its conditions do not hold. -/
def State.tickRequest (s : State) (req : Option Nat) : Option State :=
  match s.mode.mode, req with
  | .commission, some 2 => if s.calBit 0 then some ((s.setObjN 0x2000 8 1 1).toPhaseMode false 0x07) else none
  | .day, some 11 => if s.mode.phase = .day then some (s.toDrill 0x17) else none
  | .drill, some 2 => some (s.modeEnter .day 0x18)
  | _, _ => none

/-- R58: is a root secret committed? -/
def State.rootOk (s : State) : Bool :=
  let ok (a : RootArea) : Bool := a.commit && !a.retire && a.checkOk
  ok s.aon.otp0 || ok s.aon.otp1

/-- Table 14.2: are the identity slots derived? -/
def State.identityOk (s : State) : Bool := [1, 2, 3, 8, 9].all (fun i => Nat.beq (s.slot i).state 1)

/-- Table 2.2: the end of PROVISION, of a probation, and the scheduled proof test. -/
def State.tickOwn (s : State) : Option State :=
  match s.mode.mode with
  | .provision => if s.rootOk && s.identityOk then some (s.modeEnter .commission 0x06) else none
  | .activation => if s.updState = 4 then none else some (s.toPhaseMode false 0x12)
  | .drill => if s.fault.proof.isNone then some (s.modeEnter .day 0x18) else none
  | _ => if s.proofDue then some (s.toDrill 0x1A) else none

/-- R54: the first trigger of the order that holds; whether it was the request's. -/
def State.tickTake (s : State) (above : Bool) (law req : Option Nat) : Bool × State :=
  let m := s.mode.mode
  if s.mode.arbitrationLost && !decide (m = .provision ∨ m = .standby) then (false, s.modeEnter .standby 0x10)
  else if s.islands then (false, s.modeEnter .islanded 0x0D)
  else if decide (m = .islanded) && s.rejoined then (false, s.toPhaseMode false 0x0E)
  else match s.tickPhases above with
    | some t => (false, t)
    | none =>
      match s.tickLaw law with
      | some t => (false, t)
      | none =>
        match s.tickRequest req with
        | some t => (true, t)
        | none => (false, (s.tickOwn).getD s)

end Sys2Proof.Machine
end

