-- ==== Sys2Proof/Machine/Power.lean ====
section
/-! DEFINITION. Power loss and its flush, BATTERY_WATCH and DEEP_SLEEP, and the return of mains (R60, R62 to R68, R291 to R295). -/

namespace Sys2Proof.Machine

/-! ## Mains -/

/-- MAINS_SET, R60, R65, R68: the comparator's output has stayed set for 100 ms. BATTERY_WATCH and DEEP_SLEEP end in a start; a
supervisor held in reset after repeated faults is released by a power-on (R468). -/
def State.mainsSet (s : State) : State :=
  if s.aon.comparator && !s.rdB Reg.AON_STATUS 0 && s.aonTakes then
    let s1 := ((s.wrB Reg.AON_STATUS 0 true).contRefresh).ratingOut
    if s1.fault.heldInReset then
      let s2 := (s1.blocksReset .powerOn).starting
      { s2 with aon := { s2.aon with inReset := true, supRunning := false, resetCause := 0 } }
    else if s1.mode.mode = .deepSleep then
      let s2 := (s1.wrB Reg.AON_WAKE_CAUSE 0 true).starting
      { s2 with aon := { s2.aon with resetCause := 2 }, mode := { s2.mode with reason := 0x16 } }
    else if s1.mode.mode = .batteryWatch then
      let s2 := (s1.mtrSave false).starting
      { s2 with aon := { s2.aon with resetCause := 1 }, mode := { s2.mode with reason := 0x16 } }
    else s1
  else s

def execMainsSet (s : State) : Host.Outcome State Fault Refusal := .next s.mainsSet

/-! ## Power loss -/

/-- R62, R291, Table 2.4: the power-fail interrupt: the DMA, the transmitters, the halyards and the probation's count stop, metering runs on to its
stop frame, and the flush begins. -/
def State.powerLoss (s : State) : State :=
  if s.aon.supRunning && !s.aon.flushing then
    let s1 := { s with aon := { s.aon with flushing := true, flushStart := s.eventTime },
                       sys := { s.sys with core3Irq := s.rdB Reg.SYS_CORE3_CTRL 0 },
                       mtr := { s.mtr with stopAt := some (s.time.now + 500000) } }
    let s2 := s1.record 0x16 3 0 (s1.evr.buffer.length + 1) 0
    let s3 := (upFrom 0 16).foldl State.dmaStop s2
    let s4 := (upFrom 0 4).foldl (fun (t : State) n => t.macCtrlWrite n 0) s3
    ((((s4.canTail 0 true).canTail 1 true).halStop 0).halStop 1).probRun false
  else s

/-- R60, R62, R482: the supplies at their voltages in mV: the comparator clears below 16.0 V, and MAINS with it; it sets above 17.0 V; AON
takes its supply. A loss of mains begins the flush; in BATTERY_WATCH and DEEP_SLEEP nothing is left to flush. -/
def State.supplies (s : State) (vin vbat : Nat) : State :=
  let was := s.rdB Reg.AON_STATUS 0
  let comp := Nat.ble 17000 vin || (s.aon.comparator && Nat.ble 16000 vin)
  let s1 := (({ s with aon := { s.aon with vin := vin, vbat := vbat, comparator := comp } }.wrB Reg.AON_STATUS 0 (was && comp)).wrF
    Reg.AON_STATUS 9 8 (aonSupply vin vbat)).contRefresh
  if was && !comp then s1.ratingOut.powerLoss else s1

/-- POWER_FAIL, R60, R62: VIN falls below 16.0 V: MAINS clears with the comparator, and the contactors de-energise. -/
def execPowerFail (vin : Nat) (s : State) : Host.Outcome State Fault Refusal :=
  .next (if vin < 16000 then s.supplies vin s.aon.vbat else s)

/-- AON_SOURCE_CHANGE, R60, R482: the supplies at their new voltages in mV. -/
def execAonSourceChange (vin vbat : Nat) (s : State) : Host.Outcome State Fault Refusal := .next (s.supplies vin vbat)

/-- R62, R109, R179, R330, R427, R432: what the flush saves beside the event buffer and the metering state. -/
def State.flushSaves (s : State) : State :=
  let s1 := (s.stageSave.probSave).countersSave
  { s1 with can := { s1.can with hbSaved := (s1.can.hbEpoch, s1.can.hbCount) },
            dict := { s1.dict with links := s1.dict.links.map (fun (e : EnvLink) => { e with saved := (e.rx, e.tx) }) } }

/-- R62: the ring optics go off, or on again where the optic may transmit (R334). -/
def State.optics (s : State) (on : Bool) : State :=
  (upFrom 0 2).foldl (fun (t : State) p =>
    let a := Reg.NET_SFP p
    if on then t.opticsAllow else (t.wrB a 3 true).linkSet p false) s

/-- R67: DEEP_SLEEP is entered: the metering state saved, LAST_SAVE_RTC and ENDING written, the wake causes cleared, every supply but AON's
removed. -/
def State.deepSleep (s : State) : State :=
  let s1 := ((s.modeEnter .deepSleep 0x15).mtrSave false).outagePut 38 (toLE 4 s.rtcSeconds)
  (((s1.outagePut 36 [2]).wrN Reg.AON_WAKE_CAUSE 0).flushLog).allOff

/-- R62, R63, R65: BATTERY_WATCH is entered: events go straight to the log, and the application cluster is unpowered. -/
def State.batteryWatch (s : State) : State := ((s.modeEnter .batteryWatch 0x14).outagePut 36 [1]).appPowerOff

/-- POWER_DIP, R63: mains is back by the end of the flush: everything restarts without a reset. Core 3 is released again later. -/
def State.powerDip (s : State) : State :=
  let s1 := s.record 0x16 4 0 ((s.eventTime - s.aon.flushStart) / 1000) 0
  (((s1.radioProfile s1.mode.mode).mtrProfile s1.mode.mode).optics true).probRun true

/-- FLUSH_COMPLETE, R62, R63, Table 2.2: the flush ends, core 3 is held, and the mode is decided by the mains and the battery. A loss before the
first mode decision of a start leaves MODE at 0xFF, and the start goes on when mains returns (log entry 53). -/
def State.flushComplete (s : State) : State :=
  if s.aon.flushing then
    let s1 := ((s.mtrStop).flushSaves.outagePut 36 [0]).flushLog
    let s2 := (({ s1 with aon := { s1.aon with flushing := false } }).core3Stop.core3Discard).optics false
    if s2.rdB Reg.AON_STATUS 0 then s2.powerDip
    else if s2.mode.mode = .starting then s2
    else if s2.rdB Reg.AON_STATUS 1 then s2.deepSleep else s2.batteryWatch
  else s

def execFlushComplete (s : State) : Host.Outcome State Fault Refusal := .next s.flushComplete

/-! ## Battery watch and deep sleep -/

/-- BATTERY_WATCH_SAVE, R65, R292: every 60 s. -/
def execBatteryWatchSave (s : State) : Host.Outcome State Fault Refusal :=
  .next (if s.mode.mode = .batteryWatch then (s.mtrSave true).outagePut 38 (toLE 4 s.rtcSeconds) else s)

/-- BAT_LOW_TIMEOUT, Table 2.2: BAT_LOW has been 1 for 10 s. -/
def execBatLowTimeout (s : State) : Host.Outcome State Fault Refusal :=
  .next (if s.mode.mode = .batteryWatch ∧ s.rdB Reg.AON_STATUS 1 = true then s.deepSleep else s)

/-- BATTERY_WATCH_LIMIT, R65: the longest stay is reached; 0 is unlimited. -/
def execBatteryWatchLimit (s : State) : Host.Outcome State Fault Refusal :=
  .next (
    let m := s.objN 0x2000 9
    if s.mode.mode = .batteryWatch ∧ m ≠ 0 ∧ s.mode.entered + m * 60000000000 ≤ s.eventTime then s.deepSleep else s)

/-- SUP_RESET_HIST takes a start's cause (Table 17.9), and LAST_RESET_CAUSE shows it (R61). -/
def State.causeShow (s : State) (cause : Nat) : State :=
  { s.wrN Reg.SUP_RESET_HIST ((s.rd Reg.SUP_RESET_HIST).toNat * 256 + cause) with fault := { s.fault with lastResetCause := cause } }

/-- DEEP_SLEEP_WAKE, R68, R70, R448: a tamper latch or an alarm, with its wake enabled and BAT_LOW 0, starts the supervisor on VBAT; it
records the cause and what was latched straight to the log, and returns to DEEP_SLEEP. -/
def execDeepSleepWake (tamper alarm : Bool) (s : State) : Host.Outcome State Fault Refusal :=
  .next (
    let t := tamper && s.rdB Reg.AON_WAKE_CFG 0 && !s.aon.tamperDue.isEmpty
    let a := alarm && s.rdB Reg.AON_WAKE_CFG 1 && s.rdB Reg.AON_RTC_CTRL 17
    if s.mode.mode = .deepSleep ∧ s.aonTakes = true ∧ s.rdB Reg.AON_STATUS 1 = false ∧ (t || a) = true then
      let s1 := ((s.wrB Reg.AON_WAKE_CAUSE 1 t).wrB Reg.AON_WAKE_CAUSE 2 a).causeShow 2
      let s2 := { s1 with aon := { s1.aon with asleep := false, inReset := false, supRunning := true },
                          mode := { s1.mode with mode := .batteryWatch, entered := s1.eventTime } }
      let s3 := s2.highWaterApply.evrStart.wrB Reg.EVR_CTRL 2 true
      ((s3.record 1 3 (s3.rdF Reg.AON_WAKE_CAUSE 2 0) 0 0).tamperRecord).deepSleep
    else s)

end Sys2Proof.Machine
end

