-- ==== Sys2Proof/Machine/Start.lean ====
section
/-! DEFINITION. A start of the module, the root secret, and the first mode decision (R40, R49, R52, R57 to R61, R86, R109, R330, R430, R431, R468,
Table 2.3). -/

namespace Sys2Proof.Machine

/-! ## What a start restores -/

/-- R85: a volatile object takes its default at every start. -/
def State.volatileDefaults (s : State) : State := { s with objs := s.objs.filter (fun (e : Nat × List Byte) => s.persists e.1) }

/-- R85, R185: the default of an object; that of SEGMENT_ID is bytes 6 and 7 of the EUI-64, and those of DISCOVERY_CHANNELS and TX_POWER_n are the
band variant's. -/
def State.factory (s : State) (k : Nat) : List Byte :=
  let n := Nat.beq (s.objN 0x1000 3) 0x4E
  if k = Obj.key 0x2200 1 then (slice s.eui 6 2).reverse
  else if k = Obj.key 0x2200 4 ∧ n = true then [0, 64, 128]
  else if k / 256 = 0x2211 ∧ n = true then [54]
  else Obj.default k

/-- The value listed for a key, or the object's default. -/
def State.copyOf (s : State) (l : List (Nat × List Byte)) (k : Nat) : List Byte := (Sparse.find? k l).getD (s.factory k)

/-- R86: an object whose newer copy fails: step 2 the older copy, 3 the backup, 4 the default. A step whose copy does not exist fails. -/
def State.restoreOne (s : State) (k step : Nat) : State :=
  let made := Nat.blt k (Obj.key 0x3000 0) || Nat.ble (Obj.key 0x4000 0) k || (Sparse.find? k s.dict.nand).isSome
  let st := if step = 3 ∧ made = false then 4 else step
  let v := if st = 2 then s.copyOf s.dict.older k else if st = 3 then s.copyOf s.dict.nand k else s.factory k
  let s1 := { s with objs := Sparse.set Obj.default s.objs k v }
  let s2 := if st = 4 then s1.raise 27 else s1
  s2.record 0x16 6 (k / 256) (k % 256) st

/-- R86: every stored object whose newer copy fails; `bad` names them and the step that restores each. -/
def State.restoreObjects (s : State) (bad : List (Nat × Nat)) : State :=
  (bad.filter (fun (e : Nat × Nat) => s.persists e.1 && Nat.ble 2 e.2 && Nat.ble e.2 4)).foldl
    (fun (t : State) (e : Nat × Nat) => t.restoreOne e.1 e.2) s

/-! ## The root secret -/

/-- R58: an area at a start; `chk` says whether its check passes. An area programmed without a good commit is retired. -/
def RootArea.check (a : RootArea) (chk : Bool) : RootArea :=
  if a.retire then a
  else if a.programmed && !(a.commit && chk) then { a with checkOk := chk, retire := true }
  else { a with checkOk := chk }

/-- R58: both areas spent: the module stays in PROVISION, raises ROOT_FAILED and records the area that failed last. -/
def State.rootFailed (s : State) : State :=
  if s.aon.otp0.retire && s.aon.otp1.retire then (s.raise 26).record 0x16 5 1 0 0 else s

/-- R58, R71, Table 14.12: the root at a start; KEY_STATUS.ROOT_OK and TAMPER. -/
def State.rootCheck (s : State) (chk0 chk1 : Bool) : State :=
  let s1 := { s with aon := { s.aon with otp0 := s.aon.otp0.check chk0, otp1 := s.aon.otp1.check chk1 } }
  let s2 := if s1.rootOk || Nat.beq (s1.slot 0).state 0 then s1 else s1.putSlot 0 {}
  ((s2.wrB Reg.KEY_STATUS 1 s2.rootOk).wrB Reg.KEY_STATUS 2 s2.tamperLatched).rootFailed

/-- R57: an area programmed, its check passed or failed. -/
def RootArea.program (a : RootArea) (ok : Bool) : RootArea :=
  if a.retire then a else { programmed := true, checkOk := ok, commit := ok, retire := !ok }

/-- Table 14.2: an identity slot derived under the root; its ATTR admits what the spec uses the slot for (log entry 42). -/
def State.identitySlot (s : State) (slot kind attr : Nat) (label : List Byte) : State :=
  s.keyApply 2 { slot := slot, parent := 0, kind := kind, twin := slot, g := 0, attr := attr, label := label, context := List.replicate 8 0 }

/-- R57, Table 14.2: the identity slots: 1 STOR, 2 IDSG, 3 IDAG, 8 SEGA, 9 INTR. -/
def State.identityDerive (s : State) : State :=
  ((((s.identitySlot 1 2 0x41 [0x53, 0x54, 0x4F, 0x52]).identitySlot 2 0x12 8 [0x49, 0x44, 0x53, 0x47]).identitySlot 3 0x12 0x20
    [0x49, 0x44, 0x41, 0x47]).identitySlot 8 1 1 [0x53, 0x45, 0x47, 0x41]).identitySlot 9 2 1 [0x49, 0x4E, 0x54, 0x52]

/-- ROOT_GENERATION, R57, R58, R71: in PROVISION; `ok0` and `ok1` say whether the health tests and the check pass for each area. -/
def execRootGeneration (ok0 ok1 : Bool) (s : State) : Host.Outcome State Fault Refusal :=
  .next (
    if s.mode.mode = .provision then
      let s1 :=
        if s.rootOk then s
        else
          let a := s.aon.otp0.program ok0
          let first := { s with aon := { s.aon with otp0 := a } }
          let s2 := if first.rootOk then first else { first with aon := { first.aon with otp1 := first.aon.otp1.program ok1 } }
          if s2.rootOk then
            let (k, s3) := s2.drbgTake 32
            (s3.putSlot 0 { key := k, state := 1, kind := 2, gen := 1, attr := 1, origin := 0 }).wrB Reg.KEY_STATUS 1 true
          else s2.rootFailed
      if s1.rootOk && !s1.identityOk && !s1.tamperLatched then s1.identityDerive else s1
    else s)

/-! ## The image -/

/-- R430: a part of the new set fails its verification: the previous bank runs, with all its parts. -/
def State.imageReject (s : State) (part : Nat) : State :=
  let seq := manifestSeq (s.bankSet s.spareBank).manifest
  let s1 := (s.setUpdState 0).setObjN 0x2C00 0x0F 4 seq
  let s2 := (((s1.wrB Reg.UPD_BOOT 1 true).wrF Reg.UPD_BOOT 15 8 part).wrN Reg.UPD_ACTIVE_SEQ (manifestSeq s1.activeSet.manifest)).wrF
    Reg.UPD_BOOT 0 0 s1.runningBank
  ((s2.wrF Reg.UPD_STATUS 15 8 0).record 0x15 2 part seq 0).raise 15

/-- R430, R434: the journal at a start: during a probation, or at an activation, the fallback of R434 or the verification; `part` is the first
part that fails, if one does. Answers true where the module falls back instead. -/
def State.imageStart (s : State) (part : Option Nat) : Bool × State :=
  if s.updState = 3 ∨ s.updState = 4 then
    let cause := s.fault.lastResetCause
    let n := s.rdF Reg.UPD_STATUS 15 8 + 1
    let s1 := (s.wrF Reg.UPD_STATUS 15 8 n).wrF Reg.UPD_BOOT 0 0 s.runningBank
    if cause = 3 ∨ cause = 7 then (true, s1.fallBack 1)
    else if 4 ≤ n then (true, s1.fallBack 2)
    else match part with
      | some p => (false, s1.imageReject p)
      | none => (false, s1.wrB Reg.UPD_BOOT 1 false)
  else (false, s.wrF Reg.UPD_BOOT 0 0 s.runningBank)

/-! ## The start -/

/-- R468: a start with cause 3 or 7 counts among those of the last 600 s; the third holds the supervisor in reset. -/
def State.faultStart (s : State) : State :=
  let c := s.fault.lastResetCause
  if c = 3 ∨ c = 7 then
    let now := s.eventTime
    let l := s.fault.faultStarts.filter (fun (t : Ns) => Nat.ble now (t + 600000000000)) ++ [now]
    ({ s with fault := { s.fault with faultStarts := l, heldInReset := Nat.ble 3 l.length } }).wrF Reg.SUP_STATUS 15 8 l.length |>.faultCount 4
  else s

/-- R26, Table 2.3: the clocks that run from a start on: TIME, the radios', CANF and AON. -/
def State.clocksStart (s : State) : State :=
  (([0, 3, 4, 5, 6, 17, 18].filter (fun (b : Nat) => !s.fault.lost.contains b && !(Nat.beq b 18 && s.aon.aonClockLost))).foldl
    (fun (t : State) b => t.wrB Reg.SYS_CLKMON b true) s).queuesRelease

/-- R442, R450, R454, R467: the recorder runs: the log's end is found, the retained buffer flushed, START recorded, then the raisings that led to
the reset, then the tampers latched meanwhile. -/
def State.recorderStart (s : State) (warm : Bool) : State :=
  let n := s.evr.buffer.length
  let s1 := if warm then s else s.highWaterApply.evrStart
  let s2 := s1.record 0x16 1 s.fault.lastResetCause n (s.rd Reg.UPD_ACTIVE_SEQ).toNat
  let s3 := s2.fault.raisedDue.foldl (fun (t : State) f => t.recMake t.eventTime (t.recFlags 0x16 8 true) 0x16 8 f 0 0) s2
  { s3 with fault := { s3.fault with raisedDue := [] } }.tamperRecord

/-- R109, R330: the counters resume past those used. -/
def State.countersStart (s : State) : State :=
  let n := s.can.hbCount + 4096
  { s with
    can := { s.can with hbCount := n, hbSaved := (s.can.hbEpoch, n) },
    dict := { s.dict with links := s.dict.links.map (fun (e : EnvLink) => { e with tx := e.tx + 256, saved := (e.rx, e.tx + 256) }) } }

/-- R288, R292, R395: metering and calibration at a start; `bad` says which saves of the metering state fail. -/
def State.meterStart (s : State) (warm : Bool) (bad : Nat) : State :=
  let s1 := if warm then s.calWarm else
    let t := if (s.mtr.saves.head?.map (fun (v : MtrSave) => v.periodic)).getD false then s.outagePut 36 [3] else s
    (t.mtrStart bad).calCold 0
  let s2 := (s1.mtrLevels.mtrApply.corrApply).wrF Reg.MTR_LATCH_CTRL 15 0 (max 1 (s.objN 0x2600 0x0C))
  let s3 := if warm then s2 else { s2 with mtr := { s2.mtr with runN := max 1 (s.objN 0x2600 0x0C) } }
  { s3 with mtr := { s3.mtr with resumeDue := s3.mtr.outageOpen, outageOpen := false } }

/-- R73, Table 2.3: does the first mode decision come after the buses have started? -/
def State.pairFirst (s : State) : Bool := Nat.beq (s.objN 0x2020 1) 2

/-- Table 2.3: the cabinet bus at 1.5 s and the ring ports at 2.0 s. -/
def State.busesStart (s : State) : State := s.canStart.netStart

/-- Table 2.3, from 400 ms on: the clock, metering, the recorder's level, the key services, light control, the buses, local lighting, counting and
the radios. -/
def State.servicesStart (s : State) (warm : Bool) (bad : Nat) : State :=
  let s1 := (((s.clocksStart.timeApply).aonApply).alarmApply).clockLoad
  let s2 := ((s1.ppsArm.highWaterApply).meterStart warm bad).mtrProfileNow .commission
  let s3 := ((s2.ctlStart.stageResume).drbgReseed).wrB Reg.CRY_STATUS 4 true
  let s4 := (if s3.pairFirst then s3.countersStart.busesStart else s3.countersStart).localRun
  ((upFrom 0 64).foldl State.portApply s4).radiosStart

/-- R45, R52: the lighting phase from which the first decision is made: DUSK where it is dark, else DAY; a start from BATTERY_WATCH keeps it. -/
def State.phaseStart (s : State) (warm : Bool) : State :=
  if warm then s else { s with mode := { s.mode with phase := if s.darkNow then .dusk else .day, toNight := true, transAt := s.eventTime } }

/-- R60: is there power for a start? A power-on and a wake need mains; any other reset has the supply it had. -/
def State.canPower (s : State) : Bool :=
  s.rdB Reg.AON_STATUS 0 || (!(Nat.beq s.aon.resetCause 0) && !(Nat.beq s.aon.resetCause 2) && (Nat.ble 9000 s.aon.vin || Nat.ble 9000 s.aon.vbat))

/-- COLD_START, R60, R61, R86, R430, R468, Table 2.3: a start up to the first mode decision: from a reset, or from BATTERY_WATCH, whose
supervisor runs already. -/
def execColdStart (chk0 chk1 : Bool) (bad : List (Nat × Nat)) (part : Option Nat) (mtrBad : Nat) (s : State) : Host.Outcome State Fault Refusal :=
  .next (
    let warm := decide (s.mode.mode = .starting) && s.aon.supRunning && s.aon.appOff && !s.aon.inReset
    if warm || (s.aon.inReset && !s.fault.heldInReset && s.canPower) then
      let s1 := { s with aon := { s.aon with inReset := false, asleep := false, appOff := false, supRunning := true } }
      let s2 := ((s1.volatileDefaults).causeShow s.aon.resetCause).faultStart
      if s2.fault.heldInReset then { s2 with aon := { s2.aon with inReset := true, supRunning := false } }
      else
        let s3 := s2.recorderStart warm
        let r := s3.imageStart part
        if r.1 then r.2
        else
          let s4 := (((r.2.rootCheck chk0 chk1).restoreObjects bad).servicesStart warm mtrBad).phaseStart warm
          s4.heartbeat (if s4.aon.lastBeat = some 0x5A then 0xA5 else 0x5A)
    else s)

/-! ## The first mode decision -/

/-- R73: has a preferred standby waited its second, and heard a partner claiming active in it? -/
def State.pairWaits (s : State) : Bool :=
  Nat.beq (s.objN 0x2020 1) 2 && Nat.blt s.time.now ((s.mode.canStarted.getD 0) + 1000000000)

/-- R52: the start row taken, and the mode entered. A fallback gives every row reason 0x13. -/
def State.decideStart (s : State) : State :=
  let why (reason : Nat) : Nat := if s.fault.lastResetCause = 5 then 0x13 else reason
  if !s.rootOk then s.modeEnter .provision (why 1)
  else if s.updState = 3 ∨ s.updState = 4 then
    ((s.setUpdState 4).modeEnter .activation (if s.fault.lastResetCause = 4 then 0x11 else 3)).probRun true
  else if s.objN 0x2000 8 = 0 then s.modeEnter .commission (why 2)
  else if s.objN 0x2020 1 = 2 ∧ s.mode.partnerHeard.isSome = true then s.modeEnter .standby (why 4)
  else s.toPhaseMode true (why 5)

/-- FIRST_MODE_DECISION, R40, R50, R52, R73: Table 2.2's start rows, and the contactors taken; then, where they have not started before it, the
cabinet bus and the ring ports. -/
def execFirstModeDecision (s : State) : Host.Outcome State Fault Refusal :=
  .next (
    if s.mode.mode = .starting ∧ s.aon.supRunning = true ∧ s.aon.inReset = false ∧ s.time.loaded = true ∧ s.pairWaits = false then
      (if s.mode.canStarted.isNone then s.decideStart.busesStart else s.decideStart)
    else s)

end Sys2Proof.Machine
end

