-- ==== Sys2Proof/Machine/Pair.lean ====
section
/-! DEFINITION. Hot-standby pairs: the heartbeat, arbitration and takeover (R73, R75, R76, R330); and the steps of the proof test
(R473). -/

namespace Sys2Proof.Machine

/-! ## The heartbeat -/

/-- R330: the heartbeat key of a sender at an EPOCH; none while PAIR_KEY_SLOT is 0xFF. -/
def State.heartKey (s : State) (eui : List Byte) (epoch : Nat) : Option (List Byte) :=
  let slot := s.objN 0x2700 0x0F
  if slot = 0xFF then none else some (kdf (s.slot slot).key [0x50, 0x48, 0x42, 0x4B] epoch eui 16)

/-- R326, R330: the MIC of a heartbeat: its nonce holds all 32 bits of COUNT. -/
def heartMic (key : List Byte) (id : Nat) (body : List Byte) : List Byte :=
  rollMic key (slice body 0 8) 0x20 (leAt body 12 4) id body

/-- R330, Table 10.8: the pair (EPOCH, COUNT) that the next heartbeat carries. -/
def heartNext (epoch count : Nat) : Nat × Nat := if 0xFFFFEFFF < count + 1 then ((epoch + 1) % 256, 1) else (epoch, count + 1)

/-- Does this module announce itself as the active one of a pair? -/
def State.announces (s : State) : Bool :=
  !(Nat.beq (s.objN 0x2020 1) 0) && s.aon.supRunning && !s.aon.appOff &&
    (match s.mode.mode with
      | .standby | .provision | .batteryWatch | .deepSleep | .starting => false
      | _ => true)

/-- PAIR_HEARTBEAT_SEND, R330: every 100 ms on both buses; EPOCH and COUNT are saved at every 4,096th heartbeat. -/
def execPairHeartbeatSend (t : Nat) (s : State) : Host.Outcome State Fault Refusal :=
  .next (
    let s0 := s.upTo t
    let p := heartNext s0.can.hbEpoch s0.can.hbCount
    match s0.heartKey s0.eui p.1 with
    | none => s0
    | some key =>
      if s0.announces then
        let body := s0.eui ++ toLE 1 1 ++ toLE 1 s0.mode.mode.code ++ toLE 1 p.1 ++ toLE 1 0 ++ toLE 4 p.2
        let data := body ++ heartMic key 8 body
        let s1 := { s0 with can := { s0.can with hbEpoch := p.1, hbCount := p.2, hbSent := data, hbLast := some s0.time.now,
                                                 hbSaved := if p.2 % 4096 = 0 ∨ p.1 ≠ s0.can.hbEpoch then p else s0.can.hbSaved } }
        s1.canBoth { id := 8, data := data }
      else s0)

/-- R76: arbitration: of two active modules the one with the numerically higher EUI-64 enters STANDBY. -/
def State.arbitrate (s : State) (eui : List Byte) (claims : Bool) : State :=
  let running := s.aon.supRunning && !decide (s.mode.mode = .standby ∨ s.mode.mode = .starting ∨ s.mode.mode = .provision ∨ s.mode.mode = .batteryWatch ∨
    s.mode.mode = .deepSleep)
  if claims && running then
    { s with mode := { s.mode with arbitrationLost := s.mode.arbitrationLost || Nat.blt (fromLE eui.reverse) (fromLE s.eui.reverse) } }
  else s

/-- PAIR_HEARTBEAT_RECEIVE, R330, R73 to R76: it counts only from the partner, with its MIC verified and its pair risen. -/
def execPairHeartbeatReceive (t : Nat) (data : List Byte) (s : State) : Host.Outcome State Fault Refusal :=
  .next (
    let s0 := s.upTo t
    let eui := slice data 0 8
    let epoch := leAt data 10 1
    let pair := epoch * 2 ^ 32 + leAt data 12 4
    match s0.heartKey eui epoch with
    | none => s0
    | some key =>
      if data.length = 24 ∧ s0.objN 0x2020 1 ≠ 0 ∧ eui = s0.obj 0x2020 2 ∧ s0.aon.appOff = false ∧ s0.mode.canStarted.isSome = true ∧
          slice data 16 8 = heartMic key 8 (slice data 0 16) ∧ (Sparse.find? (fromLE eui) s0.can.hbHeard).getD 0 < pair then
        let claims := Nat.beq (leAt data 8 1) 1
        let s1 := { s0 with can := { s0.can with hbHeard := Sparse.insert (fromLE eui) pair s0.can.hbHeard },
                            mode := { s0.mode with partnerHeard := if claims then some s0.time.now else s0.mode.partnerHeard } }
        s1.arbitrate eui claims
      else s0)

/-! ## Takeover -/

/-- R75: has no heartbeat come for 1 s, in STANDBY? -/
def State.partnerSilent (s : State) : Bool :=
  decide (s.mode.mode = .standby) && Nat.ble (max s.mode.entered (s.mode.partnerHeard.getD 0) + 1000000000) s.eventTime

/-- TAKEOVER, R54, R75: the loss of mains comes first; else the phase mode is entered, the contactors go to the lighting phase, and CTL hands over. -/
def execTakeover (t : Nat) (s : State) : Host.Outcome State Fault Refusal :=
  .next (
    let s0 := s.upTo t
    if s0.partnerSilent && s0.aon.supRunning && s0.rdB Reg.AON_STATUS 0 && !s0.aon.flushing then { s0 with ctl := { s0.ctl with takeover := true } }.toPhaseMode false 0x0F else s0)

/-! ## The proof test -/

/-- R54: does a trigger hold that the mode tick takes before the end of the proof test: the loss of mains, arbitration lost, or dusk? -/
def State.outranked (s : State) : Bool :=
  !s.rdB Reg.AON_STATUS 0 || s.aon.flushing || s.mode.arbitrationLost || decide (s.mode.phase ≠ .day) || s.darkNow

/-- PROOF_STEP, R54, R473, R474, Table 17.6: a step has passed, or its limit has expired. After the last, the verdict, and DAY; where a trigger
that comes first holds, the mode tick takes that, and DAY at a later tick. -/
def execProofStep (passed : Bool) (s : State) : Host.Outcome State Fault Refusal :=
  .next (
    match s.fault.proof with
    | none => s
    | some p =>
      if s.mode.mode = .drill then
        let r := s.proofStepDone p passed
        if 14 ≤ r.1.step then
          let s1 := r.2.proofEnd r.1 (if r.1.firstFailed.isNone then 1 else 2)
          if s1.outranked then s1 else s1.modeEnter .day 0x18
        else { r.2 with fault := { r.2.fault with proof := some r.1 } }
      else s)

end Sys2Proof.Machine
end

