-- ==== Sys2Proof/Machine/Objects.lean ====
section
/-! DEFINITION. The objects as a request finds them: their rows, descriptors and values (R79 to R83, R112, R113, Tables 2.5 to 17.7). -/

namespace Sys2Proof.Machine

/-! ## Rows and descriptors -/

/-- Table 3.2: the code of a type; I8 has none there (log entry 2). -/
def ObjType.code : ObjType → Nat
  | .u8 => 1 | .u16 => 2 | .u32 => 3 | .u64 => 4 | .i16 => 5 | .i32 => 6 | .bf24 => 7 | .time80 => 8 | .stamp32 => 9 | .octets => 10
  | .text => 11 | .i8 => Config.i8Code

/-- Table 3.2: the type of a code. -/
def objTypeOf (c : Nat) : Option ObjType :=
  match c with
  | 1 => some .u8 | 2 => some .u16 | 3 => some .u32 | 4 => some .u64 | 5 => some .i16 | 6 => some .i32 | 7 => some .bf24
  | 8 => some .time80 | 9 => some .stamp32 | 10 => some .octets | 11 => some .text | _ => none

/-- Table 3.2: the length of a type, none where the object states it. -/
def ObjType.length? : ObjType → Option Nat
  | .u8 | .i8 => some 1
  | .u16 | .i16 => some 2
  | .u32 | .i32 | .bf24 | .stamp32 => some 4
  | .u64 => some 8
  | .time80 => some 10
  | .octets | .text => none

/-- Table 3.12: the code of an access. -/
def ObjAccess.code : ObjAccess → Nat
  | .ro => 1 | .rw => 2 | .wo => 3 | .w1c => 4 | .w1s => 5 | .rwl => 6

/-- Table 3.12: the access of a code. -/
def objAccessOf (c : Nat) : Option ObjAccess :=
  match c with
  | 1 => some .ro | 2 => some .rw | 3 => some .wo | 4 => some .w1c | 5 => some .w1s | 6 => some .rwl | _ => none

/-- Table 3.12: the code of a WRITE_AUTH. -/
def ObjAuth.code : ObjAuth → Nat
  | .none => 0 | .owner => 1 | .seal => 2

/-- Table 3.12: the WRITE_AUTH of a code. -/
def objAuthOf (c : Nat) : ObjAuth := if c = 1 then .owner else if c = 2 then .seal else .none

/-- R81: is an object's length fixed? -/
def ObjRow.fixed (r : ObjRow) : Bool := Nat.beq r.minLen r.maxLen

/-- R112, Table 3.12: the descriptor of an object. -/
def ObjRow.descriptor (r : ObjRow) : List Byte :=
  toLE 1 r.type.code ++ toLE 1 r.access.code ++ toLE 1 r.auth.code ++ toLE 1 (b2n r.stored) ++ toLE 2 r.modes ++ [0, 0] ++ toLE 4 r.maxLen ++
    toLE 1 (b2n (r.fixed && r.type.length?.isNone)) ++ [0, 0, 0]

/-- R112: is a descriptor one that DECLARE takes? -/
def descriptorOk (d : List Byte) : Bool :=
  let fixed := leAt d 12 1
  let len := leAt d 8 4
  (match objTypeOf (leAt d 0 1) with
    | none => false
    | some t =>
      match t.length? with
      | some n => Nat.beq len n && Nat.beq fixed 0
      | none => Nat.ble len 65536 && Nat.ble fixed 1) &&
    (objAccessOf (leAt d 1 1)).isSome && Nat.ble (leAt d 2 1) 2 && Nat.ble (leAt d 3 1) 1 && Nat.beq (leAt d 6 2) 0 && Nat.beq (leAt d 13 3) 0

/-- R112: the row of an integrator object, from its declaration. -/
def declRow (k : Nat) (d : List Byte) : ObjRow :=
  let t := (objTypeOf (leAt d 0 1)).getD .octets
  let len := leAt d 8 4
  let whole := t.length?.isSome || Nat.beq (leAt d 12 1) 1
  { idx := k / 256, idxCount := 1, sub := k % 256, subCount := 1, type := t, minLen := if whole then len else 0, maxLen := len,
    access := (objAccessOf (leAt d 1 1)).getD .ro, stored := Nat.beq (leAt d 3 1) 1, modes := leAt d 4 2, auth := objAuthOf (leAt d 2 1),
    lo := -(2 ^ 63), hi := 2 ^ 64, defLen := if whole then len else 0, defVal := 0 }

/-- R79: the row of subindex 0. -/
def highRow (idx : Nat) : ObjRow :=
  { idx := idx, idxCount := 1, sub := 0, subCount := 1, type := .u8, minLen := 1, maxLen := 1, access := .ro, stored := false, modes := 0,
    auth := .none, lo := 0, hi := 255, defLen := 1, defVal := 0 }

/-- Table 3.1: is the index an integrator object's? -/
def integIdx (idx : Nat) : Bool := Nat.ble 0x3000 idx && Nat.ble idx 0x3FFF

/-- R112: the declaration of an object. -/
def State.decl (s : State) (k : Nat) : Option (List Byte) := assoc? k s.dict.decls

/-- R79: the highest subindex of a group; 0 where the index is absent. -/
def State.highest (s : State) (idx : Nat) : Nat :=
  if integIdx idx then s.dict.decls.foldl (fun (m : Nat) (e : Nat × List Byte) => if Nat.beq (e.1 / 256) idx then max m (e.1 % 256) else m) 0
  else Obj.highest idx

/-- R79, R80: the row a request names: absent indices answer NO_OBJECT (1), absent subindices NO_SUBINDEX (2). -/
def State.lookup (s : State) (idx sub : Nat) : Except Nat ObjRow :=
  if Nat.beq (s.highest idx) 0 then .error 1
  else if Nat.beq sub 0 then .ok (highRow idx)
  else
    match (if integIdx idx then (s.decl (Obj.key idx sub)).map (declRow (Obj.key idx sub)) else Obj.find idx sub) with
    | some r => .ok r
    | none => .error 2

/-! ## Values -/

/-- R110, Table 3.13: MAILBOX_STATE. -/
def State.mailboxState (s : State) : Nat :=
  if !s.rdB Reg.SYS_CORE3_CTRL 0 then 0 else if s.dict.held.isEmpty then 1 else 2

/-- R107: the ring sessions. -/
def State.ringSessions (s : State) : List Sess := s.dict.sessions.filter (fun (e : Sess) => decide (e.kind = .ring))

/-- R458: GUARANTEE: 0 while it holds, else the lowest code that applies: 1 no proof test passed within 24 h, 2 the last verdict failed, 3 a
monitored rating outside its range now or within 10 s, 4 the debug port unlocked. -/
def State.guarantee (s : State) : Nat :=
  let now := s.eventTime
  let out := !s.rdB Reg.AON_STATUS 0 || s.rdB Reg.AON_STATUS 1 || s.fault.hot.any id ||
    (match s.fault.ratingOutAt with
      | some t => Nat.blt now (t + 10000000000)
      | none => false)
  if !(match s.fault.lastPassedEnd with
      | some t => Nat.ble now (t + 86400000000000)
      | none => false) then 1
  else if s.fault.lastVerdict = 2 then 2
  else if out then 3
  else if s.fault.debugUnlocked then 4
  else 0

/-- R141, R146: RTC_NOW: the calendar as a complete freeze gives it: the shadows of a freeze that is held. -/
def State.rtcNow (s : State) : List Byte :=
  let sh := s.rtc.freeze.getD s.rtcTimes
  let f (k : Nat) : Nat := (sh.getD k 0).toNat
  toLE 2 (2000 + f 7) ++ toLE 1 (f 6) ++ toLE 1 (f 4) ++ toLE 1 (f 3) ++ toLE 1 (f 2) ++ toLE 1 (f 1) ++ toLE 1 (f 5)

/-- Table 2.5: the views of modes and the pair; R115: SESSIONS_OPEN counts the ring sessions (log entry 55). -/
def State.sysView (s : State) (k : Nat) : Option (List Byte) :=
  match k with
  | 0x200001 => some (toLE 1 s.mode.mode.code)
  | 0x200003 => some (toLE 1 s.mode.reason)
  | 0x200004 => some (time80 s.mode.entered)
  | 0x200005 => some (toLE 1 s.mode.phase.code)
  | 0x20000A => some (toLE 1 s.fault.lastResetCause)
  | 0x20000B => some (toLE 1 (s.rdF Reg.AON_TAMPER_STAT 2 0))
  | 0x202003 => some (toLE 1 s.pairState)
  | 0x102203 => some (toLE 1 s.ringSessions.length)
  | 0x103101 => some (toLE 1 s.mailboxState)
  | _ => none

/-- Table 4.6: the views of the clocks. -/
def State.timeView (s : State) (k : Nat) : Option (List Byte) :=
  match k with
  | 0x210001 => some (time80 s.time.now)
  | 0x210003 => some (toLE 1 s.time.servoState)
  | 0x210004 => some (toLE 4 (enc 32 s.time.lastOffset))
  | 0x210005 => some (toLE 4 (s.rd Reg.TIME_FREQ_ADJ).toNat)
  | 0x213001 => some s.rtcNow
  | 0x213004 => some (toLE 2 (s.rdF Reg.AON_RTC_TEMP 15 0))
  | 0x213005 => some (toLE 4 (s.rd Reg.AON_RTC_CORR).toNat)
  | _ => none

/-- R222, R231: the views of a report card's traffic subindices: EFFICIENCY_APPLIED as in use, and OCCUPANCY as the last completed sample's
PEAK vectors. -/
def State.trafficView (s : State) (n sub : Nat) : Option (List Byte) :=
  match sub with
  | 0x27 => some (toLE 2 (min 65535 (s.efficiency n)))
  | 0x2A => some ((upFrom 0 3).flatMap (fun g => bf24 ((s.ctl.core.peak.getD g {}).get n)))
  | _ => none

/-- R185, R215: the views of the mesh and the cohorts; OFFSET of a card mirrors its neighbour entry. -/
def State.meshView (s : State) (idx sub : Nat) : Option (List Byte) :=
  if Nat.beq idx 0x2200 && Nat.beq sub 0x0A then some (toLE 8 (s.asn 0))
  else if Nat.ble 0x2240 idx && Nat.ble idx 0x2243 then some (toLE 4 (s.rd (Reg.MAC_COUNTER (idx - 0x2240) (sub - 1))).toNat)
  else if Nat.beq idx 0x2244 then some (toLE 4 (s.rd (Reg.SCAN_COUNTER (sub - 1))).toNat)
  else if Nat.ble 0x6000 idx && Nat.blt idx 0x7000 && Nat.beq sub 0x15 then
    let n := idx - 0x6000
    let c := s.card n 5
    some (match (if Nat.blt c 4 then s.nbFind c n else none) with
      | some i => toLE 4 (s.rd (Reg.MAC_NB c i 1)).toNat
      | none => toLE 4 0)
  else if Nat.ble 0x6000 idx && Nat.blt idx 0x7000 then s.trafficView (idx - 0x6000) sub
  else if Nat.ble 0x7001 idx && Nat.ble idx 0x7004 then
    let c := idx - 0x7001
    match sub with
    | 1 => some (toLE 2 (s.members c))
    | 8 => some ((upFrom 0 (s.mac c).len).flatMap (fun o => toLE 4 ((s.mac c).cell o).toNat))
    | 9 => some (toLE 2 ((s.cohortCards c holdsEntry).filter (fun n => !(Nat.beq (s.card n 0x0A / 0x4000) 0))).length)
    | 0x0A => some (toLE 2 (s.cohortCards c (fun st => Nat.beq st 5)).length)
    | 0x0B => some (toLE 2 (s.cohortCards c (fun st => Nat.beq st 6)).length)
    | _ => none
  else none

/-- R240, R241: ACTIVE_PROGRAM and TONIGHT. -/
def State.nightView (s : State) (k : Nat) : Option (List Byte) :=
  match k with
  | 0x25000B => some (toLE 1 (s.activeProgram.getD 0xFF))
  | 0x25000C => some (match s.tonight s.time.now with
      | some n => time80 n.dusk ++ time80 n.dawn
      | none => List.replicate 20 0)
  | 0x26000B => some (toLE 4 (partVersion (s.bankSet s.runningBank).manifest 7))
  | _ => none

/-- R331: BUS_STATE: 0 off, 1 error-active, 2 error-passive, 3 bus-off, 4 listen-only. -/
def State.busState (s : State) (b : Nat) : Nat :=
  if !s.rdB (Reg.CAN_CTRL b) 0 then 0
  else if s.rdB (Reg.CAN_STATUS b) 2 then 4
  else s.rdF (Reg.CAN_STATUS b) 1 0 + 1

/-- R348: NEIGHBOUR with its remaining TTL. -/
def State.neighbourView (s : State) (p : Nat) : List Byte :=
  let v := s.obj (0x2810 + p) 5
  match s.net.neighbourAt.getD p none with
  | some h => v.take 32 ++ toLE 2 (leAt v 32 2 - (s.time.now - h) / 1000000000) ++ v.drop 34
  | none => v

/-- R331, R362, R381: the views of the cabinet bus, the ring ports and the local lighting. -/
def State.portView (s : State) (idx sub : Nat) : Option (List Byte) :=
  if Nat.ble 0x2710 idx && Nat.ble idx 0x2711 && Nat.beq sub 1 then some (toLE 1 (s.busState (idx - 0x2710)))
  else if Nat.beq idx 0x2800 && Nat.beq sub 2 then some s.hostMac
  else if Nat.ble 0x2810 idx && Nat.ble idx 0x2812 then
    match sub with
    | 4 => some ((upFrom 0 16).flatMap (fun c => toLE 4 (s.rd (0x400E0100 + 0x40 * (idx - 0x2810) + 4 * c)).toNat))
    | 5 => some (s.neighbourView (idx - 0x2810))
    | _ => none
  else if Nat.ble 0x2910 idx && Nat.ble idx 0x2927 then
    let c := idx - 0x2910
    match sub with
    | 4 => some (toLE 4 (10 * s.rdF (Reg.SNK_CH_MEAS c) 15 0))
    | 5 => some (toLE 2 (s.rdF (Reg.SNK_CH_MEAS c) 31 16))
    | 6 => some (toLE 1 (s.rdF (Reg.SNK_CH_STAT c) 3 0 + 16 * b2n (Nat.blt (s.snkFactor (c / 8)).1 (s.snkFactor (c / 8)).2)))
    | _ => none
  else if Nat.ble 0x2940 idx && Nat.ble idx 0x2941 && Nat.beq sub 6 then some (toLE 4 (s.rd (Reg.HAL_FRAMES (idx - 0x2940))).toNat)
  else none

/-- R418: SLOT_TABLE's record of a slot. -/
def State.slotRecord (s : State) (i : Nat) : List Byte :=
  let k := s.slot i
  toLE 1 i ++ toLE 1 k.state ++ toLE 1 k.kind ++ toLE 1 k.depth ++ toLE 1 k.parent ++ [0] ++ toLE 2 k.gen ++ toLE 2 k.parentGen ++ toLE 4 k.attr ++ [0, 0]

/-- Tables 13.5, 14.10, 16.5 and 17.7: the views of calibration, keys, the log and the faults; READ_INDEX is the session's (R451). -/
def State.servView (s : State) (readIndex k : Nat) : Option (List Byte) :=
  match k with
  | 0x2A0004 => some (toLE 1 (s.objN 0x2A00 4 / 2 * 2 + b2n (Nat.beq (s.objN 0x2A10 1) 1)))
  | 0x2B0001 => some ((upFrom 0 256).flatMap s.slotRecord)
  | 0x2B0102 => some (if Nat.beq (s.slot 3).state 1 then fit 97 (Config.publicKey (s.slot 3).key) else s.obj 0x2B01 2)
  | 0x2D0001 => some (toLE 4 s.evr.log.length)
  | 0x2D0002 => some (toLE 4 s.evr.nextSeq)
  | 0x2D0003 => some (toLE 4 s.evr.lastSeq)
  | 0x2D0004 => some (toLE 4 s.evr.dropped)
  | 0x2D0007 => some (toLE 4 readIndex)
  | 0x2D0008 => some (s.recordsValue readIndex)
  | 0x2E0001 => some (toLE 4 (s.rd Reg.SUP_HOIST).toNat)
  | 0x2E0003 => some (toLE 1 s.guarantee)
  | 0x2E0004 => some (toLE 4 (s.rd Reg.SUP_ACTIVE).toNat)
  | _ => none

/-- The view of an object whose value stands elsewhere in the state, none for one that the value store holds. -/
def State.objView (s : State) (readIndex idx sub : Nat) : Option (List Byte) :=
  let k := Obj.key idx sub
  if Nat.blt idx 0x2100 then s.sysView k
  else if Nat.blt idx 0x2200 then s.timeView k
  else if Nat.blt idx 0x2400 || Nat.ble 0x6000 idx then s.meshView idx sub
  else if Nat.blt idx 0x2700 then s.nightView k
  else if Nat.blt idx 0x2A00 then s.portView idx sub
  else if Nat.blt idx 0x3000 then s.servView readIndex k
  else none

/-- R113: the value of an integrator object: what it was last given, or its default of zero bytes. -/
def State.integValue (s : State) (r : ObjRow) : List Byte :=
  let v := s.obj r.idx r.sub
  if v.isEmpty then List.replicate r.defLen 0 else v

/-- An object's value as a session reads it. -/
def State.value (s : State) (readIndex idx sub : Nat) (r : ObjRow) : List Byte :=
  if Nat.beq sub 0 then toLE 1 (s.highest idx)
  else if integIdx idx then s.integValue r
  else (s.objView readIndex idx sub).getD (s.obj idx sub)

end Sys2Proof.Machine
end

