-- ==== Sys2Proof/Machine/Ranges.lean ====
section
/-! DEFINITION. The lengths and values an object takes (R81, R82, R89, R146, R151, R185, R214, R215, R236, R239, R240, R242, R267, R301, R304, R314,
R331, R346, R362, R381, R401, R418, R440, R455, R477). -/

namespace Sys2Proof.Machine

/-! ## Types -/

/-- Table 3.2: well-formed UTF-8: `more` bytes of a character are still to come, the next between lo and hi. -/
def utf8From : List Byte → Nat → Nat → Nat → Bool
  | [], more, _, _ => Nat.beq more 0
  | b :: t, 0, _, _ =>
    let n := b.toNat
    if n < 0x80 then utf8From t 0 0x80 0xBF
    else if 0xC2 ≤ n ∧ n ≤ 0xDF then utf8From t 1 0x80 0xBF
    else if n = 0xE0 then utf8From t 2 0xA0 0xBF
    else if n = 0xED then utf8From t 2 0x80 0x9F
    else if 0xE1 ≤ n ∧ n ≤ 0xEF then utf8From t 2 0x80 0xBF
    else if n = 0xF0 then utf8From t 3 0x90 0xBF
    else if n = 0xF4 then utf8From t 3 0x80 0x8F
    else if 0xF1 ≤ n ∧ n ≤ 0xF3 then utf8From t 3 0x80 0xBF
    else false
  | b :: t, k + 1, lo, hi => Nat.ble lo b.toNat && Nat.ble b.toNat hi && utf8From t k 0x80 0xBF

/-- Is a byte string well-formed UTF-8? -/
def utf8 (v : List Byte) : Bool := utf8From v 0 0x80 0xBF

/-- R82: the mantissa shifted left and the exponent lowered, while bits 23 and 22 agree and the exponent allows. -/
def bfShift : Nat → Int → Int → Int × Int
  | 0, m, e => (m, e)
  | k + 1, m, e => if -4194304 ≤ m ∧ m < 4194304 ∧ -128 < e then bfShift k (2 * m) (e - 1) else (m, e)

/-- R82: a BF24 value as it is stored: normalised, with the same numerical value. -/
def bfStored (v : List Byte) : List Byte :=
  let m := sx 24 (leAt v 0 3)
  if m = 0 then [0, 0, 0, 0]
  else
    let r := bfShift 23 m (sx 8 (leAt v 3 1))
    toLE 3 (enc 24 r.1) ++ toLE 1 (enc 8 r.2)

/-- R81: is a value one its type admits, and a number within the object's bounds? -/
def ObjRow.typeOk (r : ObjRow) (v : List Byte) : Bool :=
  let within (i : Int) : Bool := decide (r.lo ≤ i ∧ i ≤ r.hi)
  match r.type with
  | .u8 | .u16 | .u32 | .u64 | .stamp32 => within (fromLE v)
  | .i8 => within (sx 8 (fromLE v))
  | .i16 => within (sx 16 (fromLE v))
  | .i32 => within (sx 32 (fromLE v))
  | .time80 => Nat.ble (leAt v 6 4) 999999999
  | .text => utf8 v
  | .bf24 | .octets => true

/-! ## Lengths -/

/-- The objects whose value is a sequence of entries: is the length a whole number of them? -/
def entriesOk (idx sub n : Nat) (v : List Byte) : Bool :=
  if Nat.ble 0x5000 idx && Nat.ble idx 0x50FF && Nat.beq sub 5 then Nat.beq (n % 8) 0
  else if Nat.ble 0x2940 idx && Nat.ble idx 0x2941 && Nat.beq sub 5 then Nat.beq (n % 6) 0
  else
    match Obj.key idx sub with
    | 0x70000B => Nat.beq (n % 8) 0
    | 0x27000A => Nat.beq (n % 4) 0
    | 0x280003 => Nat.beq (n % 16) 0
    | 0x280005 => Nat.beq (n % 16) 0
    | 0x249001 => Nat.beq n (24 + 56 * leAt v 10 1)
    | 0x2B0201 => Nat.beq n (12 + 32 * leAt v 8 1)
    | 0x2B0301 => Nat.beq n 20 || Nat.beq n 117
    | _ => true

/-- R81, check 11: is the length the object's? -/
def ObjRow.lengthOk (r : ObjRow) (idx sub : Nat) (v : List Byte) : Bool :=
  Nat.ble r.minLen v.length && Nat.ble v.length r.maxLen && entriesOk idx sub v.length v

/-! ## Ranges by chapter -/

/-- Is every element of a list of bytes distinct from the others? -/
def bytesDistinct (v : List Byte) : Bool := distinct (v.map (fun b => b.toNat))

/-- Table 5.2: the first centre in kHz and the number of channels of a spacing, by the variant. -/
def State.channelPlan (s : State) (spacing : Nat) : Nat × Nat :=
  if s.objN 0x1000 3 = 0x4E then
    match spacing with
    | 200 => (902200, 129) | 400 => (902400, 64) | 800 => (902800, 32) | 1200 => (903000, 21) | _ => (0, 0)
  else
    match spacing with
    | 200 => (863100, 34) | 400 => (863200, 17) | 800 => (863400, 8) | 1200 => (863600, 5) | _ => (0, 0)

/-- R151: does a hop channel's band overlap a discovery channel's? -/
def State.bandsMeet (s : State) (spacing hop disc : Nat) : Bool :=
  let a := (s.channelPlan spacing).1 + hop * spacing
  let b := (s.channelPlan 200).1 + disc * 200
  Nat.blt (2 * a) (2 * b + spacing + 200) && Nat.blt (2 * b) (2 * a + spacing + 200)

/-- R151: are a hop set and discovery channels consistent, at the spacing of transceiver 0's PHY mode? -/
def State.hopOk (s : State) (hop disc : List Byte) : Bool :=
  let sp := phySpacing (s.objN 0x2210 1 % 256)
  bytesDistinct hop && hop.all (fun h => Nat.blt h.toNat (s.channelPlan sp).2) && disc.all (fun d => Nat.blt d.toNat (s.channelPlan 200).2) &&
    hop.all (fun h => disc.all (fun d => !s.bandsMeet sp h.toNat d.toNat))

/-- Table 5.1, R185: is it a PHY mode with an MCS of the option? -/
def phyModeOk (v : Nat) : Bool :=
  let mcs := v / 256
  match v % 256 with
  | 0x11 => Nat.ble mcs 3
  | 0x12 => Nat.ble mcs 5
  | 0x13 => Nat.ble 1 mcs && Nat.ble mcs 5
  | 0x14 => Nat.ble 2 mcs && Nat.ble mcs 6
  | c => Nat.ble 1 c && Nat.ble c 5 && Nat.ble mcs 15

/-- R151, R152, R185: the mesh objects. -/
def State.meshRange (s : State) (idx sub : Nat) (v : List Byte) : Bool :=
  if Nat.beq idx 0x2210 then
    phyModeOk (fromLE v) && ((s.obj 0x2200 2).isEmpty || Nat.beq (phySpacing (fromLE v % 256)) (phySpacing (s.objN 0x2210 1 % 256)))
  else if Nat.beq idx 0x2200 && Nat.beq sub 2 then
    s.hopOk v (s.obj 0x2200 4) && (upFrom 1 4).all (fun n => Nat.beq (phySpacing (s.objN 0x2210 n % 256)) (phySpacing (s.objN 0x2210 1 % 256)))
  else if Nat.beq idx 0x2200 && Nat.beq sub 4 then s.hopOk (s.obj 0x2200 2) v
  else true

/-- R89, R115, R146, R477: keys, anchors, clocks, and the objects that name what they act on. -/
def State.namedRange (s : State) (k : Nat) (v : List Byte) : Bool :=
  match k with
  | 0x101001 => !(Nat.beq (fromLE v) 0) || Nat.beq (s.objN 0x1010 1) 0
  | 0x101101 => !(Nat.beq (fromLE v) 0) || Nat.beq (s.objN 0x1011 1) 0
  | 0x213002 => civil8Ok v
  | 0x213003 => civil8Ok v && Nat.ble (leAt v 7 1) 1
  | 0x2C0005 => Nat.beq (fromLE v) 1
  | 0x2C000B => Nat.ble (fromLE v) 100 || Nat.beq (fromLE v) 0xFF
  | 0x2E0002 => Nat.blt (fromLE v) (2 ^ 31)
  | 0x2E0008 => decide (v = s.eui ++ List.replicate 8 0)
  | 0x2E1001 => Nat.beq (leAt v 2 2) 0 && drlOffsets.contains (leAt v 0 2)
  | 0x70000D => Nat.beq (fromLE v) 1
  | 0x24000C => Nat.beq (fromLE v) 1
  | _ => true

/-- R239, Table 8.1, R242: civil time and the fields of a schedule program. -/
def State.scheduleRange (_s : State) (idx sub : Nat) (v : List Byte) : Bool :=
  let i16 (o : Nat) : Int := sx 16 (leAt v o 2)
  let b (o : Nat) : Nat := leAt v o 1
  if Nat.beq idx 0x2500 && Nat.beq sub 8 then
    decide (-720 ≤ i16 0 ∧ i16 0 ≤ 840 ∧ 0 ≤ i16 2 ∧ i16 2 ≤ 120) && Nat.ble (b 4) 12 && Nat.ble 1 (b 5) && Nat.ble (b 5) 12 &&
      Nat.ble (b 6) 23 && Nat.beq (b 7) 0
  else if Nat.ble 0x5000 idx && Nat.ble idx 0x50FF then
    let date (m d : Nat) : Bool := Nat.ble 1 m && Nat.ble m 12 && Nat.ble 1 d && Nat.ble d (monthDays 0 m)
    match sub with
    | 2 => Nat.blt (b 4) 128 && Nat.beq (leAt v 6 2) 0 && (Nat.beq (b 5) 0 || (date (b 0) (b 1) && date (b 2) (b 3)))
    | 3 | 4 =>
      Nat.beq (b 1) 0 && (if b 0 = 0 then decide (0 ≤ i16 2 ∧ i16 2 ≤ 1439) else Nat.beq (b 0) 1 && decide (-240 ≤ i16 2 ∧ i16 2 ≤ 240))
    | 5 => (upFrom 0 (v.length / 8)).all (fun k =>
        let m := i16 (8 * k + 2)
        Nat.ble (b (8 * k)) 2 && Nat.beq (b (8 * k + 1)) 0 && Nat.blt (leAt v (8 * k + 4) 2) 1024 &&
          (if b (8 * k) = 2 then decide (-1439 ≤ m ∧ m ≤ 0) else decide (0 ≤ m ∧ m ≤ 1439)))
    | _ => true
  else true

/-- R214, R215, R236, R301: the report cards and the cohorts' key slots. -/
def State.cardRange (s : State) (idx sub : Nat) (v : List Byte) : Bool :=
  let n := fromLE v
  if Nat.ble 0x6000 idx && Nat.blt idx 0x7000 then
    match sub with
    | 6 => Nat.ble n 3 || Nat.beq n 0xFF
    | 0x18 => Nat.ble n 1
    | 0x20 => Nat.ble n 63 || Nat.beq n 0xFF
    | 0x21 => Nat.ble n 4095 || Nat.beq n 0xFFFF
    | 0x60 => Nat.ble n 4 || Nat.beq n 0xFF
    | _ => true
  else if Nat.ble 0x7001 idx && Nat.ble idx 0x7004 && (Nat.beq sub 3 || Nat.beq sub 4) then
    (upFrom 0x7001 4).all (fun i => Nat.beq i idx || !(Nat.beq (s.objN i 3) n || Nat.beq (s.objN i 4) n))
  else true

/-- R236, R263, R267: values that must agree with others. -/
def State.agreeRange (s : State) (k : Nat) (v : List Byte) : Bool :=
  let n := fromLE v
  let pred (step period horizon : Nat) : Bool := Nat.beq (period % step) 0 && Nat.ble horizon (300 * step)
  match k with
  | 0x240005 => pred n (s.objN 0x2400 9) (s.objN 0x2400 6)
  | 0x240006 => pred (s.objN 0x2400 5) (s.objN 0x2400 9) n
  | 0x240009 => pred (s.objN 0x2400 5) n (s.objN 0x2400 6)
  | 0x250004 => Nat.ble (n + s.objN 0x2500 5) 10 && (upFrom 0 4).all (fun c => Nat.ble 1 (s.lmCapacity c n))
  | 0x250005 => Nat.ble (s.objN 0x2500 4 + n) 10
  | _ => true

/-- R301, R401, R304, R314, R346, R362, R381: metering, the buses and the local lighting. -/
def State.plantRange (s : State) (k : Nat) (v : List Byte) : Bool :=
  let n := fromLE v
  match k with
  | 0x260001 => Nat.beq n 50 || Nat.beq n 60
  | 0x260006 => Nat.beq n 10 || Nat.beq n 20
  | 0x260008 => v.all (fun b => Nat.ble 32 b.toNat)
  | 0x265001 => Nat.beq (3600 % n) 0
  | 0x270001 => [125, 250, 500, 1000].contains n && Nat.ble n (s.objN 0x2700 2)
  | 0x270002 => [1000, 2000, 4000, 5000, 8000].contains n && Nat.ble (s.objN 0x2700 1) n
  | 0x270008 => Nat.ble 1000 n && Nat.ble n 100000
  | 0x270009 => isPow2In 1 64 n
  | 0x280001 => Nat.ble n 1
  | 0x280003 | 0x280005 => (upFrom 0 (v.length / 16)).all (fun i => Nat.ble (leAt v (16 * i + 12) 1) 32 && Nat.beq (leAt v (16 * i + 13) 1) 0)
  | 0x290001 => Nat.blt n 8
  | 0x290005 => Nat.blt (leAt v 0 2) (leAt v 2 2) && Nat.ble (leAt v 2 2) 4095
  | _ => true

/-- R115: TRUST_ANCHOR_n. -/
def anchorRange (idx : Nat) (v : List Byte) : Bool := !(Nat.beq idx 0x1020) || Nat.ble (fromLE v) 255 || Nat.beq (fromLE v) 0xFFFF

/-- Check 12: is a value of the right length within the object's range? -/
def State.rangeOk (s : State) (r : ObjRow) (idx sub : Nat) (v : List Byte) : Bool :=
  let k := Obj.key idx sub
  r.typeOk v && (integIdx idx || (anchorRange idx v && s.namedRange k v && s.meshRange idx sub v && s.scheduleRange idx sub v && s.cardRange idx sub v &&
    s.agreeRange k v && s.plantRange k v))

end Sys2Proof.Machine
end

