-- ==== Sys2Proof/Machine/Hooks.lean ====
section
/-! DEFINITION. What a dictionary write needs of the state (check 10 of R96), and what it does when it is applied (R83, R85, R89, R95, and the
rules that name each object). -/

namespace Sys2Proof.Machine

/-- The side of a request that its session gives: the session, whether it is the mailbox, and whether a persistent write succeeds. -/
structure Writer where
  sess : Nat := 0
  mailbox : Bool := false
  written : Bool := true
  deriving DecidableEq, Repr

/-! ## Authorisation and modes -/

/-- R89: may a key object take its first key? -/
def State.firstKey (s : State) (idx sub : Nat) : Bool :=
  Nat.beq sub 1 && (Nat.beq idx 0x1010 || Nat.beq idx 0x1011) && Nat.beq (s.objN idx 1) 0 && decide (s.mode.mode = .commission)

/-- R87, R89, R418, Table 15.6: the authorisation a write needs; `v` is the value where it is known. -/
def State.authNeeded (s : State) (mailbox : Bool) (r : ObjRow) (idx sub : Nat) (v : Option (List Byte)) : ObjAuth :=
  let k := Obj.key idx sub
  if s.firstKey idx sub then .none
  else if k = 0x2B0301 then (if mailbox && (v.map (fun b => Nat.ble 128 (leAt b 1 1))).getD true then .none else .owner)
  else if k = 0x2C0006 then (if s.updState = 4 then .owner else .none)
  else r.auth

/-- R83: an RWL object while OWNER_LOCK is 1. -/
def State.lockedNow (s : State) (r : ObjRow) : Bool := decide (r.access = .rwl) && Nat.beq (s.objN 0x1010 2) 1

/-! ## Check 10 -/

/-- Table 3.7: the statuses of check 10. -/
def stTamper : Nat := 9
def stConflict : Nat := 0x0A

/-- R378: is an object covered by a bit of LOCAL_OWNER that is set? -/
def State.ownedAway (s : State) (idx : Nat) : Bool :=
  let own := s.objN 0x2900 1
  (Nat.ble 0x2910 idx && Nat.ble idx 0x2927 && Nat.testBit own 0) || (Nat.beq idx 0x2940 && Nat.testBit own 1) ||
    (Nat.beq idx 0x2941 && Nat.testBit own 2)

/-- R424, R426: the reason an update request is refused for before its value is looked at, 0 for none. -/
def State.updFixed (s : State) (k : Nat) : Nat :=
  match k with
  | 0x2C0002 => s.updReasons true
  | 0x2C0003 =>
    let r := s.updReasons false
    if r = 0 ∧ s.updState ≠ 1 ∧ s.updState ≠ 2 then 10 else r
  | 0x2C0005 => s.activateReason
  | _ => 0

/-- Check 10, as far as the value does not matter: 0, or the status, with the reason of Table 15.3 where there is one. -/
def State.stateFixed (s : State) (mailbox : Bool) (idx sub : Nat) : Nat × Nat :=
  let k := Obj.key idx sub
  let conflict (b : Bool) : Nat × Nat := (if b then stConflict else 0, 0)
  match k with
  | 0x2B0101 | 0x2B0201 | 0x2B0301 => (if s.tamperLatched then stTamper else 0, 0)
  | 0x2C0002 | 0x2C0003 | 0x2C0005 =>
    let r := s.updFixed k
    (if r = 0 then 0 else reasonStatus r, r)
  | 0x210002 => conflict s.time.utcValid
  | 0x213002 => conflict (Nat.beq s.time.servoState 2)
  | 0x250006 => conflict (s.swapPending || s.setLacks (1 - s.activeBank))
  | 0x2D0101 => conflict (!mailbox)
  | _ =>
    if Nat.ble 0x2530 idx && Nat.ble idx 0x253F then conflict (s.swapPending || Nat.beq s.activeBank (sub - 1))
    else conflict (s.ownedAway idx)

/-- Is a value all zero bytes? -/
def zeros (v : List Byte) : Bool := v.all (fun b => decide (b = 0))

/-- R189, Table 6.14: an EUI64 of a report card: in EMPTY only, and no other card's. -/
def State.cardEuiOk (s : State) (n : Nat) (v : List Byte) : Bool :=
  Nat.beq (s.card n 3) 0 && (zeros v || !s.objs.any (fun (e : Nat × List Byte) =>
    Nat.beq (e.1 % 256) 1 && Nat.ble 0x6000 (e.1 / 256) && Nat.blt (e.1 / 256) 0x7000 && !(Nat.beq (e.1 / 256) (0x6000 + n)) && decide (e.2 = v)))

/-- R331: an EUI64 of a peripheral entry: no other entry's. -/
def State.nodeEuiOk (s : State) (idx : Nat) (v : List Byte) : Bool :=
  zeros v || (upFrom 0x2781 126).all (fun i => Nat.beq i idx || !decide (s.obj i 1 = v))

/-- R316: would the Timetable be refused with an object so written? -/
def State.tableRefused (s : State) (idx sub : Nat) (v : List Byte) : Bool :=
  let t := (s.setObj idx sub v).tableStage 0
  !(Nat.beq (t.tableBad 0 (t.tableStaged 0)) 0)

/-- R418: does KEY_COMMAND take a command code for a slot? -/
def keyObjectTakes (slot code : Nat) : Bool :=
  if (1 ≤ slot ∧ slot ≤ 3) ∨ slot = 8 ∨ slot = 9 ∨ (16 ≤ slot ∧ slot ≤ 24) then Nat.beq code 6
  else if 32 ≤ slot ∧ slot ≤ 47 then Nat.beq code 3 || Nat.beq code 6 || Nat.beq code 7
  else Nat.ble 128 slot

/-- Check 10, as far as it needs the value. -/
def State.stateValue (s : State) (idx sub : Nat) (v : List Byte) : Nat × Nat :=
  let conflict (b : Bool) : Nat × Nat := (if b then stConflict else 0, 0)
  match Obj.key idx sub with
  | 0x20000C => conflict ((upFrom 0 3).any (fun k => Nat.testBit (fromLE v) k && s.rdB Reg.AON_STATUS (3 + k)))
  | 0x250001 => conflict ((upFrom 0 16).any (fun k => Nat.testBit (fromLE v) k && !setValid (s.setObject s.activeBank k)))
  | 0x249001 => conflict (!s.edgeOk v)
  | 0x270008 | 0x270009 | 0x27000A | 0x27000B => conflict (s.tableRefused idx sub v)
  | 0x2B0101 => conflict (!Config.pointValid 0x22 v || decide (s.chainCheck 3 ≠ .ok))
  | 0x2B0201 => conflict (!s.importAccepts v)
  | 0x2B0301 => conflict (!keyObjectTakes (leAt v 1 1) (leAt v 0 1))
  | 0x2C0002 =>
    let r := s.manifestReason v
    (if r = 0 then 0 else reasonStatus r, r)
  | 0x2E0002 => conflict (!decide (BitVec.ofNat 32 (fromLE v) &&& s.rd Reg.SUP_ACTIVE = 0))
  | _ =>
    if Nat.ble 0x6000 idx && Nat.blt idx 0x7000 && Nat.beq sub 1 then conflict (!s.cardEuiOk (idx - 0x6000) v)
    else if Nat.ble 0x6000 idx && Nat.blt idx 0x7000 && Nat.beq sub 4 then conflict (!s.registrationOk (idx - 0x6000) (fromLE v))
    else if Nat.ble 0x5000 idx && Nat.ble idx 0x50FF && (Nat.beq sub 3 || Nat.beq sub 4) then
      conflict (Nat.beq (leAt v 0 1) 1 && zeros (s.obj 0x2500 9))
    else if Nat.ble 0x2781 idx && Nat.ble idx 0x27FE && Nat.beq sub 1 then conflict (!s.nodeEuiOk idx v)
    else (0, 0)

/-- What a failure of check 9 or 10 counts: the refusals of R423 and EDGE_REJECTS (R234). -/
def State.refusalCount (s : State) (k reason : Nat) : State :=
  if reason ≠ 0 then s.updRefuse reason else if k = 0x249001 then s.trafficCount 10 1 else s

/-! ## The value stored -/

/-- R83: a W1C or W1S object acts on the bits written as 1. -/
def mergeBits (set_ : Bool) (old v : List Byte) : List Byte :=
  let n := max old.length v.length
  List.zipWith (fun a b => if set_ then a ||| b else a &&& ~~~b) (fit n old) (fit n v)

/-- R194: an installation code, of a lantern or a peripheral, is held wrapped. -/
def codeObject (idx sub : Nat) : Bool :=
  Nat.beq sub 2 && (Nat.ble 0x6000 idx && Nat.blt idx 0x7000 || Nat.ble 0x2781 idx && Nat.ble idx 0x27FE)

/-- R82, R83, R194: the value that a write leaves in an object; the mailbox sets its own objects whole. -/
def State.stored (s : State) (w : Writer) (r : ObjRow) (idx sub : Nat) (v : List Byte) : List Byte :=
  if w.mailbox && integIdx idx then (if r.type = .bf24 then bfStored v else v) else
  if codeObject idx sub then s.codeWrap v else
  match r.access with
  | .w1c => mergeBits false (s.value 0 idx sub r) v
  | .w1s => mergeBits true (s.value 0 idx sub r) v
  | _ => if r.type = .bf24 then bfStored v else v

/-- R83, R85: an object takes its value; a volatile WO object of the manual holds none. -/
def State.putValue (s : State) (w : Writer) (r : ObjRow) (idx sub : Nat) (v : List Byte) : State :=
  let k := Obj.key idx sub
  let s1 := if r.access = .wo ∧ r.stored = false ∧ integIdx idx = false then s else s.setObj idx sub (s.stored w r idx sub v)
  if r.stored && integIdx idx then s1.persist k (s.obj idx sub) else s1

/-! ## What a written object does -/

/-- R273, R401: a write of a metrological object is recorded. -/
def State.metroRecord (s : State) (idx sub : Nat) (old v : List Byte) : State :=
  let p (b : List Byte) : Nat := fromLE (b.take 4)
  if Nat.beq idx 0x2600 && Nat.ble sub 0x0A then s.record 0x0A 1 sub (p old) (p v)
  else if Nat.beq idx 0x2A10 && (Nat.ble sub 8 || Nat.beq sub 0x0A) then s.record 0x0B 3 sub (p old) (p v)
  else s

/-- R106: the sessions that depend on a changed anchor end once the write is answered; until then they depend on none. -/
def State.anchorChanged (s : State) (n : Nat) : State :=
  { s with dict := { s.dict with sessions := s.dict.sessions.map (fun (e : Sess) => if Nat.beq e.anchor n then { e with anchor := 0 } else e) } }

/-- R106: the ring sessions whose anchor has changed end. -/
def State.anchorsEnd (s : State) : State :=
  (s.dict.sessions.filter (fun (e : Sess) => decide (e.kind = .ring) && Nat.beq e.anchor 0)).foldl (fun (t : State) (e : Sess) => t.sessEnd e.id) s

/-- R52: since when no ring session has been open. -/
def State.backhaulFollow (s : State) : State :=
  { s with mode := { s.mode with backhaulSince := if s.ringSessions.isEmpty then some (s.mode.backhaulSince.getD s.time.now) else none } }

/-- Tables 2.5 and 3.13: modes, tampers and anchors. -/
def State.hookSys (s : State) (k : Nat) (old v : List Byte) : State :=
  match k with
  | 0x200007 => { s with mode := { s.mode with lawWritten := some (fromLE v) } }
  | 0x20000C => if Nat.beq (fromLE v) 0 || !s.aonTakes then s else (s.tamperClear (fromLE v)).record 1 2 (fromLE v) 0 0
  | 0x20000D => s.aonApply
  | 0x201005 | 0x201006 | 0x201007 => if Nat.beq s.mode.mode.code (k % 256 - 1) then s.periodSet (1000 * fromLE v) else s
  | _ => if Nat.beq (k / 256) 0x1020 && !decide (old = v) then s.anchorChanged (k % 256) else s

/-- Table 4.6: clocks. -/
def State.hookTime (s : State) (k : Nat) (old v : List Byte) : State :=
  match k with
  | 0x210002 => { s with time := { s.time with offsetChanged := s.time.offsetChanged || !decide (old = v) } }
  | 0x210006 | 0x210007 | 0x210008 | 0x21100C | 0x21100D | 0x21100E | 0x21100F => s.timeApply
  | 0x212003 => s.timeApply.servoEnter s.time.servoState
  | 0x212001 => if old = v then s else s.ppsArm
  | 0x212002 => s.ppsArm
  | 0x213002 => if s.aonTakes then s.rtcSetTo (civilOf8 v) else s
  | 0x213003 => s.alarmApply
  | 0x213006 | 0x213007 => s.aonApply
  | _ => s

/-- R157, R185, R202: the objects that the cohorts' schedules and the MAC registers are built from. -/
def scheduleObject (k : Nat) : Bool :=
  (Nat.beq (k / 256) 0x2200 && Nat.ble (k % 256) 9) || Nat.beq (k / 256) 0x2210 || Nat.beq (k / 256) 0x2211 ||
    Nat.beq k 0x700001 || Nat.beq k 0x700004 || Nat.beq k 0x700005

/-- R202: the module builds and commits the cohorts' schedules anew. -/
def State.radiosBuild (s : State) : State := (upFrom 0 4).foldl State.radioBuild s

/-- Tables 6.14, 6.15, 7.7: cards, cohorts and traffic. COUNT_WINDOW and REGISTRATION are applied where they are stored. -/
def State.hookMesh (s : State) (k : Nat) (v : List Byte) : State :=
  match k with
  | 0x70000D => s.rebalance
  | 0x24000C => s.graphCommit
  | 0x70000A => (s.listedCards.filter (fun n => Nat.beq (s.card n 0x18) 1)).foldl State.probeConfig s
  | 0x249001 => s.edgeIn v
  | _ =>
    if scheduleObject k then s.radiosBuild
    else if Nat.ble 0x2450 (k / 256) && Nat.ble (k / 256) 0x248F && Nat.beq (k % 256) 1 then s.portApply (k / 256 - 0x2450)
    else if Nat.ble 0x6000 (k / 256) && Nat.blt (k / 256) 0x7000 && Nat.beq (k % 256) 0x18 then s.probeConfig (k / 256 - 0x6000)
    else s

/-- Tables 8.8, 8.10, 9.9, 13.5: light control, metering and calibration. -/
def State.hookPlant (s : State) (k : Nat) (old v : List Byte) : State :=
  let idx := k / 256
  let s1 := s.metroRecord idx (k % 256) old v
  match k with
  | 0x250001 | 0x250002 | 0x250003 => s1.ctlApply
  | 0x250004 | 0x250005 => s1.radiosBuild
  | 0x250006 => s1.swapRequest
  | 0x260005 | 0x260006 | 0x260007 | 0x260008 => { s1 with mtr := { s1.mtr with styleDue := true } }
  | 0x26000C => s1.wrF Reg.MTR_LATCH_CTRL 15 0 (max 1 (fromLE v))
  | 0x26000A => { s1 with mtr := { s1.mtr with resetDue := true } }
  | 0x2A100A => s1.channelClear (fromLE v)
  | _ => if Nat.ble 0x2530 idx && Nat.ble idx 0x253F then s1.setApply (k % 256 - 1) (idx - 0x2530) else s1

/-- R304: new bit rates wait for a controller's next bus idle; one that is off takes them at once. -/
def State.ratesChange (s : State) (b : Nat) : State :=
  if s.rdB (Reg.CAN_CTRL b) 0 then s.setCtl b { s.ctl_ b with ratesDue := true } else s.ratesApply b

/-- R326, R331: an entry's identity written: REGISTERED when both hold values; an EUI64 of zeros empties the entry and ends its session. -/
def State.nodeIdentity (s : State) (p : Nat) : State :=
  let eui := zeros (s.obj (0x2780 + p) 1)
  let code := (s.obj (0x2780 + p) 2).isEmpty
  if eui then
    let s1 := (s.setObjN (0x2780 + p) 3 1 0).nodeEnd p
    { s1 with dict := { s1.dict with links := s1.dict.links.filter (fun (e : EnvLink) => !(Nat.beq e.node p)) } }
  else if !code && Nat.beq (s.entry p 3) 0 then s.setObjN (0x2780 + p) 3 1 1
  else s

/-- Tables 10.10, 10.11, 11.6: the buses and the ring. -/
def State.hookBus (s : State) (k : Nat) : State :=
  let idx := k / 256
  let both (f : State → Nat → State) : State := (upFrom 0 2).foldl f s
  match k with
  | 0x270001 | 0x270002 | 0x270003 | 0x270004 => both State.ratesChange
  | 0x270005 | 0x270006 | 0x270007 => both State.canRoles
  | 0x270008 | 0x270009 | 0x27000A | 0x27000B => both (fun t b => (t.tableStage b).tableCommit b)
  | 0x280008 => s.wrF Reg.NET_HSR_CFG 7 0 (s.objN 0x2800 8)
  | 0x280009 => s.opticsAllow
  | 0x28000C => s.wrB Reg.NET_CTRL 2 (Nat.beq (s.objN 0x2800 0x0C) 1)
  | _ => if Nat.ble 0x2781 idx && Nat.ble idx 0x27FE && Nat.ble (k % 256) 2 then s.nodeIdentity (idx - 0x2780) else s

/-- Table 12.2: local lighting. -/
def State.hookLocal (s : State) (k : Nat) : State :=
  let idx := k / 256
  if Nat.beq k 0x290001 then s.localRun
  else if Nat.beq idx 0x2900 then s.localConfig
  else if Nat.ble 0x2910 idx && Nat.ble idx 0x2927 then
    (if Nat.beq (k % 256) 7 then s.snkClear (idx - 0x2910)
     else if s.localOwned 0 && s.localFollows (s.objN idx 1) then s.localChannel (idx - 0x2910) else s)
  else if Nat.ble 0x2940 idx && Nat.ble idx 0x2941 then
    (if Nat.beq (k % 256) 2 || Nat.beq (k % 256) 3 then s.localConfig
     else if s.localOwned (idx - 0x2940 + 1) && s.localFollows (s.objN idx 1) then (s.localHalyard (idx - 0x2940)).halCommit (idx - 0x2940)
     else s)
  else s

/-- R466, SUP_HOIST_CLR: the named flags are cleared, their marks with them, unless one of them is active; ECC_UNCORR releases its address. -/
def State.hoistClr (s : State) (mask : Word) : State :=
  if mask &&& s.rd Reg.SUP_ACTIVE = 0 then
    let s1 := (s.wr Reg.SUP_HOIST (s.rd Reg.SUP_HOIST &&& ~~~mask)).wr Reg.SUP_DRILLMARK (s.rd Reg.SUP_DRILLMARK &&& ~~~mask)
    if bit mask 5 then s1.wrB Reg.SUP_ECC_ADDR_HI 31 false else s1
  else s

/-- Tables 16.5 and 17.7: the log and the faults. -/
def State.hookFault (s : State) (w : Writer) (k : Nat) (v : List Byte) : State :=
  match k with
  | 0x2D0006 => s.highWaterApply
  | 0x2D0007 => { s with dict := { s.dict with sessions := s.dict.sessions.map (fun (e : Sess) =>
      if Nat.beq e.id w.sess then { e with readIndex := fromLE v } else e) } }
  | 0x2D0101 => s.integratorEvent v
  | 0x2E0002 => s.hoistClr (BitVec.ofNat 32 (fromLE v))
  | 0x2E0006 => s.drlMode
  | 0x2E0008 => { s with fault := { s.fault with debugUnlocked := true } }
  | _ => s

/-- The effect of a written object beyond its value. -/
def State.hook (s : State) (w : Writer) (k : Nat) (old v : List Byte) : State :=
  let idx := k / 256
  if Nat.blt idx 0x2100 then s.hookSys k old v
  else if Nat.blt idx 0x2200 then s.hookTime k old v
  else if Nat.blt idx 0x2500 || Nat.ble 0x5000 idx then s.hookMesh k v
  else if Nat.blt idx 0x2700 || (Nat.ble 0x2A00 idx && Nat.blt idx 0x2B00) then s.hookPlant k old v
  else if Nat.blt idx 0x2900 then s.hookBus k
  else if Nat.blt idx 0x2A00 then s.hookLocal k
  else if Nat.ble 0x2D00 idx && Nat.blt idx 0x3000 then s.hookFault w k v
  else s

/-! ## Writes that KEY, UPD, EVR and DRL decide -/

/-- R418: the command that a value of KEY_COMMAND spells. -/
def keyOfObject (v : List Byte) : KeyCmd :=
  { slot := leAt v 1 1, parent := leAt v 2 1, kind := leAt v 3 1, twin := leAt v 4 1, g := leAt v 5 1, attr := leAt v 6 2, label := slice v 8 4,
    context := slice v 12 8, data := v.drop 20 }

/-- Table 14.12: the dictionary status of a key command's status. -/
def keyStatus (st : Nat) : Nat := if st = 0 then 0 else if st = 2 then stTamper else stConflict

/-- A key command run for a write: its status and what it leaves. -/
def State.keyFor (s : State) (code : Nat) (c : KeyCmd) : Nat × State := (keyStatus (s.keyCheck code c), s.keyCommand code c)

/-- R452: LOG_CLEAR: a flush, then the comparison, then the clearing. -/
def State.logClearWrite (s : State) (v : Nat) : Nat × State :=
  let s1 := s.flushLog
  if v = s1.evr.lastSeq then (0, s1.logClear v) else (stConflict, s1)

/-- R471, R477: DRILL_COMMAND: a write that DRL refuses is refused. -/
def State.drillWrite (s : State) (v : List Byte) : Nat × State :=
  let r := s.drlWrite (leAt v 0 2) (BitVec.ofNat 32 (leAt v 4 4))
  (if r.1 then stConflict else 0, r.2)

/-- Check 13: a value of the right form applied: its status, and the state. -/
def State.applyValue (s : State) (w : Writer) (r : ObjRow) (idx sub : Nat) (v : List Byte) : Nat × State :=
  match Obj.key idx sub with
  | 0x240001 => (0, s.winChange (fromLE v))
  | 0x2B0101 => (s.putValue w r idx sub v).keyFor 5 { slot := 5, parent := 3, kind := 1, twin := 5, attr := 0x41 }
  | 0x2B0201 => (0, s.importAll v)
  | 0x2B0301 => s.keyFor (leAt v 0 1 % 16) (keyOfObject v)
  | 0x2C0002 => s.manifestWrite v
  | 0x2C0003 => s.stageBlock v
  | 0x2C0005 => s.activateWrite
  | 0x2C0006 => (0, s.abortWrite)
  | 0x2C0009 => (0, s.integratorHealthy w.mailbox)
  | 0x2C000C => (0, s.sealWrite (fromLE v))
  | 0x2C1005 => (0, s.lanternRelease (fromLE v))
  | 0x2D0005 => s.logClearWrite (fromLE v)
  | 0x2E1001 => s.drillWrite v
  | k =>
    if Nat.ble 0x6000 idx && Nat.blt idx 0x7000 && Nat.beq sub 4 then (0, s.registrationApply (idx - 0x6000) (fromLE v))
    else (0, (s.putValue w r idx sub v).hook w k (s.value 0 idx sub r) v)

/-! ## Checks 9 to 13 -/

/-- Check 9: is the object writable in the mode in force? -/
def State.modeAdmits (s : State) (r : ObjRow) : Bool := s.inModes r.modes

/-- A write whose first eight checks have passed: checks 9 to 13 of R96, the hold of a segmented write among them: its status, and the state. An
integrator object on the mailbox skips check 9 (R114). -/
def State.writeFrom9 (s : State) (w : Writer) (r : ObjRow) (idx sub : Nat) (held : Bool) (v : List Byte) : Nat × State :=
  let k := Obj.key idx sub
  let long := r.lengthOk idx sub v
  let fixed := s.stateFixed w.mailbox idx sub
  let byValue := if long then s.stateValue idx sub v else (0, 0)
  if !(w.mailbox && integIdx idx) && !s.modeAdmits r then
    (8, if k = 0x2C0002 ∨ k = 0x2C0003 ∨ k = 0x2C0005 then s.updRefuse 1 else s)
  else if fixed.1 = stTamper then (stTamper, s.refusalCount k fixed.2)
  else if held then (0x0D, s)
  else if fixed.1 ≠ 0 then (fixed.1, s.refusalCount k fixed.2)
  else if byValue.1 ≠ 0 then (byValue.1, s.refusalCount k byValue.2)
  else if !long then (0x0B, s)
  else if !s.rangeOk r idx sub v then (0x0C, s)
  else if r.stored && !w.written || codeObject idx sub && decide (s.chainCheck 1 ≠ .ok) then (0x11, s)
  else s.applyValue w r idx sub v

end Sys2Proof.Machine
end

