-- ==== Sys2Proof/Machine/RegWrite.lean ====
section
/-! DEFINITION. What a write of each register does: who may write its bits, what it stores, and the effect of the registers that
act (R7, R8, R16, R38, R134, R148, R187, R332, R350, R363, R365, R376, R402, R408, R420, R456, R478, R479 and the field tables). In
each block's function `w` is the word the access codes leave, `c` the written word over the bits the initiator may write. -/

namespace Sys2Proof.Machine

/-! ## Who may write which bits -/

/-- R38, R134, R350, R478: the bits of a register that an initiator may write. -/
def State.mayBits (s : State) (ini : Initiator) (slot off : Nat) (r : RegRow) : Word :=
  let m1 := if ini.resident then r.writable else r.writable &&& ~~~r.res
  let m2 := if ini = .sup then m1 else m1 &&& ~~~r.sup
  if slot = 15 ∧ ini = .app3 ∧ 0x100 ≤ off ∧ off < 0x500 then (if s.dmaGranted ((off - 0x100) / 0x40) then r.writable else m2)
  else if slot = 22 ∧ 0x40 ≤ off ∧ off < 0x50 then (if ini = kicker ((off - 0x40) / 4) then r.writable else 0)
  else m2

/-- R350: the bits of the global DMA registers that core 3's writes reach: those of channels granted to it. -/
def State.dmaGlobal (s : State) (ini : Initiator) (slot off : Nat) : Word :=
  if slot = 15 ∧ ini = .app3 ∧ off < 0x100 then
    let g := s.rdF Reg.SYS_PERM_DMA 15 0
    BitVec.ofNat 32 (g + 65536 * g)
  else 0xFFFFFFFF

/-! ## SYS and AON -/

/-- Tables 1.17 and 1.19: SYS registers that act. -/
def State.putSys (s : State) (off a : Nat) (w c : Word) : State :=
  match off with
  | 0x20 => s.permWrite 0 w.toNat
  | 0x24 => s.permWrite 1 w.toNat
  | 0x28 => s.permWrite 2 w.toNat
  | 0x30 =>
    if bit c 1 then s.core3Restart
    else if bit w 0 then (if s.rdB a 0 then s else s.core3Start) else if s.rdB a 0 then s.core3Stop else s
  | _ => s.wr a w

/-- R142, R143, Table 4.13: AON_RTC_CTRL: the flags clear, ALARM_EN and COMP_EN are stored, HALT acts. -/
def State.putRtcCtrl (s : State) (ini : Initiator) (w : Word) : State :=
  let a := Reg.AON_RTC_CTRL
  let s1 := s.wr a (putBit w 0 (s.rdB a 0))
  if ini = .sup then (if bit w 0 then s1.rtcHalt else s1.rtcRelease) else s1

/-- R16, Tables 2.7 and 4.13: AON registers; without the AON clock a write has no effect. -/
def State.putAon (s : State) (ini : Initiator) (off a : Nat) (w c : Word) : State :=
  if !s.aonTakes then s
  else match off with
    | 0x10 => s.contWrite c
    | 0x18 => s.heartbeat c
    | 0x28 => s.tamperClear (fld c 2 0)
    | 0x50 => if bit c 0 then (if s.rdB Reg.AON_STATUS 0 then s else s.allOff) else if bit c 1 then s.appPowerOff else s
    | 0x100 => s.putRtcCtrl ini w
    | 0x10C => s.rtcWrite 0 c.toNat
    | 0x110 => s.rtcWrite 1 c.toNat
    | 0x114 => s.rtcWrite 2 c.toNat
    | 0x118 => s.rtcWrite 3 c.toNat
    | 0x120 => s.rtcWrite 4 c.toNat
    | 0x124 => s.rtcWrite 5 c.toNat
    | _ => s.wr a w

/-! ## TIME -/

/-- Table 4.11: a register of trigger unit n; a unit's instant, period and width are taken while it is not armed (R135). -/
def State.putTrig (s : State) (n off a : Nat) (w c : Word) : State :=
  match off with
  | 0 =>
    let s1 := if n ≤ 7 ∨ n = 11 then s.wrB a 2 (bit w 2) else s
    if bit c 1 then s1.trigDisarm n else if bit c 0 then s1.trigArm n else s1
  | 0x18 => s.wr a w
  | _ => if s.trigArmed n then s else s.wr a w

/-- Tables 4.8 to 4.11: TIME registers. -/
def State.putTime (s : State) (off a : Nat) (w c : Word) : State :=
  if Nat.ble 0x200 off && Nat.blt off 0x400 then s.putTrig ((off - 0x200) / 32) ((off - 0x200) % 32) a w c
  else match off with
    | 0x3C => s.timeCmd c
    | 0x50 => s.freqWrite (sx 32 c.toNat)
    | 0x60 =>
      let s1 := s.wr a w
      s1.servoEnter (if bit w 0 then s1.time.servoState else 0)
    | 0x64 => if s.rdF Reg.TIME_SERVO_CTRL 3 2 = 1 then s else s.servoInput (sx 32 c.toNat)
    | 0x6C => s.wr a (setFld w 31 16 (min 5000 (fld w 31 16)))
    | 0x70 => s.wr a (setFld (setFld w 23 16 (max 1 (fld w 23 16))) 31 24 (max 1 (fld w 31 24)))
    | _ => s.wr a w

/-! ## MAC, SCAN and CTL -/

/-- Table 5.18: a ring size. -/
def ringSize (v : Nat) : Nat := if isPow2In 16 4096 v then v else 16

/-- R181: a ring that a write moves is no longer the one firmware set up. -/
def State.ringMoved (s : State) (n : Nat) : State := s.setMac n { s.mac n with rings := false }

/-- R191, Tables 5.3 and 5.19: a write of a neighbour entry or a staged cell: VALID from 0 to 1 restarts MISSED, WINDOW and SILENT_SF, and bits
[31:25] of a cell read 0. -/
def State.putMacTable (s : State) (off a : Nat) (w : Word) : State :=
  if 0x9000 ≤ off then s.wr a (setFld w 31 25 0)
  else if 0x1000 ≤ off ∧ off % 32 = 0 ∧ bit w 12 = true ∧ s.rdB a 12 = false then s.wr a (setFld w 27 14 0)
  else s.wr a w

/-- Tables 5.17 and 5.18: MAC registers. -/
def State.putMac (s : State) (n off a : Nat) (w c : Word) : State :=
  match off with
  | 0 => s.macCtrlWrite n c
  | 0x10 => s.wr a (if sx 8 (fld w 31 24) > 54 then setFld w 31 24 54 else w)
  | 0x28 => s.wr a (setFld w 7 4 (max 1 (fld w 7 4)))
  | 0x30 =>
    let s1 := s.wr a (putBit w 0 (s.rdB a 0))
    if bit c 0 then s1.scheduleCommit n else s1
  | 0x48 =>
    let s1 := s.wrF a 31 24 (fld w 31 24)
    if fld w 7 0 = s.rdF a 7 0 then s1 else s1.macKeySwitch n (fld w 7 0)
  | 0x50 | 0x54 | 0x70 | 0x74 => (s.ringMoved n).wr a w
  | 0x58 => (s.ringMoved n).wr a (setFld w 12 0 (ringSize (fld w 12 0)))
  | 0x78 => (s.ringMoved n).wr a (setFld w 12 0 (ringSize (fld w 12 0)))
  | _ => s.putMacTable off a w

/-- Table 5.21: SCAN registers. -/
def State.putScan (s : State) (off a : Nat) (w : Word) : State :=
  match off with
  | 0x78 => s.wr a (setFld w 12 0 (ringSize (fld w 12 0)))
  | _ => s.wr a w

/-- Table 8.13: CTL_CTRL: EN, OUTPUT_EN and SOURCE are stored; EN starts the predictor afresh or ends the sample; SWAP asks for a swap. -/
def State.putCtlCtrl (s : State) (w c : Word) : State :=
  let a := Reg.CTL_CTRL
  let was := s.rdB a 0
  let run := bit w 0
  let s1 := s.wr a (putBit w 2 (s.rdB a 2))
  let s2 := if run && !was then s1.predictorZero else s1
  let s3 := if run then s2 else ({ s2 with ctl := { s2.ctl with sample := none } }).wrB Reg.CTL_STATUS 1 false
  let s4 := s3.wrB Reg.CTL_STATUS 0 run
  if bit c 2 then s4.swapRequest else s4

/-- Table 8.13: a base register stored; where the address then lies outside the control engine working region, the base of that region
stands instead. -/
def State.putBase (s : State) (lo hi : Nat) (low : Nat) : State :=
  let s1 := s.wrN lo ((s.rd lo).toNat / 2 ^ low * 2 ^ low)
  let a := (s1.rd lo).toNat + s1.rdF hi 7 0 * 2 ^ 32
  if 0x90000000 ≤ a ∧ a < 0x98000000 then s1 else (s1.wrN lo 0x90000000).wrN hi 0

/-- Table 8.13: CTL registers. -/
def State.putCtl (s : State) (off a : Nat) (w c : Word) : State :=
  match off with
  | 0 => s.putCtlCtrl w c
  | 0x10 => s.ctlPeriod (fld w 19 0)
  | 0x50 => (s.wr a w).putBase Reg.CTL_BANK_BASE_LO Reg.CTL_BANK_BASE_HI 12
  | 0x54 => (s.wr a w).putBase Reg.CTL_BANK_BASE_LO Reg.CTL_BANK_BASE_HI 12
  | 0x58 => (s.wr a w).putBase Reg.CTL_OUT_BASE_LO Reg.CTL_OUT_BASE_HI 15
  | 0x5C => (s.wr a w).putBase Reg.CTL_OUT_BASE_LO Reg.CTL_OUT_BASE_HI 15
  | 0x60 => (s.wr a w).putBase Reg.CTL_IN_BASE_LO Reg.CTL_IN_BASE_HI 12
  | 0x64 => (s.wr a w).putBase Reg.CTL_IN_BASE_LO Reg.CTL_IN_BASE_HI 12
  | _ => s.wr a w

/-! ## MTR and CAL -/

/-- Table 9.12: MTR_CTRL: EN and CURRENT_ONLY take effect; metering that begins flags its latch and waits for a crossing. -/
def State.putMtrCtrl (s : State) (w : Word) : State :=
  let was := s.rdB Reg.MTR_CTRL 0
  let s1 := ((s.wr Reg.MTR_CTRL w).wrB Reg.MTR_STATUS 0 (bit w 0)).wrB Reg.MTR_STATUS 1 (bit w 0 && bit w 1)
  if bit w 0 && !was then (s1.latchFlag (2 ^ 5)).mtrResume else s1

/-- Table 9.12: MTR registers. -/
def State.putMtr (s : State) (off a : Nat) (w : Word) : State :=
  if Nat.ble 0x20 off && Nat.blt off 0x48 then (s.wr a (setFld w 15 8 (max 32 (fld w 15 8)))).modStyled ((off - 0x20) / 4)
  else if Nat.ble 0x100 off && Nat.blt off 0x1A0 && Nat.beq (off % 16) 8 then
    s.wr a (BitVec.ofNat 32 (enc 32 (clampI (-1000000) 1000000 (sx 32 w.toNat))))
  else match off with
    | 0 => s.putMtrCtrl w
    | 0x10 => s.wr a (setFld w 15 0 (max 1 (fld w 15 0)))
    | 0x18 => s.routeStage w
    | _ => s.wr a w

/-- Table 13.8: CAL registers. -/
def State.putCal (s : State) (off a : Nat) (w c : Word) : State :=
  match off with
  | 0 => ((s.wr a w).wrB Reg.CAL_STATUS 0 (bit w 0)).wrB Reg.CAL_STATUS 1 (bit w 2)
  | 0x14 => s.wr a (setFld w 11 2 (clampN 50 300 (fld w 11 2)))
  | 0x40 => s.accWrite 0 c
  | 0x60 => s.accWrite 1 c
  | _ => s.wr a w

/-! ## The cabinet bus -/

/-- R310, R332: a word of transmit buffer m: ignored, with BUF_BUSY, while the buffer is pending. -/
def State.putBuffer (s : State) (b off a : Nat) (w : Word) : State :=
  if s.bufPending b ((off - 0x9000) / 80) then s.canInt b 15 else s.wr a w

/-- Table 10.13: CANn registers. -/
def State.putCan (s : State) (ini : Initiator) (b off a : Nat) (w c : Word) : State :=
  if Nat.ble 0x9000 off && Nat.blt off 0xA400 then s.putBuffer b off a w
  else match off with
    | 0 => s.canCtrl b w
    | 0x10 => s.wr a (setFld w 9 0 (clampN 8 385 (fld w 9 0)))
    | 0x14 => s.wr a (setFld w 7 0 (max 8 (fld w 7 0)))
    | 0x1C => s.wr a (setFld w 26 24 (min 6 (fld w 26 24)))
    | 0x20 => s.wr a (setFld w 5 0 (clampN 1 32 (fld w 5 0)))
    | 0x24 =>
      let s1 := s.wr a (putBit w 0 (s.rdB a 0))
      if bit c 0 then s1.tableCommit b else s1
    | 0x40 => s.bufsRequest ini b false c
    | 0x44 => s.bufsRequest ini b true c
    | 0x48 => s.bufsCancel ini b false c none
    | 0x4C => s.bufsCancel ini b true c none
    | 0x64 => s.fifoFree b 0 (fld c 6 0)
    | 0x6C => s.fifoFree b 1 (fld c 6 0)
    | _ => s.wr a w

/-! ## NET and DMA -/

/-- Table 11.8: NET registers; HSR is written at start only. -/
def State.putNet (s : State) (off a : Nat) (w : Word) : State :=
  match off with
  | 0 => s.wr a (putBit w 3 (s.rdB a 3))
  | _ => s.wr a w

/-- The greatest power of two from 2 up to n, at most 4,096; 2 below 2 (Table 11.10). -/
def lowerPow2 (n : Nat) : Nat :=
  [4, 8, 16, 32, 64, 128, 256, 512, 1024, 2048, 4096].foldl (fun a k => if k ≤ n then k else a) 2

/-- R365, R420: does a ring at a base, of so many bytes, lie within the integrator region? -/
def ringInside (base bytes : Nat) : Bool := Nat.ble 0xB8000000 base && Nat.ble (base + bytes) 0xD8000000

/-- R365, R420: a ring base written by core 3 that leaves the integrator region is ignored and sets PERM. -/
def State.putRingBase (s : State) (ini : Initiator) (a lo hi bytes : Nat) (w : Word) : State :=
  let s1 := s.wr a w
  if ini = .app3 ∧ ringInside ((s1.rd lo).toNat + s1.rdF hi 7 0 * 2 ^ 32) bytes = false then s.busError 2 ini a else s1

/-- Table 11.10: a register of DMA channel k. -/
def State.putChannel (s : State) (ini : Initiator) (k off a : Nat) (w c : Word) : State :=
  let bytes := 32 * s.rdF (Reg.DMA_CH_RING_SIZE k) 12 0
  match off with
  | 0 => s.dmaConfig ini k w
  | 4 => if bit c 0 && s.dmaHalted k then s.dmaFlags k false else s
  | 0xC => s.putRingBase ini a a (a + 4) bytes (w &&& 0xFFFFFFE0)
  | 0x10 => s.putRingBase ini a (a - 4) a bytes w
  | 0x14 => s.wr a (setFld w 12 0 (lowerPow2 (fld w 12 0)))
  | _ => s.wr a w

/-- Table 11.10: DMA registers. -/
def State.putDma (s : State) (ini : Initiator) (off a : Nat) (w c : Word) : State :=
  if Nat.ble 0x100 off then s.putChannel ini ((off - 0x100) / 0x40) ((off - 0x100) % 0x40) a w c else s.wr a w

/-! ## Local lighting -/

/-- Table 12.4: FB_MAX not above FB_MIN stores FB_MIN + 1; beyond the field's range that is a value the spec leaves open. -/
def State.putFeedback (s : State) (a : Nat) (w : Word) : State :=
  let lo := fld w 11 0
  if lo < fld w 27 16 then s.wr a w
  else if lo < 4095 then s.wr a (setFld w 27 16 (lo + 1))
  else
    let (f, s1) := s.free
    s1.wr a (setFld w 27 16 f)

/-- Table 12.4: SNK registers. -/
def State.putSnk (s : State) (off a : Nat) (w c : Word) : State :=
  if Nat.ble 0x40 off && Nat.beq (off % 16) 4 then (if bit c 1 then s.snkClear ((off - 0x40) / 16) else s)
  else match off with
    | 0x14 => s.wr a (setFld w 7 0 (clampN 80 130 (fld w 7 0)))
    | 0x18 => s.wr a (setFld (setFld w 11 0 (clampN 300 3000 (fld w 11 0))) 19 12 (max 1 (fld w 19 12)))
    | 0x20 => s.putFeedback a w
    | _ => s.wr a w

/-- Table 12.6: HAL_x_CTRL. -/
def State.putHalCtrl (s : State) (x : Nat) (w c : Word) : State :=
  let a := Reg.HAL_CTRL x
  let was := s.rdB a 0
  let s1 := s.wr a (putBit w 2 (s.rdB a 2))
  let s2 := if bit w 3 then s1.halMute x else if was && !bit w 0 then s1.halStop x else s1
  if bit c 2 then s2.halCommit x else s2

/-- Table 12.6: HAL registers. -/
def State.putHal (s : State) (off a : Nat) (w c : Word) : State :=
  match off with
  | 0 => s.putHalCtrl 0 w c
  | 0x40 => s.putHalCtrl 1 w c
  | 4 => s.halConfig 0 (fld w 9 0) (fld w 31 16)
  | 0x44 => s.halConfig 1 (fld w 9 0) (fld w 31 16)
  | _ => s.wr a w

/-! ## KEY and CRY -/

/-- Table 14.11: the 128 bytes of KEY_CMD_DATA. -/
def State.keyData (s : State) : List Byte :=
  (upFrom 0 32).flatMap (fun w => toLE 4 (Sparse.get (fun _ => (0 : Word)) s.key.cmdData w).toNat)

/-- R408, Table 14.12: the command that a write of KEY_CMD spells: CONTEXT in bytes 0 to 7 of KEY_CMD_DATA, then the material. -/
def State.keyOfRegisters (s : State) (c : Word) : KeyCmd :=
  let d := s.keyData
  let kind := fld c 31 24
  { slot := fld c 15 8, parent := fld c 23 16, kind := kind, twin := s.rdF Reg.KEY_CMD_ARG 7 0, g := s.rdF Reg.KEY_CMD_ARG 15 8,
    attr := s.rdF Reg.KEY_CMD_ARG 24 16, label := toLE 4 (s.rd Reg.KEY_CMD_LABEL).toNat, context := d.take 8,
    data := d.drop 8 }

/-- Table 14.12: KEY registers. -/
def State.putKey (s : State) (off a : Nat) (w c : Word) : State :=
  if Nat.ble 0x20 off && Nat.blt off 0xA0 then
    { s with key := { s.key with cmdData := Sparse.set (fun _ => (0 : Word)) s.key.cmdData ((off - 0x20) / 4) c } }
  else match off with
    | 0xC => s.keyCommand (fld c 3 0) (s.keyOfRegisters c)
    | _ => s.wr a w

/-- Table 14.14: CRY registers. -/
def State.putCry (s : State) (ini : Initiator) (off a : Nat) (w : Word) : State :=
  let q := (off - 0x100) / 32
  let bytes := 64 * s.rdF (Reg.CRY_Q_RING_SIZE q) 8 0
  if Nat.blt off 0x100 then s.wr a w
  else match (off - 0x100) % 32 with
    | 4 => s.putRingBase ini a a (a + 4) bytes (w &&& 0xFFFFFFC0)
    | 8 => s.putRingBase ini a (a - 4) a bytes w
    | 0xC => s.wr a (setFld w 8 0 (if isPow2In 2 256 (fld w 8 0) then fld w 8 0 else 2))
    | _ => s.wr a w

/-! ## EVR, UPD and SUP -/

/-- Table 16.7: EVR registers. -/
def State.putEvr (s : State) (ini : Initiator) (off a : Nat) (w c : Word) : State :=
  if Nat.ble 0x40 off && Nat.blt off 0x58 then s.setEvrStage ini.number ((off - 0x40) / 4) c
  else match off with
    | 0 =>
      let s1 := s.wr a (putBit w 1 (s.rdB a 1))
      if bit c 1 then s1.flushRequest else s1
    | 0x58 => s.evrSubmit ini c
    | _ => s.wr a w

/-- Table 15.9: UPD registers; resident firmware confirms only what it has found healthy (R433). -/
def State.putUpd (s : State) (off a : Nat) (w c : Word) : State :=
  match off with
  | 0xC => if s.healthy then s.confirmWrite c else s
  | _ => s.wr a w

/-- Table 17.9: SUP registers; a kick in this form is one made in its window (R469). -/
def State.putSup (s : State) (off a : Nat) (w c : Word) : State :=
  if Nat.ble 0x40 off && Nat.blt off 0x50 then s.kick ((off - 0x40) / 4) c 1600000
  else match off with
    | 0x1C => s.hoistClr c
    | _ => s.wr a w

/-! ## Every block -/

/-- Table 1.3: a write of a listed register acts in its block. -/
def State.putReg (s : State) (ini : Initiator) (slot off a : Nat) (w c : Word) : State :=
  match slot with
  | 0 => s.putSys off a w c
  | 1 => s.putAon ini off a w c
  | 2 => s.putTime off a w c
  | 4 => s.putMac 0 off a w c
  | 5 => s.putMac 1 off a w c
  | 6 => s.putMac 2 off a w c
  | 7 => s.putMac 3 off a w c
  | 8 => s.putScan off a w
  | 9 => s.putCtl off a w c
  | 10 => s.putMtr off a w
  | 11 => s.putCal off a w c
  | 12 => s.putCan ini 0 off a w c
  | 13 => s.putCan ini 1 off a w c
  | 14 => s.putNet off a w
  | 15 => s.putDma ini off a w c
  | 16 => s.putSnk off a w c
  | 17 => s.putHal off a w c
  | 18 => s.putKey off a w c
  | 19 => s.putCry ini off a w
  | 20 => s.putEvr ini off a w c
  | 21 => s.putUpd off a w c
  | 22 => s.putSup off a w c
  | 23 => (s.drlWrite off c).2
  | _ => s

/-- R8, R38, R134: a write of a listed register by an initiator that may write some of its bits, or of one that has none to write. Fields
reserved to others keep their value, and an attempt to change one sets PERM. -/
def State.regStore (s : State) (ini : Initiator) (slot off a : Nat) (r : RegRow) (v : Word) : State :=
  let old := s.rd a
  let may := s.mayBits ini slot off r
  let lost := (((old ^^^ v) &&& r.rw) ||| (v &&& (r.w1c ||| r.w1s ||| r.wo))) &&& ~~~may
  let eff := may &&& s.dmaGlobal ini slot off
  let s1 := s.putReg ini slot off a (r.apply eff old v) (v &&& eff)
  (if lost = 0 then s1 else s1.busError 2 ini a).answer 0

end Sys2Proof.Machine
end

