-- ==== Sys2Proof/Machine/RegRead.lean ====
section
/-! DEFINITION. What a read of each register returns, where its value stands elsewhere in the state, and the reads that act (R8, R16,
R30, R117, R128, R131, R141, R147, R184, R287, R458, R469 and the field tables). -/

namespace Sys2Proof.Machine

/-- Table 1.23: the views of a dual-clock queue: COUNT, LOG2, and FULL of the write side or EMPTY of the read side. A queue held in
reset shows count 0, FULL and EMPTY; the registers of a clocked input's queue read 0. -/
def State.viewQueue (s : State) (q : Nat) (readSide : Bool) : Word :=
  let k := queueLog q
  let d := s.queue q
  let n := if readSide then d.rcount k else d.wcount k
  let flag := d.hold || (if readSide then Nat.beq n 0 else Nat.ble (2 ^ k) n)
  if s.queueExists q then BitVec.ofNat 32 (n + 2 ^ 16 * k + (if readSide then 2 ^ 25 else 2 ^ 24) * b2n flag) else 0

/-- Table 1.14: SYS. -/
def State.viewSys (s : State) (off a : Nat) : Word :=
  if Nat.ble 0x400 off then s.viewQueue ((off - 0x400) / 8) (Nat.beq (off % 8) 4)
  else match off with
    | 4 => BitVec.ofNat 32 (s.objN 0x1000 3)
    | _ => s.rd a

/-- R16: AON: the copy of its registers, which stands still while the AON clock is lost. -/
def State.viewAon (s : State) (a : Nat) : Word :=
  if a = Reg.AON_RTC_TALLY then BitVec.ofNat 32 s.rtcTally
  else if s.aon.aonClockLost then Sparse.get Reg.reset s.aon.copy a else s.rd a

/-- R117: the local time an initiator has latched. -/
def State.latched (s : State) (ini : Initiator) : Nat := Sparse.get (fun _ => 0) s.time.latches ini.number

/-- Tables 4.8 to 4.11: TIME; the transmit timestamp queue reads 0 for core 3 (R147). -/
def State.viewTime (s : State) (ini : Initiator) (off a : Nat) : Word :=
  let t := s.time
  match off with
  | 0 => BitVec.ofNat 32 (t.servoState + 4 * b2n (Nat.beq t.servoState 2) + 8 * b2n (Nat.beq t.servoState 3) + 16 * (t.epoch % 16))
  | 0x14 => BitVec.ofNat 32 (s.latched ini / 1000000000)
  | 0x18 => BitVec.ofNat 32 (s.latched ini / 1000000000 / 2 ^ 32 % 2 ^ 16)
  | 0x1C => BitVec.ofNat 32 (s.latched ini)
  | 0x20 => BitVec.ofNat 32 s.stamp
  | 0x110 => s.captWord 0
  | 0x114 => s.captWord 1
  | 0x118 => s.captWord 2
  | 0x400 => if ini.resident then s.rd a else 0
  | 0x408 => if ini.resident then (match t.tsqLatch with
      | some e => BitVec.ofNat 32 (e.time / 1000000000)
      | none => 0) else 0
  | _ => s.rd a

/-- Table 5.21: SCAN: RUNNING, and NO_ASN while MAC0 does not run. -/
def State.viewScan (s : State) (off a : Nat) : Word :=
  match off with
  | 4 => BitVec.ofNat 32 (b2n (s.rdB Reg.SCAN_CTRL 0) + 2 * b2n (!s.rdB (Reg.MAC_STATUS 0) 0))
  | _ => s.rd a

/-- R287: the latch record an initiator has viewed. -/
def State.viewed (s : State) (ini : Initiator) : List Byte :=
  match s.mtr.views.find? (fun e => Nat.beq e.1 ini.number) with
  | some e => e.2
  | none => List.replicate 146 0

/-- Table 9.12: MTR. -/
def State.viewMtr (s : State) (ini : Initiator) (off a : Nat) : Word :=
  let v := s.viewed ini
  if Nat.ble 0x220 off && Nat.blt off 0x2A0 then BitVec.ofNat 32 (leAt v (18 + (off - 0x220)) 4)
  else if Nat.ble 0x310 off && Nat.blt off 0x330 then
    BitVec.ofNat 32 (s.objN 0x2640 ((off - 0x310) / 8 + 1) / 2 ^ (8 * (off % 8)))
  else if Nat.ble 0x60 off && Nat.blt off 0x88 then
    putBit (putBit (s.rd a) 16 (s.streamOk ((off - 0x60) / 4))) 18 (s.rateErr ((off - 0x60) / 4))
  else match off with
    | 4 => (upFrom 0 10).foldl (fun (w : Word) n =>
        putBit w (16 + n) (s.rdB (Reg.MTR_IN_CFG n) 0 && !(s.mtrIn n).bad && !s.rdB (Reg.MTR_IN_STAT n) 19)) (s.rd a)
    | 0x214 => BitVec.ofNat 32 (ofTime80 (slice v 4 10))
    | 0x218 => BitVec.ofNat 32 (leAt v 14 4)
    | _ => s.rd a

/-- R322: how many counts ago a controller's latest reference lies. -/
def CanCtl.refAge (c : CanCtl) (now : Ns) : Option Nat :=
  match c.mark, c.cycleAt with
  | some _, some a => some ((now - a) * c.rate.2 / max 1 c.rate.1)
  | _, _ => none

/-- Table 10.13: CANn_STATUS: BUS_IDLE of a controller on its bus, between commands (log entry 60), and STAMP_OK (R322). -/
def State.viewCan (s : State) (b off a : Nat) : Word :=
  match off with
  | 4 => putBit (putBit (s.rd a) 5 (s.rdB (Reg.CAN_CTRL b) 0 && s.clockPresent .canf)) 6
      (((s.can.ctls.getD b {}).refAge s.time.now).any (fun n => Nat.blt n 8000000))
  | _ => s.rd a

/-- Table 14.12: KEY; commands end within the step that begins them, so BUSY reads 0 (log entry 12). -/
def State.viewKey (s : State) (off a : Nat) : Word :=
  if Nat.ble 0x100 off then BitVec.ofNat 32 (s.slot ((off - 0x100) / 4)).info
  else match off with
    | 0 => BitVec.ofNat 32 (2 * b2n s.rootOk + 4 * b2n s.tamperLatched)
    | _ => s.rd a

/-- Table 14.14: CRY: RUNNING follows the queues' EN. -/
def State.viewCry (s : State) (off a : Nat) : Word :=
  match off with
  | 0 => (upFrom 0 4).foldl (fun (w : Word) q => putBit w q (s.rdB (Reg.CRY_Q_CFG q) 0)) (s.rd a)
  | _ => s.rd a

/-- Table 16.7: EVR. A flush and a clearing end within the step that begins them; FLUSHING reads 1 while a request
waits for one, and from the power-fail interrupt to the end of its flush. -/
def State.viewEvr (s : State) (off a : Nat) : Word :=
  let e := s.evr
  match off with
  | 4 => BitVec.ofNat 32 (b2n (s.rdB Reg.EVR_CTRL 1 || s.aon.flushing) + 2 * b2n e.logHigh + 4 * b2n e.logFull + 8 * b2n e.reserveFull)
  | 0x10 => BitVec.ofNat 32 e.buffer.length
  | 0x14 => BitVec.ofNat 32 e.log.length
  | 0x18 => BitVec.ofNat 32 e.nextSeq
  | 0x1C => BitVec.ofNat 32 e.lastSeq
  | 0x20 => BitVec.ofNat 32 e.dropped
  | 0x24 => BitVec.ofNat 32 e.bufDrops
  | 0x28 => BitVec.ofNat 32 e.reserveUsed
  | _ => s.rd a

/-- Table 15.9: UPD. -/
def State.viewUpd (s : State) (off a : Nat) : Word :=
  match off with
  | 0 => putBit (s.rd a) 5 (!s.batteryPoor)
  | 0x14 => BitVec.ofNat 32 (s.probElapsed % 2 ^ 16)
  | _ => s.rd a

/-- R468: the starts with cause 3 or 7 within the last 600 s. -/
def State.faultStartsNow (s : State) : Nat := (s.fault.faultStarts.filter (fun (t : Ns) => Nat.ble s.eventTime (t + 600000000000))).length

/-- Table 17.9: SUP: the guarantee, the fault starts, the debug port and the watchdogs armed. -/
def State.viewSup (s : State) (off a : Nat) : Word :=
  match off with
  | 0 => setFld (setFld (putBit (putBit (s.rd a) 0 (Nat.beq s.guarantee 0)) 16 s.fault.debugUnlocked) 3 1 s.guarantee) 15 8 s.faultStartsNow
  | 0x30 => (upFrom 0 8).foldl (fun (w : Word) k => putBit w k (s.watchdogArmed k)) 0
  | _ => s.rd a

/-- Table 17.11: is some drill setting in force? -/
def State.drillActive (s : State) : Bool :=
  s.rdB Reg.DRL_CTRL 0 && drlOffsets.any (fun o => drlPerturbs o (s.rd (Reg.DRL_CTRL + o)))

/-- Table 17.11: DRL_STATUS: FULL_SET, LIVE_SET and ACTIVE, and whether a write was refused. -/
def State.viewDrl (s : State) (off a : Nat) : Word :=
  match off with
  | 4 => putBit (putBit (putBit (s.rd a) 0 s.drillFull) 1 s.drillLive) 2 s.drillActive
  | _ => s.rd a

/-- The value a read of a register shows. -/
def State.view (s : State) (ini : Initiator) (slot off a : Nat) : Word :=
  match slot with
  | 0 => s.viewSys off a
  | 1 => s.viewAon a
  | 2 => s.viewTime ini off a
  | 8 => s.viewScan off a
  | 10 => s.viewMtr ini off a
  | 12 => s.viewCan 0 off a
  | 13 => s.viewCan 1 off a
  | 18 => s.viewKey off a
  | 19 => s.viewCry off a
  | 20 => s.viewEvr off a
  | 21 => s.viewUpd off a
  | 22 => s.viewSup off a
  | 23 => s.viewDrl off a
  | _ => s.rd a

/-- A read of a listed register: the reads that act first, then the plain ones, in which write-only bits read 0 (R8).
Table 14.11 gives the offsets 0x80 and 0x84 of KEY to two registers each: a read is of KEY_SCRUB and KEY_TAG_FAILS, a write of
KEY_CMD_DATA_24 and _25 (log entry 36). -/
def State.regLoad (s : State) (ini : Initiator) (slot off a : Nat) (r : RegRow) : State :=
  if slot = 1 ∧ 0x108 ≤ off ∧ off ≤ 0x124 then s.rtcRead ((off - 0x108) / 4)
  else if slot = 2 ∧ off = 0x10 then s.nowLatch ini
  else if slot = 2 ∧ off = 0x11C then s.captRemove
  else if slot = 2 ∧ off = 0x404 then s.tsqHead ini
  else if slot = 2 ∧ off = 0x40C then s.tsqTake ini
  else if slot = 10 ∧ off = 0x210 then (s.latchView ini.number).answer (BitVec.ofNat 32 (leAt s.mtr.latchRec 0 4))
  else if slot = 18 ∧ (off = 0x80 ∨ off = 0x84) then s.answer (s.rd a)
  else s.answer (r.readMask (s.view ini slot off a))

end Sys2Proof.Machine
end

