-- ==== Sys2Proof/Machine/Access.lean ====
section
/-! DEFINITION. Accesses on the fabric: registers, absent addresses and memory (R7, R13, R14, R16 to R19, R38, R39, R502), and the debug
port (R476). -/

namespace Sys2Proof.Machine

/-- R14: an offset that the register map does not list reads 0, ignores writes and sets UNMAPPED; so do the offsets beyond the
message RAM of the cabinet bus (R332). -/
def State.regUnlisted (s : State) (ini : Initiator) (a : Nat) : State := (s.busError 1 ini a).answer 0

/-- R7: a register access past the permission table: a write reserved to others first, then width and alignment, then an unlisted offset;
what is left acts. -/
def State.regAccess (s : State) (ini : Initiator) (a width : Nat) (data : Option Word) : State :=
  let slot := Reg.slotOf a
  let off := Reg.offOf a
  let aligned := Nat.beq width 4 && Nat.beq (a % 4) 0
  match data, Reg.find slot (off / 4 * 4) with
  | some v, some r =>
    if r.writable ≠ 0 ∧ s.mayBits ini slot (off / 4 * 4) r = 0 then (s.busError 2 ini a).answer 0
    else if aligned then s.regStore ini slot off a r v
    else (s.busError 0 ini a).answer 0
  | none, some r => if aligned then s.regLoad ini slot off a r else (s.busError 0 ini a).answer 0
  | _, none => if aligned then s.regUnlisted ini a else (s.busError 0 ini a).answer 0

/-- R502: a refused access of memory: PERM, and an abort or an error response. -/
def State.memRefused (s : State) (ini : Initiator) (a : Nat) : State := (s.busError 2 ini a).refuse ini

/-- R13: an access to an address outside every region: ABSENT, and an abort or an error response. -/
def State.absent (s : State) (ini : Initiator) (a : Nat) : State := (s.busError 3 ini a).refuse ini

/-- R462, R504: the first word that the drill unit corrupted among those an access of n bytes meets, one of two wrong bits before one of a
single wrong bit: its address, whether it is the L2 copy, and whether two bits are wrong. -/
def State.eccMet (s : State) (a n : Nat) : Option (Nat × Bool × Bool) :=
  let l := s.fault.corruptWords.filter (fun (e : Nat × Bool × Bool) => Nat.blt e.1 (a + n) && Nat.blt a (e.1 + 16))
  match l.find? (fun (e : Nat × Bool × Bool) => e.2.2) with
  | some e => some e
  | none => l.head?

/-- R462, R464: the way that the L2 copy of a line stands in: one of those reserved to core 3 for its own region. -/
def wayOf (a : Nat) : Fin 16 := if regionOf a = .integrator then 12 else 0

/-- An access of memory that is done: a write, or a read and its data. Core 3's accesses allocate in the L2 ways reserved to it. -/
def State.memDone (s : State) (ini : Initiator) (a n : Nat) (data : Option (List Byte)) : State :=
  let s := if ini = .app3 then { s with sys := { s.sys with core3L2Valid := true } } else s
  match data with
  | some bs => (s.writeMem a (fit n bs)).answer 0
  | none => s.answer (BitVec.ofNat 32 (fromLE (s.memBytes a n)))

/-- R17, R18, R462, R502: an access of memory: done where its region permits it to the initiator, else refused; an injected error response
ends it as one (R472), and so does a corrupted word of two wrong bits; one wrong bit is corrected first. -/
def State.memAccess (s : State) (ini : Initiator) (a width : Nat) (data : Option (List Byte)) : State :=
  let n := max 1 width
  if !admits data.isSome ini false a n then s.memRefused ini a
  else if s.errorAt a n then s.errorTaken.refuse ini
  else match s.eccMet a n with
    | some (w, l2, true) => s.eccTwo ini w (if l2 then some (wayOf w) else none) none (s.eccMarked w l2 true)
    | some (w, l2, false) => (s.eccOne w l2).memDone ini a n data
    | none => s.memDone ini a n data

/-- R7, R13, R19, R502: an access on the fabric: by the region its address lies in. The register blocks take the accesses of the cores
and of the debug port; the block initiators reach memory alone (Table 1.1). -/
def State.access (s : State) (ini : Initiator) (a width : Nat) (data : Option (List Byte)) : State :=
  match regionOf a with
  | .absent => s.absent ini a
  | .registers =>
    if ini.isCore || decide (ini = .debug) then
      s.permGate ini a data.isSome (fun t => t.regAccess ini a width (data.map (fun b => BitVec.ofNat 32 (fromLE b))))
    else s.memRefused ini a
  | _ => s.memAccess ini a width data

/-- REGISTER_WRITE, R7, R8, R13, R38, R39: a write of a register, or a read where there is no data. -/
def execRegisterWrite (ini : Initiator) (addr width : Nat) (data : Option Word) (s : State) : Host.Outcome State Fault Refusal :=
  .next (s.access ini addr width (data.map (fun v => toLE 4 v.toNat)))

/-- ABSENT_ACCESS, R13: an access to an address outside every region. -/
def execAbsentAccess (ini : Initiator) (addr width : Nat) (data : Option Word) (s : State) : Host.Outcome State Fault Refusal :=
  .next (match regionOf addr with
    | .absent => s.absent ini addr
    | _ => s.access ini addr width (data.map (fun v => toLE 4 v.toNat)))

/-- REFUSED_MEMORY_ACCESS, R17, R18, R502: an access of memory that its region does not permit to the initiator. -/
def execRefusedMemoryAccess (ini : Initiator) (addr width : Nat) (data : Option (List Byte)) (s : State) :
    Host.Outcome State Fault Refusal :=
  .next (match regionOf addr with
    | .absent => s.absent ini addr
    | .registers => s.access ini addr width data
    | _ => s.memAccess ini addr width data)

/-- R476: the debug port's identification, whose content the spec does not give (log entry 2). -/
def State.debugIdentify (s : State) : State :=
  let (f, s1) := s.free
  { s1 with fault := { s1.fault with debugAnswer := some (toLE 4 f) } }

/-- DEBUG_PORT_REQUEST, R476: an identification request is always answered; any other reaches its initiator only while the port is unlocked. -/
def execDebugPortRequest (req : Option (Initiator × Nat × Nat × Option Word)) (s : State) : Host.Outcome State Fault Refusal :=
  .next (match req with
    | none => s.debugIdentify
    | some (ini, addr, width, data) =>
      if s.fault.debugUnlocked then s.access ini addr width (data.map (fun v => toLE 4 v.toNat)) else s)

end Sys2Proof.Machine
end

