-- ==== Sys2Proof/Machine/Dict.lean ====
section
/-! DEFINITION. The dictionary server: sessions, responses, the checks of a request, segmented transfers, declarations, the cabinet-bus
envelope and the mailbox (R79 to R115). -/

namespace Sys2Proof.Machine

/-! ## Sessions and responses -/

/-- An open session. -/
def State.session (s : State) (id : Nat) : Option Sess := s.dict.sessions.find? (fun (e : Sess) => Nat.beq e.id id)

/-- A session changed. -/
def State.setSession (s : State) (id : Nat) (f : Sess → Sess) : State :=
  { s with dict := { s.dict with sessions := s.dict.sessions.map (fun (e : Sess) => if Nat.beq e.id id then f e else e) } }

/-- R87, Table 3.3, R106: a session's level, 1 OBSERVER or 2 OPERATOR. -/
def State.level (s : State) (e : Sess) : Nat :=
  match e.kind with
  | .mailbox => 2
  | .can _ => s.objN 0x1030 1
  | .ring => s.objN 0x1021 e.anchor

/-- Is it the mailbox's session? -/
def Sess.isMailbox (e : Sess) : Bool := decide (e.kind = .mailbox)

/-- The writer that a session is. -/
def Sess.writer (e : Sess) (m : Msg) : Writer := { sess := e.id, mailbox := e.isMailbox, written := m.written }

/-- A ring session ends, and with the last one the backhaul (R52). -/
def State.sessClose (s : State) (id : Nat) : State := (s.sessEnd id).backhaulFollow

/-- R94, Tables 3.5 and 3.6: a response, its CREDIT not yet given; one whose status is not OK carries no value (R95). -/
def responseBytes (op : Nat) (m : Msg) (st param : Nat) (data : List Byte) : List Byte :=
  let d := if st = 0 then data else []
  [1] ++ toLE 1 (op + 0x80) ++ toLE 2 m.tid ++ toLE 2 m.idx ++ toLE 1 m.sub ++ [0] ++ toLE 4 param ++ toLE 2 d.length ++ toLE 1 st ++
    [0] ++ d

/-! ## The mailbox -/

/-- Table 3.11: the control page's words: 1 REQ_HEAD, 2 REQ_TAIL, 3 RSP_HEAD, 4 RSP_TAIL. -/
def State.mboxWord (s : State) (k : Nat) : Nat := s.memN (mailboxBase + 4 * k) 4

/-- R110: the address of response slot i mod 16. -/
def mboxResponse (i : Nat) : Nat := mailboxBase + 0x11000 + 0x1000 * (i % 16)

/-- R110: are 16 responses waiting for core 3? -/
def State.mboxFull (s : State) : Bool := Nat.ble 16 ((s.mboxWord 3 + 2 ^ 32 - s.mboxWord 4) % 2 ^ 32)

/-- R110: a message written to the next response slot, RSP_HEAD advanced, and the mailbox interrupt raised. -/
def State.mboxPut (s : State) (b : List Byte) : State :=
  let h := s.mboxWord 3
  let s1 := (s.writeMem (mboxResponse h) b).setMemN (mailboxBase + 12) 4 (h + 1)
  { s1 with dict := { s1.dict with mailboxIrq := true } }

/-- R110: a message for core 3: written, or held while 16 wait; none goes out while core 3 is held in reset. -/
def State.mboxSend (s : State) (b : List Byte) : State :=
  if !s.rdB Reg.SYS_CORE3_CTRL 0 then s
  else if s.dict.held.isEmpty && !s.mboxFull then s.mboxPut b
  else { s with dict := { s.dict with held := s.dict.held ++ [b] } }

/-- R110: held messages written while slots are free. -/
def State.mboxFlush : Nat → State → State
  | 0, s => s
  | n + 1, s =>
    match s.dict.held with
    | [] => s
    | b :: t => if s.mboxFull then s else State.mboxFlush n ({ s with dict := { s.dict with held := t } }.mboxPut b)

/-- R114: WRITTEN for an object, unless one is pending. -/
def State.written (s : State) (idx sub : Nat) : State :=
  let k := Obj.key idx sub
  if s.dict.written.contains k || !s.rdB Reg.SYS_CORE3_CTRL 0 then s
  else
    { s with dict := { s.dict with written := s.dict.written ++ [k] } }.mboxSend
      ([1, 0xB1, 0, 0] ++ toLE 2 idx ++ toLE 1 sub ++ [0] ++ toLE 4 0 ++ [0, 0, 0, 0])

/-- R114: the message in a slot that core 3 has read ends its object's pending WRITTEN. -/
def State.mboxTaken (s : State) (i : Nat) : State :=
  let b := s.readMem (mboxResponse i) 16
  if leAt b 1 1 = 0xB1 then
    { s with dict := { s.dict with written := s.dict.written.filter (fun (k : Nat) => !(Nat.beq k (Obj.key (leAt b 4 2) (leAt b 6 1)))) } }
  else s

/-! ## The cabinet-bus link -/

/-- R109: a node's link. -/
def State.link (s : State) (node : Nat) : EnvLink := (s.dict.links.find? (fun (e : EnvLink) => Nat.beq e.node node)).getD { node := node }

/-- A node's link replaced. -/
def State.setLink (s : State) (l : EnvLink) : State :=
  { s with dict := { s.dict with links := s.dict.links.filter (fun (e : EnvLink) => !(Nat.beq e.node l.node)) ++ [l] } }

/-- R109: the nonce of an envelope from its bytes 1 to 7. -/
def envNonce (head : List Byte) : List Byte := (head.drop 1).take 7 ++ List.replicate 6 0

/-- R109: a link whose counter has reached its end, in either direction, carries nothing. -/
def EnvLink.ended (l : EnvLink) : Bool := Nat.ble 0xFFFFFFFF l.tx || Nat.ble 0xFFFFFFFF l.rx

/-- R109: a message sealed and sent to a node on both buses; the counter saved at every 256th; a link at its end carries nothing. -/
def State.envelopePut (s : State) (node : Nat) (b : List Byte) : State :=
  let l := s.link node
  if l.ended || s.chainCheck 24 ≠ .ok then s
  else
    let c := l.tx + 1
    let head := [0xD1, 0] ++ toLE 1 node ++ toLE 1 (s.entry node 6) ++ toLE 4 c
    let sealed_ := fit (b.length + 8) (Config.ccmSeal 8 (s.nodeLink node) (envNonce head) head b)
    (s.setLink { l with tx := c, saved := (l.saved.1, if c % 256 = 0 then c else l.saved.2) }).envelopeSend node (head ++ sealed_)

/-! ## Answering -/

/-- A response put on its session's transport. -/
def State.transmit (s : State) (e : Sess) (b : List Byte) : State :=
  let s1 := { s with dict := { s.dict with response := some (e.id, b), status := leAt b 14 1 } }
  match e.kind with
  | .ring => s1
  | .mailbox => s1.mboxSend b
  | .can node => s1.envelopePut node b

/-- R95, Table 3.5: a response with its CREDIT. -/
def credited (n : Nat) (bytes : List Byte) : List Byte := bytes.take 15 ++ toLE 1 n ++ bytes.drop 16

/-- R100, Table 3.5: the free entries of a session's receive queue. -/
def State.credit (s : State) (id : Nat) : Nat :=
  8 - (match s.session id with
    | some e => e.queue.length
    | none => 0)

/-- R92, R98: a request answered: its CREDIT is given, the response joins the newest 64 of its session, if it is still open, AUTH is counted, and the
response goes out. -/
def State.deliver (s : State) (e : Sess) (tid : Nat) (bytes : List Byte) : State :=
  let b := credited (s.credit e.id) bytes
  let s1 := if leAt b 14 1 = 6 then s.bumpObj 0x1022 5 4 else s
  if (s1.session e.id).isSome then
    (s1.setSession e.id (fun (x : Sess) => { x with cache := ((tid, b) :: x.cache).take 64 })).transmit e b
  else { s1 with dict := { s1.dict with response := some (e.id, b), status := leAt b 14 1 } }

/-- A request answered with a status, a PARAM and a value. -/
def State.reply (s : State) (e : Sess) (op : Nat) (m : Msg) (st param : Nat) (data : List Byte) : State :=
  s.deliver e m.tid (responseBytes op m st param data)

/-! ## Trailers -/

/-- Table 3.3's key and counter objects of an authorisation: their index; AUTH_TYPE, and the counter's subindex. -/
def ObjAuth.keyIdx : ObjAuth → Nat × Nat × Nat
  | .seal => (0x1011, 2, 2)
  | _ => (0x1010, 1, 3)

/-- R92: is the lockout in force? -/
def State.lockedOut (s : State) : Bool :=
  match s.dict.lockout with
  | some e => Nat.blt s.eventTime e
  | none => false

/-- R90, R92: does a trailer keep its form? -/
def trailerFormed (a : ObjAuth) (t : List Byte) : Bool :=
  Nat.beq (leAt t 0 1) a.keyIdx.2.1 && Nat.beq (leAt t 1 1) 2 && Nat.beq (leAt t 2 2) 0 && Nat.beq t.length 108

/-- AUTH_LOCKOUT, R92: a failed verification; the 8th within 60 s begins a lockout of 60 s. -/
def State.authFail (s : State) : State :=
  let now := s.eventTime
  let l := s.dict.authFails.filter (fun (t : Ns) => Nat.blt now (t + 60000000000)) ++ [now]
  if Nat.ble 8 l.length then
    { s with dict := { s.dict with authFails := [], lockout := some (now + 60000000000) } }.record 0x30 1 0 (s.objN 0x1022 5 + 1) 0
  else { s with dict := { s.dict with authFails := l } }

/-- R91: the 73 bytes that a trailer signs: the module's EUI-64, COUNTER, AUTH_TYPE, the request's opcode, index and subindex, the length of the
value, and its digest. -/
def State.authString (s : State) (t : List Byte) (op idx sub : Nat) (v : List Byte) : List Byte :=
  s.eui ++ slice t 4 8 ++ slice t 0 1 ++ toLE 1 op ++ toLE 2 idx ++ toLE 1 sub ++ toLE 4 v.length ++ fit 48 (Config.sha384 v)

/-- R91: does a trailer's signature of a request verify under the key of an object? -/
def State.signatureOk (s : State) (keyIdx : Nat) (t : List Byte) (op idx sub : Nat) (v : List Byte) : Bool :=
  Config.ecdsaVerify (s.obj keyIdx 1) (s.authString t op idx sub v) (slice t 12 96)

/-- R89, R92: a request's trailer verified: its form, the lockout, the signature under a key that is set, the counter; on success the counter
advances. -/
def State.verify (s : State) (a : ObjAuth) (trailer : Option (List Byte)) (op ix sb : Nat) (v : List Byte) : Bool × State :=
  let (idx, _, sub) := a.keyIdx
  match trailer with
  | none => (false, s)
  | some t =>
    if !trailerFormed a t || s.lockedOut then (false, s)
    else if !s.signatureOk idx t op ix sb v || Nat.beq (s.objN idx 1) 0 || Nat.ble (leAt t 4 8) (s.objN idx sub) then (false, s.authFail)
    else (true, s.setObj idx sub (slice t 4 8))

/-- R103: what a trailer shows before the value has come: that it is there, keeps its form, and meets no lockout. -/
def State.trailerMay (s : State) (a : ObjAuth) (trailer : Option (List Byte)) : Bool :=
  match trailer with
  | none => false
  | some t => trailerFormed a t && !s.lockedOut

end Sys2Proof.Machine

namespace Sys2Proof

/-- The value and the trailer of a request. -/
def Msg.value (m : Msg) : List Byte := m.body.take m.length

/-- The trailer that FLAGS.AUTH announces. -/
def Msg.trailer (m : Msg) : Option (List Byte) := if Nat.testBit m.flags 0 then some (m.body.drop m.length) else none

end Sys2Proof

namespace Sys2Proof.Machine

/-! ## The checks of a request -/

/-- R92: during a lockout every request that carries a trailer fails with AUTH, whether or not it needs one. -/
def State.barred (s : State) (m : Msg) : Bool := m.trailer.isSome && s.lockedOut

/-- Table 3.6: the opcodes of requests. -/
def opcodes : List Nat := [1, 2, 0x10, 0x11, 0x12, 0x20, 0x21, 0x28, 0x29, 0x2F, 0x30]

end Sys2Proof.Machine

namespace Sys2Proof

/-- R94: the bytes of data a request carries: SEG_READ_DATA carries none, whatever LENGTH says. -/
def Msg.dataLength (m : Msg) (op : Nat) : Nat := if op = 0x21 then 0 else m.length

/-- R94: does a message's length disagree with its header, or exceed B? -/
def Msg.malformed (m : Msg) (op buf : Nat) : Bool :=
  !(Nat.beq m.body.length (m.dataLength op + (if Nat.testBit m.flags 0 then 108 else 0))) || (!(Nat.beq buf 0) && Nat.blt buf (16 + m.body.length))

end Sys2Proof

namespace Sys2Proof.Machine

/-- Checks 2 and 3, and R108: BAD_MESSAGE, NOT_PERMITTED, and a session that is not open. -/
def Sess.early (e : Sess) (op : Nat) (m : Msg) : Nat :=
  if m.version ≠ 1 ∨ opcodes.contains op = false ∨ 4 ≤ m.flags ∨ m.status ≠ 0 ∨ m.credit ≠ 0 then 0x12
  else if op = 0x30 ∧ e.isMailbox = false then 0x13
  else if op ≠ 1 ∧ e.opened = false then 0x0A
  else 0

/-- R103, R104: does a segmented write hold the object? -/
def State.held (s : State) (idx sub : Nat) : Bool := s.dict.xfers.any (fun (x : Xfer) => x.write && Nat.beq x.idx idx && Nat.beq x.sub sub)

/-- R114: does a write skip checks 5 to 9? -/
def Sess.skips (e : Sess) (idx : Nat) : Bool := e.isMailbox && integIdx idx

/-- Checks 5 and 6 of a write. -/
def State.writeMay (s : State) (e : Sess) (r : ObjRow) (idx : Nat) : Nat :=
  if e.skips idx then 0 else if r.access = .ro then 3 else if s.level e < 2 then 5 else 0

/-- Checks 5 and 6 of a read. -/
def ObjRow.readMay (r : ObjRow) : Nat := if r.access = .wo then 4 else 0

/-- R141, R451: what a read does before its value is taken: a read of the log's end flushes. -/
def State.readPrepare (s : State) (e : Sess) (idx sub : Nat) : State :=
  if Obj.key idx sub = 0x2D0008 ∧ s.recordsReach e.readIndex then s.flushLog else s

/-- R141: a read of RTC_NOW releases the freeze it makes. -/
def State.readDone (s : State) (idx sub : Nat) : State :=
  if Obj.key idx sub = 0x213001 then { s with rtc := { s.rtc with freeze := none } } else s

/-! ## Opcodes -/

/-- R108, R109, R111: the B that a session accepts, none where the proposal is out of range. -/
def Sess.acceptB (e : Sess) (param : Nat) : Option Nat :=
  match e.kind with
  | .mailbox => some 4096
  | .can _ => if param = 256 then some 256 else none
  | .ring => [8192, 4096, 2048, 1024, 512, 256].find? (fun b => Nat.ble b param)

/-- OPEN, R108 (log entry 55). -/
def State.doOpen (s : State) (e : Sess) (m : Msg) : State :=
  if s.barred m then s.reply e 1 m 6 0 [] else
  match e.acceptB m.param with
  | none => s.reply e 1 m 0x0C 0 []
  | some b => (s.setSession e.id (fun (x : Sess) => { x with buf := b, opened := true })).reply e 1 m 0 b s.eui

/-- CLOSE, R108: the answer, then the session's end; the mailbox's session stays. -/
def State.doClose (s : State) (e : Sess) (m : Msg) : State :=
  if s.barred m then s.reply e 2 m 6 0 []
  else if e.isMailbox then s.reply e 2 m 0 0 []
  else (s.reply e 2 m 0 0 []).sessClose e.id

/-- READ, R101. -/
def State.doRead (s : State) (e : Sess) (m : Msg) : State :=
  match s.lookup m.idx m.sub with
  | .error st => s.reply e 0x10 m st 0 []
  | .ok r =>
    if r.readMay ≠ 0 then s.reply e 0x10 m r.readMay 0 []
    else if s.barred m then s.reply e 0x10 m 6 0 []
    else
      let s1 := s.readPrepare e m.idx m.sub
      let v := s1.value e.readIndex m.idx m.sub r
      let s2 := s1.readDone m.idx m.sub
      if e.buf < v.length + 16 then s2.reply e 0x10 m 0x0E v.length [] else s2.reply e 0x10 m 0 v.length v

/-- R55: a MODE_REQUEST whose checks have passed waits for the mode tick, which answers it. -/
def State.modeAsk (s : State) (e : Sess) (v : List Byte) (response : List Byte) : State :=
  { s with dict := { s.dict with modeWait := s.dict.modeWait ++ [(fromLE v, e.id, response)] } }

/-- Checks 9 to 13, the application and what follows it: WRITTEN for core 3 (R114), the end of sessions whose anchor changed (R106). -/
def State.writeRest (s : State) (e : Sess) (op : Nat) (m : Msg) (r : ObjRow) (idx sub : Nat) (held : Bool) (v : List Byte) (param : Nat) : State :=
  let a := s.writeFrom9 (e.writer m) r idx sub held v
  if a.1 = 0 ∧ Obj.key idx sub = 0x200002 then a.2.modeAsk e v (responseBytes op m 0 param [])
  else
    let s1 := a.2.reply e op m a.1 param []
    let s2 := if a.1 = 0 ∧ integIdx idx ∧ e.isMailbox = false then s1.written idx sub else s1
    if a.1 = 0 ∧ idx = 0x1020 then s2.anchorsEnd.backhaulFollow else s2

/-- WRITE, R96. -/
def State.doWrite (s : State) (e : Sess) (m : Msg) : State :=
  let v := m.value
  match s.lookup m.idx m.sub with
  | .error st => s.reply e 0x11 m st 0 []
  | .ok r =>
    let may := s.writeMay e r m.idx
    if may ≠ 0 then s.reply e 0x11 m may 0 []
    else
      let need := if e.skips m.idx then ObjAuth.none else s.authNeeded e.isMailbox r m.idx m.sub (some v)
      let a := if need = .none then (!s.barred m, s) else s.verify need m.trailer 0x11 m.idx m.sub v
      if !a.1 then a.2.reply e 0x11 m 6 0 []
      else if !e.skips m.idx && a.2.lockedNow r then a.2.reply e 0x11 m 7 0 []
      else a.2.writeRest e 0x11 m r m.idx m.sub (a.2.held m.idx m.sub) v 0

/-- DESCRIBE, R112. -/
def State.doDescribe (s : State) (e : Sess) (m : Msg) : State :=
  match s.lookup m.idx m.sub with
  | .error st => s.reply e 0x12 m st 0 []
  | .ok r => if s.barred m then s.reply e 0x12 m 6 0 [] else s.reply e 0x12 m 0 0 (if integIdx m.idx && !(Nat.beq m.sub 0) then (s.decl (Obj.key m.idx m.sub)).getD [] else r.descriptor)

/-! ## Segmented transfers -/

/-- R101: is there room for one more transfer? -/
def State.xferRoom (s : State) (e : Sess) : Bool :=
  Nat.blt (s.dict.xfers.filter (fun (x : Xfer) => Nat.beq x.sess e.id)).length 2 && Nat.blt s.dict.xfers.length 32

/-- The latest transfer of a session for an object, of a kind. -/
def State.xferFind (s : State) (e : Sess) (write : Bool) (m : Msg) : Option Xfer :=
  s.dict.xfers.reverse.find? (fun (x : Xfer) => Nat.beq x.sess e.id && (x.write == write) && Nat.beq x.idx m.idx && Nat.beq x.sub m.sub)

/-- A transfer removed: of a session, by the TID of its start (log entry 55). -/
def State.xferDrop (s : State) (sess tid : Nat) : State :=
  { s with dict := { s.dict with xfers := s.dict.xfers.filter (fun (x : Xfer) => !(Nat.beq x.sess sess && Nat.beq x.tid tid)) } }

/-- A transfer replaced (log entry 55). -/
def State.xferPut (s : State) (y : Xfer) : State :=
  { s with dict := { s.dict with xfers := s.dict.xfers.map (fun (x : Xfer) => if Nat.beq x.sess y.sess && Nat.beq x.tid y.tid then y else x) } }

/-- A transfer begun. -/
def State.xferAdd (s : State) (x : Xfer) : State := { s with dict := { s.dict with xfers := s.dict.xfers ++ [x] } }

/-- SEG_READ_START, R102: a snapshot of the whole value. -/
def State.doSegReadStart (s : State) (e : Sess) (m : Msg) : State :=
  match s.lookup m.idx m.sub with
  | .error st => s.reply e 0x20 m st 0 []
  | .ok r =>
    if r.readMay ≠ 0 then s.reply e 0x20 m r.readMay 0 []
    else if s.barred m then s.reply e 0x20 m 6 0 []
    else if !s.xferRoom e then s.reply e 0x20 m 0x0D 0 []
    else
      let s1 := s.readPrepare e m.idx m.sub
      let v := s1.value e.readIndex m.idx m.sub r
      ((s1.readDone m.idx m.sub).xferAdd { sess := e.id, write := false, tid := m.tid, idx := m.idx, sub := m.sub, total := v.length, data := v,
                                           trailer := [], last := s.time.now }).reply e 0x20 m 0 v.length []

/-- R92, R96: the checks of a request within a transfer that precede the transfer's own: the object, and a trailer in a lockout; 0 where they pass. -/
def State.xferMay (s : State) (m : Msg) : Nat :=
  match s.lookup m.idx m.sub with
  | .error st => st
  | .ok _ => if s.barred m then 6 else 0

/-- R102: bytes of a snapshot; it is released when its last byte has been read (log entry 55 for an offset above the total). -/
def State.segReadData (s : State) (e : Sess) (m : Msg) : State :=
  match s.xferFind e false m with
  | none => s.reply e 0x21 m 0x10 m.param []
  | some x =>
    if x.total < m.param then (s.xferPut { x with last := s.time.now }).reply e 0x21 m 0x0C m.param []
    else
      let b := slice x.data m.param (min m.length (e.buf - 16))
      let s1 := if !b.isEmpty && Nat.ble x.total (m.param + b.length) then s.xferDrop x.sess x.tid else s.xferPut { x with last := s.time.now }
      s1.reply e 0x21 m 0 m.param b

/-- SEG_READ_DATA, R102. -/
def State.doSegReadData (s : State) (e : Sess) (m : Msg) : State :=
  if s.xferMay m ≠ 0 then s.reply e 0x21 m (s.xferMay m) m.param [] else s.segReadData e m

/-- R103: does a total length break the object's lengths? (log entry 55). -/
def ObjRow.totalOk (r : ObjRow) (n : Nat) : Bool := Nat.ble 1 n && Nat.ble r.minLen n && Nat.ble n r.maxLen

/-- SEG_WRITE_START, R103: checks 4 to 10 and the total; the object is held from here on. -/
def State.doSegWriteStart (s : State) (e : Sess) (m : Msg) : State :=
  let answer (t : State) (st : Nat) : State := t.reply e 0x28 m st m.param []
  match s.lookup m.idx m.sub with
  | .error st => answer s st
  | .ok r =>
    let k := Obj.key m.idx m.sub
    let may := s.writeMay e r m.idx
    let need := if e.skips m.idx then ObjAuth.none else s.authNeeded e.isMailbox r m.idx m.sub none
    let fixed := s.stateFixed e.isMailbox m.idx m.sub
    if may ≠ 0 then answer s may
    else if s.barred m ∨ (need ≠ .none ∧ s.trailerMay need m.trailer = false) then answer s 6
    else if !e.skips m.idx && s.lockedNow r then answer s 7
    else if !e.skips m.idx && !s.modeAdmits r then answer (if k = 0x2C0002 ∨ k = 0x2C0003 ∨ k = 0x2C0005 then s.updRefuse 1 else s) 8
    else if fixed.1 = stTamper then answer (s.refusalCount k fixed.2) stTamper
    else if s.held m.idx m.sub then answer s 0x0D
    else if fixed.1 ≠ 0 then answer (s.refusalCount k fixed.2) fixed.1
    else if !r.totalOk m.param then answer s 0x0B
    else if !s.xferRoom e then answer s 0x0D
    else
      answer (s.xferAdd { sess := e.id, write := true, tid := m.tid, idx := m.idx, sub := m.sub, total := m.param, data := [],
                          trailer := m.trailer.getD [], last := s.time.now }) 0

/-- R103, step 4: the last segment has come: the trailer over the whole value, then checks 9 to 13. -/
def State.segWriteEnd (s : State) (e : Sess) (m : Msg) (x : Xfer) (v : List Byte) : State :=
  let s0 := s.xferDrop x.sess x.tid
  match s0.lookup x.idx x.sub with
  | .error st => s0.reply e 0x29 m st v.length []
  | .ok r =>
    let need := if e.skips x.idx then ObjAuth.none else s0.authNeeded e.isMailbox r x.idx x.sub (some v)
    let a := if need = .none then (true, s0) else s0.verify need (if x.trailer.isEmpty then none else some x.trailer) 0x28 x.idx x.sub v
    if !a.1 then a.2.reply e 0x29 m 6 v.length []
    else a.2.writeRest e 0x29 m r x.idx x.sub false v v.length

/-- R103: a segment of a transfer (log entry 55 for an empty one, and one that reaches the total without LAST). -/
def State.segWriteData (s : State) (e : Sess) (m : Msg) : State :=
  match s.xferFind e true m with
  | none => s.reply e 0x29 m 0x10 0 []
  | some x =>
    let got := x.data.length
    let v := x.data ++ m.value
    let kept := s.xferPut { x with last := s.time.now }
    let last := Nat.testBit m.flags 1
    if m.param ≠ got then kept.reply e 0x29 m 0x0F got []
    else if last && !(Nat.beq v.length x.total) then (s.xferDrop x.sess x.tid).reply e 0x29 m 0x0B got []
    else if m.value.isEmpty || (!last && Nat.ble x.total v.length) then kept.reply e 0x29 m 0x0B got []
    else if last then s.segWriteEnd e m x v
    else (s.xferPut { x with data := v, last := s.time.now }).reply e 0x29 m 0 v.length []

/-- SEG_WRITE_DATA, R103. -/
def State.doSegWriteData (s : State) (e : Sess) (m : Msg) : State :=
  if s.xferMay m ≠ 0 then s.reply e 0x29 m (s.xferMay m) 0 [] else s.segWriteData e m

/-- SEG_ABORT, Table 3.6: the transfer of the object whose start had the TID, else the latest of the object. -/
def State.doSegAbort (s : State) (e : Sess) (m : Msg) : State :=
  let mine (x : Xfer) : Bool := Nat.beq x.sess e.id && Nat.beq x.idx m.idx && Nat.beq x.sub m.sub
  let l := s.dict.xfers.reverse.filter mine
  if s.xferMay m ≠ 0 then s.reply e 0x2F m (s.xferMay m) 0 [] else
  match (l.find? (fun (x : Xfer) => Nat.beq x.tid m.tid)).or l.head? with
  | none => s.reply e 0x2F m 0x10 0 []
  | some x => (s.xferDrop x.sess x.tid).reply e 0x2F m 0 0 []

/-! ## Integrator objects -/

/-- R113: the bytes that the declared objects of a persistence may hold, one object left out (log entry 55). -/
def State.declBytes (s : State) (stored : Nat) (but : Nat) : Nat :=
  s.dict.decls.foldl (fun (a : Nat) (e : Nat × List Byte) => if Nat.beq e.1 but || !(Nat.beq (leAt e.2 3 1) stored) then a else a + leAt e.2 8 4) 0

/-- R113: is there room for a declaration? -/
def State.declRoom (s : State) (k : Nat) (d : List Byte) : Bool :=
  let p := leAt d 3 1
  Nat.blt (s.dict.decls.filter (fun (e : Nat × List Byte) => !(Nat.beq e.1 k))).length 1024 &&
    Nat.ble (s.declBytes p k + leAt d 8 4) (if p = 1 then 262144 else 16777216)

/-- R112, R113: a declaration's status and what it leaves (log entry 55). -/
def State.declare (s : State) (idx sub : Nat) (d : List Byte) : Nat × State :=
  let k := Obj.key idx sub
  if !integIdx idx || Nat.beq sub 0 then (0x0C, s)
  else if s.held idx sub then (0x0D, s)
  else if d.length ≠ 16 then (0x0B, s)
  else if !descriptorOk d then (0x0C, s)
  else if s.decl k = some d then (0, s)
  else if !s.declRoom k d then (0x0C, s)
  else
    let s1 := { s with dict := { s.dict with decls := Sparse.insert k d s.dict.decls } }.setObj idx sub []
    (0, if leAt d 3 1 = 1 then s1.persist k (s.obj idx sub) else s1)

/-- DECLARE, R112. -/
def State.doDeclare (s : State) (e : Sess) (m : Msg) : State :=
  if s.barred m then s.reply e 0x30 m 6 0 [] else
  let r := s.declare m.idx m.sub m.value
  r.2.reply e 0x30 m r.1 0 []

/-! ## Serving a request -/

/-- R96: a new request served: its early checks, then its opcode's own. -/
def State.serveNew (s : State) (e : Sess) (op : Nat) (m : Msg) : State :=
  let st := e.early op m
  if st ≠ 0 then s.reply e op m st 0 []
  else match op with
    | 1 => s.doOpen e m
    | 2 => s.doClose e m
    | 0x10 => s.doRead e m
    | 0x11 => s.doWrite e m
    | 0x12 => s.doDescribe e m
    | 0x20 => s.doSegReadStart e m
    | 0x21 => s.doSegReadData e m
    | 0x28 => s.doSegWriteStart e m
    | 0x29 => s.doSegWriteData e m
    | 0x2F => s.doSegAbort e m
    | _ => s.doDeclare e m

/-- R99: does a request with this TID wait for the mode tick? -/
def State.waits (s : State) (id tid : Nat) : Bool :=
  s.dict.modeWait.any (fun (w : Nat × Nat × List Byte) => Nat.beq w.2.1 id && !w.2.2.isEmpty && Nat.beq (leAt w.2.2 2 2) tid)

/-- R94 to R99: a request that the server comes to: discarded as malformed, answered from the cache, discarded while its original is served, or
served. An answer of AUTH from the cache is no new response, and AUTH_FAILURES stays (log entry 55). -/
def State.serveOne (s : State) (id op : Nat) (m : Msg) : State :=
  match s.session id with
  | none => s
  | some e =>
    if m.malformed op e.buf then s.bumpObj 0x1022 7 4
    else
      match assoc? m.tid e.cache with
      | some b => (s.bumpObj 0x1022 4 4).transmit e b
      | none => if s.waits id m.tid then s else s.serveNew e op m

/-- R100: the messages that wait in a session's receive queue served, oldest first. -/
def State.drain : Nat → Nat → State → State
  | 0, _, s => s
  | n + 1, id, s =>
    match s.session id with
    | none => s
    | some e =>
      match e.queue with
      | [] => s
      | x :: t => State.drain n id ((s.setSession id (fun (y : Sess) => { y with queue := t })).serveOne id x.1 x.2)

/-- R100: the server comes to every session's waiting messages (log entry 54). -/
def State.serveWaiting (s : State) : State :=
  if s.coresRun then s.dict.sessions.foldl (fun (t : State) (e : Sess) => if e.queue.isEmpty then t else State.drain 8 e.id t) s else s

/-- R100: a request that arrives in a session: dropped at a full receive queue, kept in it while the server is occupied with other sessions, or
served after those that wait. Without a session, or with the cores stopped, nothing hears it. -/
def State.serve (s : State) (id op : Nat) (m : Msg) : State :=
  match s.session id with
  | none => s
  | some e =>
    if !s.coresRun then s
    else
      let s1 := s.setSession id (fun (x : Sess) => { x with last := s.time.now })
      if e.isMailbox then s1.serveOne id op m
      else if Nat.ble 8 e.queue.length then s1.bumpObj 0x1022 6 4
      else if m.busy then s1.setSession id (fun (x : Sess) => { x with queue := x.queue ++ [(op, m)] })
      else (State.drain 8 id s1).serveOne id op m

/-- OPEN, R108. -/
def execOpenSession (sess : Nat) (msg : Msg) (s : State) : Host.Outcome State Fault Refusal := .next (s.serve sess 1 msg)

/-- CLOSE, R108. -/
def execCloseSession (sess : Nat) (msg : Msg) (s : State) : Host.Outcome State Fault Refusal := .next (s.serve sess 2 msg)

/-- READ, R101. -/
def execReadObject (sess : Nat) (msg : Msg) (s : State) : Host.Outcome State Fault Refusal := .next (s.serve sess 0x10 msg)

/-- WRITE, R96. -/
def execWriteObject (sess : Nat) (msg : Msg) (s : State) : Host.Outcome State Fault Refusal := .next (s.serve sess 0x11 msg)

/-- DESCRIBE, R112. -/
def execDescribeObject (sess : Nat) (msg : Msg) (s : State) : Host.Outcome State Fault Refusal := .next (s.serve sess 0x12 msg)

/-- SEG_READ_START, R102. -/
def execSegReadStart (sess : Nat) (msg : Msg) (s : State) : Host.Outcome State Fault Refusal := .next (s.serve sess 0x20 msg)

/-- SEG_READ_DATA, R102. -/
def execSegReadData (sess : Nat) (msg : Msg) (s : State) : Host.Outcome State Fault Refusal := .next (s.serve sess 0x21 msg)

/-- SEG_WRITE_START, R103. -/
def execSegWriteStart (sess : Nat) (msg : Msg) (s : State) : Host.Outcome State Fault Refusal := .next (s.serve sess 0x28 msg)

/-- SEG_WRITE_DATA, R103. -/
def execSegWriteData (sess : Nat) (msg : Msg) (s : State) : Host.Outcome State Fault Refusal := .next (s.serve sess 0x29 msg)

/-- SEG_ABORT, R104. -/
def execSegAbort (sess : Nat) (msg : Msg) (s : State) : Host.Outcome State Fault Refusal := .next (s.serve sess 0x2F msg)

/-- DECLARE, R112. -/
def execDeclareObject (sess : Nat) (msg : Msg) (s : State) : Host.Outcome State Fault Refusal := .next (s.serve sess 0x30 msg)

/-- READ_RECORDS, R451: a READ of RECORDS. -/
def execReadRecords (sess : Nat) (msg : Msg) (s : State) : Host.Outcome State Fault Refusal :=
  .next (s.serve sess 0x10 { msg with idx := 0x2D00, sub := 8 })

/-! ## Times -/

/-- AUTH_LOCKOUT_END, R92. -/
def execAuthLockoutEnd (t : Nat) (s : State) : Host.Outcome State Fault Refusal :=
  .next (
    let s0 := s.upTo t
    match s0.dict.lockout with
    | some e => if e ≤ s0.eventTime then { s0 with dict := { s0.dict with lockout := none } } else s0
    | none => s0)

/-- R102, R104: a transfer ends 10 s after its last request. -/
def State.xferExpire (s : State) (write : Bool) (sess tid : Nat) : State :=
  if s.dict.xfers.any (fun (x : Xfer) => Nat.beq x.sess sess && Nat.beq x.tid tid && (x.write == write) && Nat.ble (x.last + 10000000000) s.time.now)
  then s.xferDrop sess tid else s

/-- SNAPSHOT_RELEASE, R102. -/
def execSnapshotRelease (sess tid t : Nat) (s : State) : Host.Outcome State Fault Refusal := .next ((s.upTo t).xferExpire false sess tid)

/-- SEG_WRITE_HOLD_END, R104. -/
def execSegWriteHoldEnd (sess tid t : Nat) (s : State) : Host.Outcome State Fault Refusal := .next ((s.upTo t).xferExpire true sess tid)

/-- SESSION_IDLE_TIMEOUT, R108. -/
def execSessionIdleTimeout (sess t : Nat) (s : State) : Host.Outcome State Fault Refusal :=
  .next (
    let s0 := s.upTo t
    match s0.session sess with
    | some e => if e.kind = .ring ∧ e.last + s0.objN 0x1022 2 * 1000000000 ≤ s0.time.now then s0.sessClose sess else s0
    | none => s0)

/-- CONFIG_BACKUP, R85: the stored objects whose backup is due are copied to the NAND within 60 s of their write. -/
def execConfigBackup (t : Nat) (s : State) : Host.Outcome State Fault Refusal :=
  .next (
    let s0 := s.upTo t
    if s0.coresRun then
      { s0 with dict := { s0.dict with nand := s0.dict.backupDue.foldl (fun (l : List (Nat × List Byte)) k => Sparse.insert k (Sparse.get Obj.default s0.objs k) l) s0.dict.nand,
                                       backupDue := [] } }
    else s0)

/-! ## Ring sessions -/

/-- The lowest anchor that names a key slot. -/
def State.anchorOf (s : State) (slot : Nat) : Option Nat := (upFrom 1 8).find? (fun n => Nat.beq (s.objN 0x1020 n) slot)

/-- R105: is an offer one that the module supports? TLS_AES_128_GCM_SHA256 or TLS_AES_256_GCM_SHA384, secp256r1 or secp384r1, ECDSA on either; no
pre-shared key, resumption, early data or connection identifier. -/
def helloSupported (h : ClientHello) : Bool :=
  h.dtls13 && h.suites.any (fun c => Nat.beq c 0x1301 || Nat.beq c 0x1302) && h.groups.any (fun c => Nat.beq c 0x17 || Nat.beq c 0x18) &&
    h.sigs.any (fun c => Nat.beq c 0x403 || Nat.beq c 0x503) && !h.psk && !h.early && !h.cid

/-- R106: does the local clock lie within the validity of every certificate of the client's chain? -/
def State.certsValid (s : State) (h : ClientHello) : Bool :=
  h.validity.all (fun (v : Nat × Nat) => decide ((v.1 : Int) ≤ s.utcNow / 1000000000 ∧ s.utcNow / 1000000000 ≤ (v.2 : Int)))

/-- R105 to R107: why a handshake is refused, 0 where it is not: an offer it does not support or no device certificate to offer (1), a chain that
does not verify or ends at no anchor (2), a certificate out of its validity (3), 16 ring sessions open (4). -/
def State.handshakeRefused (s : State) (h : ClientHello) : Nat :=
  if !helloSupported h || !decide (s.chainCheck 2 = .ok) then 1
  else if !h.chain || (s.anchorOf h.slot).isNone || !decide (s.chainCheck h.slot = .ok) then 2
  else if !s.certsValid h then 3
  else if Nat.ble 16 s.ringSessions.length then 4
  else 0

/-- R105, R107: the alert that refuses a handshake: handshake_failure, 40, for a 17th session; the manual names none for the others. -/
def alertFor (why : Nat) : Nat := if why = 4 then 40 else Config.dtlsAlert why

/-- DTLS_HANDSHAKE, R105 to R107: a handshake on the module's port opens a ring session at its anchor's level, or is refused with an alert. -/
def execDtlsHandshake (t : Nat) (hello : ClientHello) (s : State) : Host.Outcome State Fault Refusal :=
  .next (
    let s0 := s.upTo t
    if !s0.coresRun || !(Nat.beq hello.port 48071) then s0
    else if s0.handshakeRefused hello ≠ 0 then { s0 with dict := { s0.dict with alert := some (alertFor (s0.handshakeRefused hello)) } }
    else
      let e : Sess := { id := s0.dict.nextSession, kind := .ring, anchor := (s0.anchorOf hello.slot).getD 0, last := s0.time.now }
      { s0 with dict := { s0.dict with sessions := s0.dict.sessions ++ [e], nextSession := s0.dict.nextSession + 1 } }.backhaulFollow)

/-- CLOSE_NOTIFY, R108. -/
def execCloseNotify (sess : Nat) (s : State) : Host.Outcome State Fault Refusal :=
  .next (match s.session sess with
    | some e => if e.kind = .ring then s.sessClose sess else s
    | none => s)

/-! ## Messages as bytes -/

/-- Table 3.5: a message's opcode and the rest of it; none where it is shorter than its header. -/
def parseMsg (b : List Byte) (busy : Bool) : Option (Nat × Msg) :=
  if b.length < 16 then none
  else some (leAt b 1 1, { version := leAt b 0 1, tid := leAt b 2 2, idx := leAt b 4 2, sub := leAt b 6 1, flags := leAt b 7 1, param := leAt b 8 4,
                           length := leAt b 12 2, status := leAt b 14 1, credit := leAt b 15 1, body := b.drop 16, busy := busy })

/-- A message's bytes served in a session; one shorter than its header is malformed (R94). -/
def State.serveBytes (s : State) (id : Nat) (b : List Byte) (busy : Bool) : State :=
  match parseMsg b busy with
  | none => s.bumpObj 0x1022 7 4
  | some (op, m) => s.serve id op m

/-! ## The envelope -/

/-- R109: the session of a node, and the state that holds it. -/
def State.nodeSession (s : State) (node : Nat) : Nat × State :=
  match s.nodeSessions node with
  | id :: _ => (id, s)
  | [] =>
    let id := s.dict.nextSession
    (id, { s with dict := { s.dict with sessions := s.dict.sessions ++ [{ id := id, kind := .can node, buf := 256 }], nextSession := id + 1 } })

/-- R325: a copy of the envelope accepted last, on the other bus within 100 ms. -/
def State.envelopeCopy (s : State) (b node counter : Nat) : Bool :=
  Nat.beq counter (s.link node).rx && s.can.accepted.any (fun (a : Nat × Nat × Ns) =>
    Nat.beq a.1 node && !(Nat.beq a.2.1 b) && Nat.ble s.time.now (a.2.2 + 100000000))

/-- R109: the message an envelope carries, opened under the node's link key. -/
def State.envelopeOpen (s : State) (node : Nat) (e : List Byte) : List Byte :=
  fit (e.length - 16) (Config.ccmOpen (s.nodeLink node) (envNonce e) (e.take 8) (e.drop 8))

/-- R109: does an envelope's tag verify? -/
def State.envelopeTag (s : State) (node : Nat) (e : List Byte) : Bool :=
  decide (fit (e.length - 8) (Config.ccmSeal 8 (s.nodeLink node) (envNonce e) (e.take 8) (s.envelopeOpen node e)) = e.drop 8)

/-- R109: is an envelope one the receiver accepts? -/
def State.envelopeOk (s : State) (node : Nat) (e : List Byte) : Bool :=
  s.envelopeTag node e && Nat.ble 16 e.length && Nat.beq (leAt e 0 1) 0xD1 && Nat.beq (leAt e 1 1) node && Nat.beq (leAt e 2 1) 0 && Nat.ble 2 (s.entry node 3) &&
    Nat.beq (leAt e 3 1) (s.entry node 6) && !(s.link node).ended && Nat.blt (s.link node).rx (leAt e 4 4) && decide (s.chainCheck 24 = .ok)

/-- SECURED_ENVELOPE, REDUNDANT_COPY, R109, R325: the oldest reassembled envelope is opened and its message served; `busy` says whether
the server is occupied with other sessions. -/
def execSecuredEnvelope (busy : Bool) (s : State) : Host.Outcome State Fault Refusal :=
  .next (
    match s.can.envelopes with
    | [] => s
    | (b, node, e) :: rest =>
      let s0 := { s with can := { s.can with envelopes := rest } }
      let c := leAt e 4 4
      if !s0.coresRun then s0
      else if s0.envelopeCopy b node c then s0.canCount b 5
      else if !s0.envelopeOk node e then s0.bumpObj 0x1030 2 4
      else
        let l := s0.link node
        let s1 := s0.setLink { l with rx := c, saved := (if c / 256 = l.saved.1 / 256 then l.saved.1 else c, l.saved.2) }
        let s2 := { s1 with can := { s1.can with accepted := s1.can.accepted.filter (fun (a : Nat × Nat × Ns) => !(Nat.beq a.1 node)) ++ [(node, b, s1.time.now)] } }
        let r := s2.nodeSession node
        r.2.serveBytes r.1 (s0.envelopeOpen node e) busy)

/-! ## The mailbox's side -/

/-- R94, R110: the message in a request slot: as long as its header says, within the slot. -/
def State.mboxRequest (s : State) (i : Nat) : List Byte :=
  let a := mailboxBase + 0x1000 + 0x1000 * (i % 16)
  let h := s.readMem a 16
  let data := if leAt h 1 1 = 0x21 then 0 else leAt h 12 2
  let n := 16 + data + (if Nat.testBit (leAt h 7 1) 0 then 108 else 0)
  if Nat.ble n 4096 then s.readMem a n else s.readMem a 16

/-- R110: the next request taken, while none is held back and the response ring has room. -/
def State.mboxTake (s : State) : State :=
  let h := s.mboxWord 1
  let t := s.mboxWord 2
  if !s.rdB Reg.SYS_CORE3_CTRL 0 || !s.coresRun || !s.dict.held.isEmpty || s.mboxFull || Nat.beq h t then s
  else (s.setMemN (mailboxBase + 8) 4 (t + 1)).serveBytes 0 (s.mboxRequest t) false

/-- MAILBOX_POLL, R110: the server takes the requests that wait. -/
def execMailboxPoll (s : State) : Host.Outcome State Fault Refusal :=
  .next ((upFrom 0 16).foldl (fun (t : State) _ => t.mboxTake) s)

/-- RSP_TAIL_ADVANCE, R110, R114: core 3 advances RSP_TAIL past responses it has read; held responses follow. -/
def execRspTailAdvance (tail : Word) (s : State) : Host.Outcome State Fault Refusal :=
  .next (
    if !s.rdB Reg.SYS_CORE3_CTRL 0 then s
    else
      let old := s.mboxWord 4
      let n := (tail.toNat + 2 ^ 32 - old) % 2 ^ 32
      let s1 := (upFrom old (min n 16)).foldl State.mboxTaken s
      State.mboxFlush s1.dict.held.length (s1.setMemN (mailboxBase + 16) 4 tail.toNat))

end Sys2Proof.Machine
end

