-- ==== Sys2Proof/Machine/ModeRows.lean ====
section
/-! DEFINITION. The rows of the mode tick and of the standby's mirror (R47, R52, R54, R55, R74). -/

namespace Sys2Proof.Machine

/-- R55, R95: a waiting response with its status. -/
def answered (b : List Byte) (st : Nat) : List Byte := if st = 0 then b else b.take 14 ++ toLE 1 st ++ b.drop 15

/-- R55: one MODE_REQUEST answered; a session that has ended hears nothing. -/
def State.requestAnswer (s : State) (w : Nat × Nat × List Byte) (st : Nat) : State :=
  match s.session w.2.1 with
  | some e => if w.2.2.isEmpty then { s with dict := { s.dict with status := st } } else s.deliver e (leAt w.2.2 2 2) (answered w.2.2 st)
  | none => { s with dict := { s.dict with status := st } }

/-- R55: every waiting request is answered: the one whose transition was taken OK, the others with a state conflict. -/
def State.requestsAnswer (s : State) (l : List (Nat × Nat × List Byte)) (taken : Option (Nat × Nat × List Byte)) : State :=
  match l with
  | [] => s
  | w :: t =>
    if taken = some w then (s.requestAnswer w 0).requestsAnswer t none else (s.requestAnswer w stConflict).requestsAnswer t taken

/-- MODE_TICK, R54: one mode tick. Nothing is evaluated before the supervisor's first mode decision; the supervisor alone follows the lighting
phase in BATTERY_WATCH and DEEP_SLEEP; the loss of mains precedes every trigger of Table 2.2. -/
def State.modeTick (s : State) : State :=
  if !s.aon.supRunning || s.aon.inReset || decide (s.mode.mode = .starting) then s
  else if s.mode.mode = .batteryWatch ∨ s.mode.mode = .deepSleep then s.phaseStep.contFollow
  else if !s.rdB Reg.AON_STATUS 0 then s.powerLoss
  else
    let above := s.transitionOver
    let law := s.mode.lawWritten
    let asked := s.dict.modeWait
    let s1 := { s with mode := { s.mode with lawWritten := none }, dict := { s.dict with modeWait := [] } }.phaseStep
    let pick := asked.find? (fun (w : Nat × Nat × List Byte) => (s1.tickRequest (some w.1)).isSome)
    let r := s1.tickTake above law (pick.map (fun (w : Nat × Nat × List Byte) => w.1))
    (r.2.requestsAnswer asked (if r.1 then pick else none)).contFollow

/-- MODE_TICK, R54; by then the dictionary server has come to the messages that wait (R97, log entry 54). -/
def execModeTick (t : Nat) (s : State) : Host.Outcome State Fault Refusal := .next (s.upTo t).modeTick.serveWaiting

/-- TRANSITION_COMPLETE, R47: the tick at which TRANSITION_TIME has expired. -/
def execTransitionComplete (t : Nat) (s : State) : Host.Outcome State Fault Refusal :=
  .next (if (s.upTo t).transitionOver then (s.upTo t).modeTick else s.upTo t)

/-- ISLANDING_TIMEOUT, R52: the tick at which backhaul sessions and ring time have been absent for more than 30 s. -/
def execIslandingTimeout (t : Nat) (s : State) : Host.Outcome State Fault Refusal :=
  .next (if (s.upTo t).islands then (s.upTo t).modeTick else s.upTo t)

/-- COUNT_REPORT_TIMEOUT, R52: the tick at which no count report has come for 60 s in NIGHT_FOLLOWING. -/
def execCountReportTimeout (t : Nat) (s : State) : Host.Outcome State Fault Refusal :=
  .next (if (s.upTo t).countsLost then (s.upTo t).modeTick else s.upTo t)

/-! ## Mirroring -/

/-- R74: is an object mirrored? -/
def mirrored (k : Nat) : Bool :=
  let i := k / 256
  let b := k % 256
  let stored := match Obj.find i b with
    | some r => r.stored && decide (r.access ≠ .wo)
    | none => false
  stored && ((Nat.ble 0x2200 i && Nat.blt i 0x2B00) || (Nat.ble 0x5000 i && Nat.blt i 0x5100) || (Nat.ble 0x6000 i && Nat.blt i 0x7000) ||
      (Nat.ble 0x7000 i && Nat.blt i 0x7100)) &&
    !((Nat.beq i 0x2600 || Nat.beq i 0x2A10) && Nat.ble 1 b && Nat.ble b 0x0A) &&
    !([0x2610, 0x2611, 0x2630, 0x2640, 0x2660].contains i) && !(Nat.beq k (Obj.key 0x2A00 1)) && !(Nat.ble 0x2A20 i && Nat.blt i 0x2A30) &&
    !(Nat.beq k (Obj.key 0x2A30 2)) && !(Nat.beq i 0x2700 && (Nat.beq b 6 || Nat.beq b 7 || Nat.beq b 0x0F))

/-- R74: one object read from the partner is stored as a write stores it, and acts as a written one does (log entry 43). -/
def State.mirrorPut (s : State) (k : Nat) (v : List Byte) : State :=
  let old := s.obj (k / 256) (k % 256)
  if Nat.beq k (Obj.key 0x2400 1) then s.winChange (fromLE v) else (s.setObj (k / 256) (k % 256) v).hook {} k old v

/-- MIRROR_REFRESH, R74: every 10 s in STANDBY the objects read from the partner are stored; `values` holds them by key. -/
def execMirrorRefresh (t : Nat) (values : List (Nat × List Byte)) (s : State) : Host.Outcome State Fault Refusal :=
  .next (
    let s0 := s.upTo t
    if s0.mode.mode = .standby then
      let s1 := (values.filter (fun (e : Nat × List Byte) => mirrored e.1)).foldl (fun (u : State) (e : Nat × List Byte) => u.mirrorPut e.1 e.2) s0
      { s1 with mode := { s1.mode with mirroredAt := some s1.time.now } }
    else s0)

end Sys2Proof.Machine
end

