-- ==== Sys2Proof/Machine/ObjectRows.lean ====
section
/-! DEFINITION. The rows of the opcode table that are writes of one dictionary object (R145, R189, R203, R211, R228, R234, R255, R273, R391, R413,
R414, R425 to R429, R433, R434, R439, R452, R453, R466, R476). Each is a write whose session, authorisation and lockouts the dictionary server has
passed; checks 4 and 9 to 13 of R96 remain. -/

namespace Sys2Proof.Machine

/-- An authorised write of an object: checks 4 and 9 to 13 of R96, and its status; nothing hears it while the cores are stopped. -/
def State.rowWrite (s : State) (w : Writer) (idx sub : Nat) (v : List Byte) : State :=
  if !s.coresRun then s
  else match s.lookup idx sub with
    | .error st => { s with dict := { s.dict with status := st } }
    | .ok r =>
      let a := s.writeFrom9 w r idx sub (s.held idx sub) v
      { a.2 with dict := { a.2.dict with status := a.1 } }

/-- The writer that a session's number names: 0 is the mailbox (R110). -/
def writerOf (sess : Nat) : Writer := { sess := sess, mailbox := Nat.beq sess 0 }

/-- A writer of a ring or cabinet-bus session. -/
def writerFar : Writer := { sess := 1 }

/-- TAMPER_CLEAR, R72: object 0x2000:0C. -/
def execTamperClear (value : List Byte) (s : State) : Host.Outcome State Fault Refusal := .next (s.rowWrite writerFar 0x2000 0x0C value)

/-- MODE_REQUEST, R55: object 0x2000:02; the request is evaluated at the next mode tick. -/
def execModeRequest (sess : Nat) (value : List Byte) (s : State) : Host.Outcome State Fault Refusal :=
  .next (
    let t := s.rowWrite (writerOf sess) 0x2000 2 value
    if s.coresRun ∧ t.dict.status = 0 then
      { t with dict := { t.dict with modeWait := t.dict.modeWait ++ [(fromLE value, sess, [])] } }
    else t)

/-- RTC_SET, R145: object 0x2130:02. -/
def execRtcSet (value : List Byte) (s : State) : Host.Outcome State Fault Refusal := .next (s.rowWrite writerFar 0x2130 2 value)

/-- REGISTRATION, R189: a report card's subindex 4. -/
def execRegistrationWrite (l : Fin 4096) (value : List Byte) (s : State) : Host.Outcome State Fault Refusal :=
  .next (s.rowWrite writerFar (0x6000 + l.val) 4 value)

/-- REBALANCE, R203: object 0x7000:0D. -/
def execRebalance (value : List Byte) (s : State) : Host.Outcome State Fault Refusal := .next (s.rowWrite writerFar 0x7000 0x0D value)

/-- GRAPH_COMMIT, R228: object 0x2400:0C. -/
def execGraphCommit (value : List Byte) (s : State) : Host.Outcome State Fault Refusal := .next (s.rowWrite writerFar 0x2400 0x0C value)

/-- EDGE_IN, R234: object 0x2490:01. -/
def execEdgeIn (value : List Byte) (s : State) : Host.Outcome State Fault Refusal := .next (s.rowWrite writerFar 0x2490 1 value)

/-- COEFF_SWAP, R255: object 0x2500:06, or, by an initiator, CTL_CTRL.SWAP. -/
def execCoeffSwap (ini : Option Initiator) (value : List Byte) (s : State) : Host.Outcome State Fault Refusal :=
  .next (match ini with
    | none => s.rowWrite writerFar 0x2500 6 value
    | some i => s.regWrite i true Reg.CTL_CTRL (fun t => if Nat.testBit (fromLE value) 2 then t.swapRequest else t))

/-- ENERGY_RESET, R273: object 0x2600:0A. -/
def execEnergyReset (value : List Byte) (s : State) : Host.Outcome State Fault Refusal := .next (s.rowWrite writerFar 0x2600 0x0A value)

/-- CHANNEL_CLEAR, R391: object 0x2A10:0A. -/
def execChannelClear (sess : Nat) (value : List Byte) (s : State) : Host.Outcome State Fault Refusal := .next (s.rowWrite (writerOf sess) 0x2A10 0x0A value)

/-- PARTNER_AGREE_PUB, R413: object 0x2B01:01. -/
def execPartnerAgreePub (value : List Byte) (s : State) : Host.Outcome State Fault Refusal := .next (s.rowWrite writerFar 0x2B01 1 value)

/-- KEY_IMPORT, R414: object 0x2B02:01. -/
def execKeyImport (value : List Byte) (s : State) : Host.Outcome State Fault Refusal := .next (s.rowWrite writerFar 0x2B02 1 value)

/-- MANIFEST, R425: object 0x2C00:02. -/
def execManifestWrite (value : List Byte) (s : State) : Host.Outcome State Fault Refusal := .next (s.rowWrite writerFar 0x2C00 2 value)

/-- STAGE_BLOCK, R426: object 0x2C00:03. -/
def execStageBlock (value : List Byte) (s : State) : Host.Outcome State Fault Refusal := .next (s.rowWrite writerFar 0x2C00 3 value)

/-- ACTIVATE, R429: object 0x2C00:05. -/
def execActivateUpdate (value : List Byte) (s : State) : Host.Outcome State Fault Refusal := .next (s.rowWrite writerFar 0x2C00 5 value)

/-- ABORT, R434, Table 15.6: object 0x2C00:06; during a probation it needs the owner's authorisation. -/
def execAbortUpdate (value : List Byte) (owner : Bool) (s : State) : Host.Outcome State Fault Refusal :=
  .next (
    if s.coresRun ∧ s.updState = 4 ∧ owner = false then { s.bumpObj 0x1022 5 4 with dict := { (s.bumpObj 0x1022 5 4).dict with status := 6 } }
    else s.rowWrite writerFar 0x2C00 6 value)

/-- SEAL_OPEN, R428: object 0x2C00:0C. -/
def execSealOpen (value : List Byte) (s : State) : Host.Outcome State Fault Refusal := .next (s.rowWrite writerFar 0x2C00 0x0C value)

/-- INTEGRATOR_HEALTH, R433: object 0x2C00:09. -/
def execIntegratorHealth (sess : Nat) (value : List Byte) (s : State) : Host.Outcome State Fault Refusal := .next (s.rowWrite (writerOf sess) 0x2C00 9 value)

/-- LANTERN_ACTIVATE, R439: object 0x2C10:05. -/
def execLanternActivate (value : List Byte) (s : State) : Host.Outcome State Fault Refusal := .next (s.rowWrite writerFar 0x2C10 5 value)

/-- LOG_CLEAR, R452: object 0x2D00:05. -/
def execLogClear (value : List Byte) (s : State) : Host.Outcome State Fault Refusal := .next (s.rowWrite writerFar 0x2D00 5 value)

/-- INTEGRATOR_EVENT, R453: object 0x2D01:01. -/
def execIntegratorEvent (sess : Nat) (value : List Byte) (s : State) : Host.Outcome State Fault Refusal := .next (s.rowWrite (writerOf sess) 0x2D01 1 value)

/-- HOIST_CLEAR, R466: object 0x2E00:02. -/
def execHoistClear (value : List Byte) (s : State) : Host.Outcome State Fault Refusal := .next (s.rowWrite writerFar 0x2E00 2 value)

/-- DEBUG_UNLOCK, R476: object 0x2E00:08. -/
def execDebugUnlock (value : List Byte) (s : State) : Host.Outcome State Fault Refusal := .next (s.rowWrite writerFar 0x2E00 8 value)

/-- JOIN, R211: a JOIN of a lantern. -/
def execLanternJoin (l : Fin 4096) (body : List Byte) (s : State) : Host.Outcome State Fault Refusal := .next (s.join l.val body)

end Sys2Proof.Machine
end

