-- ==== Sys2Proof/Machine/Dispatch.lean ====
section
/-! DEFINITION. One arm per command: the meaning it has, or its rejection by name. -/

namespace Sys2Proof.Machine

def exec (i : Instr) (s : State) : Host.Outcome State Fault Refusal :=
  match i with
  | .registerWrite ini addr width data => Sys2Proof.Machine.execRegisterWrite ini addr width data s
  | .absentAccess ini addr width data => Sys2Proof.Machine.execAbsentAccess ini addr width data s
  | .refusedMemoryAccess ini addr width data => Sys2Proof.Machine.execRefusedMemoryAccess ini addr width data s
  | .sysPermWrite ini which v => Sys2Proof.Machine.execSysPermWrite ini which v s
  | .core3Run => Sys2Proof.Machine.execCore3Run s
  | .core3Restart ini => Sys2Proof.Machine.execCore3Restart ini s
  | .core3Hold => Sys2Proof.Machine.execCore3Hold s
  | .clockLost d rx tx => Sys2Proof.Machine.execClockLost d rx tx s
  | .clockRestored d => Sys2Proof.Machine.execClockRestored d s
  | .queuePush q entry seen => Sys2Proof.Machine.execQueuePush q entry seen s
  | .queuePop q seen => Sys2Proof.Machine.execQueuePop q seen s
  | .qptrParityMismatch q => Sys2Proof.Machine.execQptrParityMismatch q s
  | .modeTick t => Sys2Proof.Machine.execModeTick t s
  | .transitionComplete t => Sys2Proof.Machine.execTransitionComplete t s
  | .islandingTimeout t => Sys2Proof.Machine.execIslandingTimeout t s
  | .countReportTimeout t => Sys2Proof.Machine.execCountReportTimeout t s
  | .batLowTimeout => Sys2Proof.Machine.execBatLowTimeout s
  | .photocellDark mv ms => Sys2Proof.Machine.execPhotocellDark mv ms s
  | .photocellLight mv ms => Sys2Proof.Machine.execPhotocellLight mv ms s
  | .heartbeatWrite ini v => Sys2Proof.Machine.execHeartbeatWrite ini v s
  | .heartbeatMissing => Sys2Proof.Machine.execHeartbeatMissing s
  | .contactorTake ini cmd => Sys2Proof.Machine.execContactorTake ini cmd s
  | .contactorRelease ini cmd => Sys2Proof.Machine.execContactorRelease ini cmd s
  | .contactorCommand ini cmd => Sys2Proof.Machine.execContactorCommand ini cmd s
  | .contactorForceOn ini => Sys2Proof.Machine.execContactorForceOn ini s
  | .contactorForceOff => Sys2Proof.Machine.execContactorForceOff s
  | .mainsComparatorSet vin => Sys2Proof.Machine.execMainsComparatorSet vin s
  | .mainsSet => Sys2Proof.Machine.execMainsSet s
  | .powerFail vin => Sys2Proof.Machine.execPowerFail vin s
  | .flushComplete => Sys2Proof.Machine.execFlushComplete s
  | .coldStart chk0 chk1 bad part mtrBad => Sys2Proof.Machine.execColdStart chk0 chk1 bad part mtrBad s
  | .firstModeDecision => Sys2Proof.Machine.execFirstModeDecision s
  | .supplyCut vin => Sys2Proof.Machine.execSupplyCut vin s
  | .aonSourceChange vin vbat => Sys2Proof.Machine.execAonSourceChange vin vbat s
  | .moduleReset cause => Sys2Proof.Machine.execModuleReset cause s
  | .batteryWatchSave => Sys2Proof.Machine.execBatteryWatchSave s
  | .batteryWatchLimit => Sys2Proof.Machine.execBatteryWatchLimit s
  | .batLowSet vbat => Sys2Proof.Machine.execBatLowSet vbat s
  | .batLowClear vbat => Sys2Proof.Machine.execBatLowClear vbat s
  | .sleepCmd ini => Sys2Proof.Machine.execSleepCmd ini s
  | .appOff ini => Sys2Proof.Machine.execAppOff ini s
  | .deepSleepWake tamper alarm => Sys2Proof.Machine.execDeepSleepWake tamper alarm s
  | .tamperLatch k cycles stays => Sys2Proof.Machine.execTamperLatch k cycles stays s
  | .tamperClear value => Sys2Proof.Machine.execTamperClear value s
  | .modeRequest sess value => Sys2Proof.Machine.execModeRequest sess value s
  | .rootGeneration ok0 ok1 => Sys2Proof.Machine.execRootGeneration ok0 ok1 s
  | .pairHeartbeatSend t => Sys2Proof.Machine.execPairHeartbeatSend t s
  | .pairHeartbeatReceive t data => Sys2Proof.Machine.execPairHeartbeatReceive t data s
  | .takeover t => Sys2Proof.Machine.execTakeover t s
  | .mirrorRefresh t values => Sys2Proof.Machine.execMirrorRefresh t values s
  | .openSession sess msg => Sys2Proof.Machine.execOpenSession sess msg s
  | .closeSession sess msg => Sys2Proof.Machine.execCloseSession sess msg s
  | .readObject sess msg => Sys2Proof.Machine.execReadObject sess msg s
  | .writeObject sess msg => Sys2Proof.Machine.execWriteObject sess msg s
  | .describeObject sess msg => Sys2Proof.Machine.execDescribeObject sess msg s
  | .segReadStart sess msg => Sys2Proof.Machine.execSegReadStart sess msg s
  | .segReadData sess msg => Sys2Proof.Machine.execSegReadData sess msg s
  | .segWriteStart sess msg => Sys2Proof.Machine.execSegWriteStart sess msg s
  | .segWriteData sess msg => Sys2Proof.Machine.execSegWriteData sess msg s
  | .segAbort sess msg => Sys2Proof.Machine.execSegAbort sess msg s
  | .declareObject sess msg => Sys2Proof.Machine.execDeclareObject sess msg s
  | .authLockoutEnd t => Sys2Proof.Machine.execAuthLockoutEnd t s
  | .snapshotRelease sess tid t => Sys2Proof.Machine.execSnapshotRelease sess tid t s
  | .segWriteHoldEnd sess tid t => Sys2Proof.Machine.execSegWriteHoldEnd sess tid t s
  | .sessionIdleTimeout sess t => Sys2Proof.Machine.execSessionIdleTimeout sess t s
  | .dtlsHandshake t hello => Sys2Proof.Machine.execDtlsHandshake t hello s
  | .closeNotify sess => Sys2Proof.Machine.execCloseNotify sess s
  | .securedEnvelope busy => Sys2Proof.Machine.execSecuredEnvelope busy s
  | .mailboxPoll => Sys2Proof.Machine.execMailboxPoll s
  | .rspTailAdvance tail => Sys2Proof.Machine.execRspTailAdvance tail s
  | .configBackup t => Sys2Proof.Machine.execConfigBackup t s
  | .timeNowLatch ini => Sys2Proof.Machine.execTimeNowLatch ini s
  | .setClock ini => Sys2Proof.Machine.execSetClock ini s
  | .stepClock ini => Sys2Proof.Machine.execStepClock ini s
  | .servoOffset ini v => Sys2Proof.Machine.execServoOffset ini v s
  | .holdover t => Sys2Proof.Machine.execHoldover t s
  | .captureEdge n rising q => Sys2Proof.Machine.execCaptureEdge n rising q s
  | .captureRecordRemove => Sys2Proof.Machine.execCaptureRecordRemove s
  | .internalCapture k t => Sys2Proof.Machine.execInternalCapture k t s
  | .tsqLatch ini => Sys2Proof.Machine.execTsqLatch ini s
  | .tsqRemove ini => Sys2Proof.Machine.execTsqRemove ini s
  | .armTrigger ini n => Sys2Proof.Machine.execArmTrigger ini n s
  | .disarmTrigger ini n => Sys2Proof.Machine.execDisarmTrigger ini n s
  | .triggerFire n t samples => Sys2Proof.Machine.execTriggerFire n t samples s
  | .pulseEnd n t => Sys2Proof.Machine.execPulseEnd n t s
  | .peerDelayRequest b delay => Sys2Proof.Machine.execPeerDelayRequest b delay s
  | .ptpSync p steps gm better utc x => Sys2Proof.Machine.execPtpSync p steps gm better utc x s
  | .syncPortChange => Sys2Proof.Machine.execSyncPortChange s
  | .rtcSecond cycles t => Sys2Proof.Machine.execRtcSecond cycles t s
  | .rtcTemperatureRead secs temp => Sys2Proof.Machine.execRtcTemperatureRead secs temp s
  | .rtcFreeze w => Sys2Proof.Machine.execRtcFreeze w s
  | .rtcFreezeRelease => Sys2Proof.Machine.execRtcFreezeRelease s
  | .freezeExpired => Sys2Proof.Machine.execFreezeExpired s
  | .rtcHalt ini => Sys2Proof.Machine.execRtcHalt ini s
  | .rtcRelease ini => Sys2Proof.Machine.execRtcRelease ini s
  | .rtcTimeWrite ini w v => Sys2Proof.Machine.execRtcTimeWrite ini w v s
  | .rtcErrorCheck => Sys2Proof.Machine.execRtcErrorCheck s
  | .rtcSet value => Sys2Proof.Machine.execRtcSet value s
  | .slotMark n err => Sys2Proof.Machine.execSlotMark n err s
  | .flywheelSlot n => Sys2Proof.Machine.execFlywheelSlot n s
  | .scheduleCommit ini n => Sys2Proof.Machine.execScheduleCommit ini n s
  | .cellTransmit n energy late orphaned => Sys2Proof.Machine.execCellTransmit n energy late orphaned s
  | .frameReceive n f => Sys2Proof.Machine.execFrameReceive n f s
  | .ackReceive n f => Sys2Proof.Machine.execAckReceive n f s
  | .ackTimeout n => Sys2Proof.Machine.execAckTimeout n s
  | .expectedFrameMissed n k => Sys2Proof.Machine.execExpectedFrameMissed n k s
  | .macFlush ini n => Sys2Proof.Machine.execMacFlush ini n s
  | .scanReceive f full => Sys2Proof.Machine.execScanReceive f full s
  | .registrationWrite l value => Sys2Proof.Machine.execRegistrationWrite l value s
  | .enrolRequest r => Sys2Proof.Machine.execEnrolRequest r s
  | .discoveryCell c => Sys2Proof.Machine.execDiscoveryCell c s
  | .joinTimeout l => Sys2Proof.Machine.execJoinTimeout l s
  | .lostAfter l => Sys2Proof.Machine.execLostAfter l s
  | .lanternJoin l body => Sys2Proof.Machine.execLanternJoin l body s
  | .keyReady l gen => Sys2Proof.Machine.execKeyReady l gen s
  | .lanternLeave l reason => Sys2Proof.Machine.execLanternLeave l reason s
  | .enrolForward relay rssi r => Sys2Proof.Machine.execEnrolForward relay rssi r s
  | .healthReport l body => Sys2Proof.Machine.execHealthReport l body s
  | .energyReport l body => Sys2Proof.Machine.execEnergyReport l body s
  | .dictionaryMessage l body => Sys2Proof.Machine.execDictionaryMessage l body s
  | .handoverProbe r rssi => Sys2Proof.Machine.execHandoverProbe r rssi s
  | .handoverPoll peer peerSegment peerDay heard => Sys2Proof.Machine.execHandoverPoll peer peerSegment peerDay heard s
  | .keyRenewal c => Sys2Proof.Machine.execKeyRenewal c s
  | .keyActivation c => Sys2Proof.Machine.execKeyActivation c s
  | .keyOverlapEnd n => Sys2Proof.Machine.execKeyOverlapEnd n s
  | .rebalance value => Sys2Proof.Machine.execRebalance value s
  | .countReport l body stamp epoch asn => Sys2Proof.Machine.execCountReport l body stamp epoch asn s
  | .windowFinalise => Sys2Proof.Machine.execWindowFinalise s
  | .graphCommit value => Sys2Proof.Machine.execGraphCommit value s
  | .edgeMessageSend links => Sys2Proof.Machine.execEdgeMessageSend links s
  | .edgeIn value => Sys2Proof.Machine.execEdgeIn value s
  | .portStale p => Sys2Proof.Machine.execPortStale p s
  | .sampleDone t => Sys2Proof.Machine.execSampleDone t s
  | .sampleMissed t => Sys2Proof.Machine.execSampleMissed t s
  | .coeffSwap ini value => Sys2Proof.Machine.execCoeffSwap ini value s
  | .lightMapBuild asn => Sys2Proof.Machine.execLightMapBuild asn s
  | .flywheelFrame t samples => Sys2Proof.Machine.execFlywheelFrame t samples s
  | .currentOnlyFrame samples => Sys2Proof.Machine.execCurrentOnlyFrame samples s
  | .modulatorOverrun n => Sys2Proof.Machine.execModulatorOverrun n s
  | .cycleBoundary t est => Sys2Proof.Machine.execCycleBoundary t est s
  | .syntheticBoundary t => Sys2Proof.Machine.execSyntheticBoundary t s
  | .latchView ini => Sys2Proof.Machine.execLatchView ini s
  | .energyReset value => Sys2Proof.Machine.execEnergyReset value s
  | .reconciliation start => Sys2Proof.Machine.execReconciliation start s
  | .canReceive b f err count t => Sys2Proof.Machine.execCanReceive b f err count t s
  | .fifoRelease ini b k v => Sys2Proof.Machine.execFifoRelease ini b k v s
  | .txRequest ini b hi v => Sys2Proof.Machine.execTxRequest ini b hi v s
  | .txCancel ini b hi v begun => Sys2Proof.Machine.execTxCancel ini b hi v begun s
  | .frameTransmitted b m result count t => Sys2Proof.Machine.execFrameTransmitted b m result count t s
  | .columnStart b c count t => Sys2Proof.Machine.execColumnStart b c count t s
  | .timetableCommit ini b => Sys2Proof.Machine.execTimetableCommit ini b s
  | .bellSend b late count t => Sys2Proof.Machine.execBellSend b late count t s
  | .bellReceive b priority payload count t => Sys2Proof.Machine.execBellReceive b priority payload count t s
  | .bellReplace b count t => Sys2Proof.Machine.execBellReplace b count t s
  | .bellLoss b t => Sys2Proof.Machine.execBellLoss b t s
  | .silentBasicCycleStart b count t => Sys2Proof.Machine.execSilentBasicCycleStart b count t s
  | .bitRateChange b => Sys2Proof.Machine.execBitRateChange b s
  | .listenOnly b => Sys2Proof.Machine.execListenOnly b s
  | .fragmentTimeout b node t => Sys2Proof.Machine.execFragmentTimeout b node t s
  | .rollCall t => Sys2Proof.Machine.execRollCall t s
  | .rollPresent b node body t => Sys2Proof.Machine.execRollPresent b node body t s
  | .answerWindowEnd t => Sys2Proof.Machine.execAnswerWindowEnd t s
  | .announce b body => Sys2Proof.Machine.execAnnounce b body s
  | .opticInsert p id => Sys2Proof.Machine.execOpticInsert p id s
  | .opticRemove p rx tx => Sys2Proof.Machine.execOpticRemove p rx tx s
  | .opticDiagRead p diag => Sys2Proof.Machine.execOpticDiagRead p diag s
  | .sfpOvercurrent p rx tx => Sys2Proof.Machine.execSfpOvercurrent p rx tx s
  | .linkUp p => Sys2Proof.Machine.execLinkUp p s
  | .linkDown p los rx tx => Sys2Proof.Machine.execLinkDown p los rx tx s
  | .maintLinkChange speed => Sys2Proof.Machine.execMaintLinkChange speed s
  | .ringFrameReceive p f fcsOk q residence => Sys2Proof.Machine.execRingFrameReceive p f fcsOk q residence s
  | .duplicateForget t => Sys2Proof.Machine.execDuplicateForget t s
  | .supervisionFrame => Sys2Proof.Machine.execSupervisionFrame s
  | .ringOpen t => Sys2Proof.Machine.execRingOpen t s
  | .addressAgeOut t => Sys2Proof.Machine.execAddressAgeOut t s
  | .lldpSend p => Sys2Proof.Machine.execLldpSend p s
  | .lldpNeighbourExpire p t => Sys2Proof.Machine.execLldpNeighbourExpire p t s
  | .descriptorFetch c => Sys2Proof.Machine.execDescriptorFetch c s
  | .descriptorReturn c => Sys2Proof.Machine.execDescriptorReturn c s
  | .beatError c offset count => Sys2Proof.Machine.execBeatError c offset count s
  | .dmaResume ini c => Sys2Proof.Machine.execDmaResume ini c s
  | .channelDisable ini c => Sys2Proof.Machine.execChannelDisable ini c s
  | .channelEnable ini c => Sys2Proof.Machine.execChannelEnable ini c s
  | .dmaRxFrame c => Sys2Proof.Machine.execDmaRxFrame c s
  | .rxWaitTimeout c t => Sys2Proof.Machine.execRxWaitTimeout c t s
  | .dmaTxFrame p q => Sys2Proof.Machine.execDmaTxFrame p q s
  | .loopTick t vled meas => Sys2Proof.Machine.execLoopTick t vled meas s
  | .sinkOvercurrent c => Sys2Proof.Machine.execSinkOvercurrent c s
  | .ocClear ini c => Sys2Proof.Machine.execOcClear ini c s
  | .bankTempRead b temp => Sys2Proof.Machine.execBankTempRead b temp s
  | .stringFaultSet c short t => Sys2Proof.Machine.execStringFaultSet c short t s
  | .stringFaultClear c short t => Sys2Proof.Machine.execStringFaultClear c short t s
  | .hdrmLimit t => Sys2Proof.Machine.execHdrmLimit t s
  | .halCommit ini x => Sys2Proof.Machine.execHalCommit ini x s
  | .halFrameStart x t => Sys2Proof.Machine.execHalFrameStart x t s
  | .frameDone x t => Sys2Proof.Machine.execFrameDone x t s
  | .halDisable ini x => Sys2Proof.Machine.execHalDisable ini x s
  | .rotationStart t => Sys2Proof.Machine.execRotationStart t s
  | .calSettle t => Sys2Proof.Machine.execCalSettle t s
  | .calAccStart ini k v => Sys2Proof.Machine.execCalAccStart ini k v s
  | .accReady k ratio delay mean rms => Sys2Proof.Machine.execAccReady k ratio delay mean rms s
  | .refCheck diff => Sys2Proof.Machine.execRefCheck diff s
  | .channelClear sess value => Sys2Proof.Machine.execChannelClear sess value s
  | .rtcCurveInterval => Sys2Proof.Machine.execRtcCurveInterval s
  | .sinkRefCalibration e0 e1 e2 => Sys2Proof.Machine.execSinkRefCalibration e0 e1 e2 s
  | .sinkTrim t => Sys2Proof.Machine.execSinkTrim t s
  | .radPpmEstimate n cycles => Sys2Proof.Machine.execRadPpmEstimate n cycles s
  | .efficiencyWindow t => Sys2Proof.Machine.execEfficiencyWindow t s
  | .keyGenerate ini c => Sys2Proof.Machine.execKeyGenerate ini c s
  | .keyDerive ini c => Sys2Proof.Machine.execKeyDerive ini c s
  | .importPublic ini c => Sys2Proof.Machine.execImportPublic ini c s
  | .importWrapped ini c => Sys2Proof.Machine.execImportWrapped ini c s
  | .keyAgree ini c => Sys2Proof.Machine.execKeyAgree ini c s
  | .keyInvalidate ini c => Sys2Proof.Machine.execKeyInvalidate ini c s
  | .keyErase ini c => Sys2Proof.Machine.execKeyErase ini c s
  | .keyScrub fails => Sys2Proof.Machine.execKeyScrub fails s
  | .partnerAgreePub value => Sys2Proof.Machine.execPartnerAgreePub value s
  | .keyShare linked => Sys2Proof.Machine.execKeyShare linked s
  | .keyImport value => Sys2Proof.Machine.execKeyImport value s
  | .aesCcm q bad hold => Sys2Proof.Machine.execAesCcm q bad hold s
  | .aesGcm q bad hold => Sys2Proof.Machine.execAesGcm q bad hold s
  | .aesCmac q bad hold => Sys2Proof.Machine.execAesCmac q bad hold s
  | .sha256 q bad hold => Sys2Proof.Machine.execSha256 q bad hold s
  | .sha384 q bad hold => Sys2Proof.Machine.execSha384 q bad hold s
  | .ecdsa q bad hold => Sys2Proof.Machine.execEcdsa q bad hold s
  | .ecdh q bad hold => Sys2Proof.Machine.execEcdh q bad hold s
  | .randomJob q bad hold => Sys2Proof.Machine.execRandomJob q bad hold s
  | .wrapLink q bad hold => Sys2Proof.Machine.execWrapLink q bad hold s
  | .wrapCb q bad hold => Sys2Proof.Machine.execWrapCb q bad hold s
  | .wrapSlot q bad hold => Sys2Proof.Machine.execWrapSlot q bad hold s
  | .storeCode q bad hold => Sys2Proof.Machine.execStoreCode q bad hold s
  | .trngHealthFail apt => Sys2Proof.Machine.execTrngHealthFail apt s
  | .drbgReseed => Sys2Proof.Machine.execDrbgReseed s
  | .drbgResume => Sys2Proof.Machine.execDrbgResume s
  | .manifestWrite value => Sys2Proof.Machine.execManifestWrite value s
  | .stageBlock value => Sys2Proof.Machine.execStageBlock value s
  | .activateUpdate value => Sys2Proof.Machine.execActivateUpdate value s
  | .abortUpdate value owner => Sys2Proof.Machine.execAbortUpdate value owner s
  | .sealOpen value => Sys2Proof.Machine.execSealOpen value s
  | .sealClose t => Sys2Proof.Machine.execSealClose t s
  | .confirmSet ini v => Sys2Proof.Machine.execConfirmSet ini v s
  | .integratorHealth sess value => Sys2Proof.Machine.execIntegratorHealth sess value s
  | .probationSave t => Sys2Proof.Machine.execProbationSave t s
  | .probationExpiry t => Sys2Proof.Machine.execProbationExpiry t s
  | .imageProgress l body => Sys2Proof.Machine.execImageProgress l body s
  | .lanternActivate value => Sys2Proof.Machine.execLanternActivate value s
  | .imageActivationTimeout l => Sys2Proof.Machine.execImageActivationTimeout l s
  | .evrSubmit ini v => Sys2Proof.Machine.execEvrSubmit ini v s
  | .evrFlush => Sys2Proof.Machine.execEvrFlush s
  | .flushRequest => Sys2Proof.Machine.execFlushRequest s
  | .logClear value => Sys2Proof.Machine.execLogClear value s
  | .integratorEvent sess value => Sys2Proof.Machine.execIntegratorEvent sess value s
  | .readRecords sess msg => Sys2Proof.Machine.execReadRecords sess msg s
  | .hoistClear value => Sys2Proof.Machine.execHoistClear value s
  | .watchdogKick ini c v cycles => Sys2Proof.Machine.execWatchdogKick ini c v cycles s
  | .watchdogExpiry w => Sys2Proof.Machine.execWatchdogExpiry w s
  | .coreStall c => Sys2Proof.Machine.execCoreStall c s
  | .lockstepMismatch => Sys2Proof.Machine.execLockstepMismatch s
  | .retirementMismatch c => Sys2Proof.Machine.execRetirementMismatch c s
  | .eccError ini addr l2 two desc => Sys2Proof.Machine.execEccError ini addr l2 two desc s
  | .scrubPass m progress => Sys2Proof.Machine.execScrubPass m progress s
  | .registerParityError => Sys2Proof.Machine.execRegisterParityError s
  | .fabricEccError ini => Sys2Proof.Machine.execFabricEccError ini s
  | .railFault => Sys2Proof.Machine.execRailFault s
  | .timeCheckMismatch => Sys2Proof.Machine.execTimeCheckMismatch s
  | .clockRateError ppm => Sys2Proof.Machine.execClockRateError ppm s
  | .trigReadbackMismatch pads => Sys2Proof.Machine.execTrigReadbackMismatch pads s
  | .contReadback ma0 ma1 ma2 ma3 => Sys2Proof.Machine.execContReadback ma0 ma1 ma2 ma3 s
  | .ctlResidueMismatch => Sys2Proof.Machine.execCtlResidueMismatch s
  | .overtemp sup app => Sys2Proof.Machine.execOvertemp sup app s
  | .proofStep passed => Sys2Proof.Machine.execProofStep passed s
  | .queueStall ini v => Sys2Proof.Machine.execQueueStall ini v s
  | .queueStallEnd => Sys2Proof.Machine.execQueueStallEnd s
  | .injectOneBitEcc ini target => Sys2Proof.Machine.execInjectOneBitEcc ini target s
  | .injectTwoBitEcc ini target => Sys2Proof.Machine.execInjectTwoBitEcc ini target s
  | .injectLockstep ini target => Sys2Proof.Machine.execInjectLockstep ini target s
  | .injectClockMonitor ini target => Sys2Proof.Machine.execInjectClockMonitor ini target s
  | .injectGrayParity ini target => Sys2Proof.Machine.execInjectGrayParity ini target s
  | .injectErrorResponse ini target => Sys2Proof.Machine.execInjectErrorResponse ini target s
  | .injectRetirementChecker ini target => Sys2Proof.Machine.execInjectRetirementChecker ini target s
  | .injectCtlResidue ini target => Sys2Proof.Machine.execInjectCtlResidue ini target s
  | .injectWatchdogExpiry ini target => Sys2Proof.Machine.execInjectWatchdogExpiry ini target s
  | .injectSinkOvercurrent ini target => Sys2Proof.Machine.execInjectSinkOvercurrent ini target s
  | .injectTrngStuck ini target => Sys2Proof.Machine.execInjectTrngStuck ini target s
  | .injectLocalClockCounter ini target => Sys2Proof.Machine.execInjectLocalClockCounter ini target s
  | .fallbackCheck ini => Sys2Proof.Machine.execFallbackCheck ini s
  | .fallbackCheckDone cycles => Sys2Proof.Machine.execFallbackCheckDone cycles s
  | .drillClear ini v => Sys2Proof.Machine.execDrillClear ini v s
  | .debugUnlock value => Sys2Proof.Machine.execDebugUnlock value s
  | .busOffRecovery b => Sys2Proof.Machine.execBusOffRecovery b s
  | .allSuppliesAbsent => Sys2Proof.Machine.execAllSuppliesAbsent s
  | .debugPortRequest req => Sys2Proof.Machine.execDebugPortRequest req s
  | .syncTransmit p t => Sys2Proof.Machine.execSyncTransmit p t s

end Sys2Proof.Machine
end

