-- ==== Sys2Proof/Machine/Tick.lean ====
section
/-! DEFINITION. What one step does while no command waits: one nanosecond of the local clock (R116, log entry 4). -/

namespace Sys2Proof.Machine

/-- R116, R117: the local clock, once loaded and while its clock runs, counts one nanosecond; before that nothing changes. -/
def State.tick (s : State) : State :=
  if s.time.loaded && !s.aon.inReset then s.upTo (s.time.now + 1) else s

end Sys2Proof.Machine
end

