-- ==== Sys2Proof/WellFormed.lean ====
section
/-! DEFINITION. The well-formed commands: the operands within the widths that the buses, messages, frames and key slots give them.
Operands of a bounded type need no check. A command that is not well formed cannot come from outside; the meanings are total over it
all the same. -/

namespace Sys2Proof

/-- Table 1.1: the application cores and the block initiators address 40 bits. -/
def addrOk (a : Nat) : Bool := Nat.blt a 1099511627776

/-- An access carries 1 to 64 bytes. -/
def widthOk (w : Nat) : Bool := Nat.ble 1 w && Nat.ble w 64

/-- Table 3.2: an instant is 48 bits of seconds and nanoseconds. -/
def timeOk (t : Nat) : Bool := Nat.blt t 281474976710656000000000

/-- A voltage in mV or a current in mA is below 65,536. -/
def milliOk (v : Nat) : Bool := Nat.blt v 65536

/-- A byte string of at most n bytes; an object value has at most 65,536 (R426, R454). -/
def bytesOk (n : Nat) (l : List (BitVec 8)) : Bool := Nat.ble l.length n

/-- The bytes of an access: at most 64. -/
def optBytesOk (l : Option (List (BitVec 8))) : Bool :=
  match l with
  | some b => bytesOk 64 b
  | none => true

/-- Table 3.5: the header's fields within their widths, and the bytes after it. -/
def Msg.ok (m : Msg) : Bool :=
  Nat.blt m.version 256 && Nat.blt m.tid 65536 && Nat.blt m.idx 65536 && Nat.blt m.sub 256 && Nat.blt m.flags 256 &&
    Nat.blt m.param 4294967296 && Nat.blt m.length 65536 && Nat.blt m.status 256 && Nat.blt m.credit 256 && bytesOk 65643 m.body

/-- R105, R106: a client's offer: a UDP port, 16-bit codes, a key slot. -/
def ClientHello.ok (h : ClientHello) : Bool :=
  Nat.blt h.port 65536 && Nat.blt h.slot 256 && (h.suites ++ h.groups ++ h.sigs).all (fun c => Nat.blt c 65536)

/-- R149: a PSDU holds at most 2,047 bytes. -/
def RadioFrame.ok (f : RadioFrame) : Bool := bytesOk 2043 (f.bytes ++ f.body ++ f.mic) && Nat.blt f.stamp 4294967296

/-- Tables 6.3 and 6.5: the fields of an enrolment request within their widths. -/
def EnrolRequest.ok (r : EnrolRequest) : Bool :=
  Nat.blt r.segment 65536 && Nat.blt r.cohort 4 && Nat.beq r.eui.length 8 && Nat.blt r.flags 256 && Nat.blt r.hwClass 65536 &&
    Nat.blt r.counter 65536 && Nat.blt r.relay 65536 && bytesOk 8 r.mic

/-- Table 10.3: an identifier of 11 or 29 bits, and at most 8 data bytes, or 64 in an FD frame. -/
def CanFrame.ok (f : CanFrame) : Bool :=
  Nat.blt f.id (if f.xtd then 536870912 else 2048) && bytesOk (if f.fdf then 64 else 8) f.data

/-- Table 14.12: the fields of a key command within their widths. -/
def KeyCmd.ok (c : KeyCmd) : Bool :=
  Nat.blt c.slot 256 && Nat.blt c.parent 256 && Nat.blt c.kind 256 && Nat.blt c.twin 256 && Nat.blt c.g 256 && Nat.blt c.attr 512 &&
    Nat.beq c.label.length 4 && Nat.beq c.context.length 8 && bytesOk 120 c.data

/-- The well-formed commands. -/
def Instr.wellFormed (i : Instr) : Bool :=
  match i with
  | .registerWrite _ addr width _ => addrOk addr && widthOk width
  | .absentAccess _ addr width _ => addrOk addr && widthOk width
  | .refusedMemoryAccess _ addr width data => addrOk addr && widthOk width && optBytesOk data
  | .sysPermWrite _ _ _ => true
  | .core3Run => true
  | .core3Restart _ => true
  | .core3Hold => true
  | .clockLost _ _ _ => true
  | .clockRestored _ => true
  | .queuePush _ _ _ => true
  | .queuePop _ _ => true
  | .qptrParityMismatch _ => true
  | .modeTick t => timeOk t
  | .transitionComplete t => timeOk t
  | .islandingTimeout t => timeOk t
  | .countReportTimeout t => timeOk t
  | .batLowTimeout => true
  | .photocellDark mv _ => milliOk mv
  | .photocellLight mv _ => milliOk mv
  | .heartbeatWrite _ _ => true
  | .heartbeatMissing => true
  | .contactorTake _ _ => true
  | .contactorRelease _ _ => true
  | .contactorCommand _ _ => true
  | .contactorForceOn _ => true
  | .contactorForceOff => true
  | .mainsComparatorSet vin => milliOk vin
  | .mainsSet => true
  | .powerFail vin => milliOk vin
  | .flushComplete => true
  | .coldStart _ _ _ _ _ => true
  | .firstModeDecision => true
  | .supplyCut vin => milliOk vin
  | .aonSourceChange vin vbat => milliOk vin && milliOk vbat
  | .moduleReset _ => true
  | .batteryWatchSave => true
  | .batteryWatchLimit => true
  | .batLowSet vbat => milliOk vbat
  | .batLowClear vbat => milliOk vbat
  | .sleepCmd _ => true
  | .appOff _ => true
  | .deepSleepWake _ _ => true
  | .tamperLatch _ _ _ => true
  | .tamperClear value => bytesOk 65536 value
  | .modeRequest _ value => bytesOk 65536 value
  | .rootGeneration _ _ => true
  | .pairHeartbeatSend t => timeOk t
  | .pairHeartbeatReceive t data => timeOk t && bytesOk 4096 data
  | .takeover t => timeOk t
  | .mirrorRefresh t _ => timeOk t
  | .openSession _ msg => msg.ok
  | .closeSession _ msg => msg.ok
  | .readObject _ msg => msg.ok
  | .writeObject _ msg => msg.ok
  | .describeObject _ msg => msg.ok
  | .segReadStart _ msg => msg.ok
  | .segReadData _ msg => msg.ok
  | .segWriteStart _ msg => msg.ok
  | .segWriteData _ msg => msg.ok
  | .segAbort _ msg => msg.ok
  | .declareObject _ msg => msg.ok
  | .authLockoutEnd t => timeOk t
  | .snapshotRelease _ tid t => Nat.blt tid 65536 && timeOk t
  | .segWriteHoldEnd _ tid t => Nat.blt tid 65536 && timeOk t
  | .sessionIdleTimeout _ t => timeOk t
  | .dtlsHandshake t hello => timeOk t && hello.ok
  | .closeNotify _ => true
  | .securedEnvelope _ => true
  | .mailboxPoll => true
  | .rspTailAdvance _ => true
  | .configBackup t => timeOk t
  | .timeNowLatch _ => true
  | .setClock _ => true
  | .stepClock _ => true
  | .servoOffset _ _ => true
  | .holdover t => timeOk t
  | .captureEdge _ _ q => timeOk (q / 4)
  | .captureRecordRemove => true
  | .internalCapture _ t => timeOk t
  | .tsqLatch _ => true
  | .tsqRemove _ => true
  | .armTrigger _ _ => true
  | .disarmTrigger _ _ => true
  | .triggerFire _ t _ => timeOk t
  | .pulseEnd _ t => timeOk t
  | .peerDelayRequest _ _ => true
  | .ptpSync _ steps gm _ _ _ => Nat.blt steps 65536 && Nat.blt gm 18446744073709551616
  | .syncPortChange => true
  | .rtcSecond _ t => timeOk t
  | .rtcTemperatureRead _ _ => true
  | .rtcFreeze _ => true
  | .rtcFreezeRelease => true
  | .freezeExpired => true
  | .rtcHalt _ => true
  | .rtcRelease _ => true
  | .rtcTimeWrite _ _ _ => true
  | .rtcErrorCheck => true
  | .rtcSet value => bytesOk 65536 value
  | .slotMark _ _ => true
  | .flywheelSlot _ => true
  | .scheduleCommit _ _ => true
  | .cellTransmit _ _ _ _ => true
  | .frameReceive _ f => f.ok
  | .ackReceive _ f => f.ok
  | .ackTimeout _ => true
  | .expectedFrameMissed _ _ => true
  | .macFlush _ _ => true
  | .scanReceive f _ => f.ok
  | .registrationWrite _ value => bytesOk 65536 value
  | .enrolRequest r => r.ok
  | .discoveryCell _ => true
  | .joinTimeout _ => true
  | .lostAfter _ => true
  | .lanternJoin _ body => bytesOk 4096 body
  | .keyReady _ _ => true
  | .lanternLeave _ _ => true
  | .enrolForward relay _ r => Nat.blt relay 65536 && r.ok
  | .healthReport _ body => bytesOk 4096 body
  | .energyReport _ body => bytesOk 4096 body
  | .dictionaryMessage _ body => bytesOk 4096 body
  | .handoverProbe r _ => r.ok
  | .handoverPoll peer peerSegment _ heard => Nat.beq peer.length 8 && Nat.blt peerSegment 65536 && bytesOk 4096 heard
  | .keyRenewal _ => true
  | .keyActivation _ => true
  | .keyOverlapEnd _ => true
  | .rebalance value => bytesOk 65536 value
  | .countReport _ body stamp epoch asn => bytesOk 4096 body && Nat.blt stamp 4294967296 && Nat.blt epoch 16 && Nat.blt asn 1099511627776
  | .windowFinalise => true
  | .graphCommit value => bytesOk 65536 value
  | .edgeMessageSend links => links.all (fun e => Nat.blt e.1 (2 ^ 64))
  | .edgeIn value => bytesOk 65536 value
  | .portStale _ => true
  | .sampleDone t => timeOk t
  | .sampleMissed t => timeOk t
  | .coeffSwap _ value => bytesOk 65536 value
  | .lightMapBuild asn => Nat.blt asn 1099511627776
  | .flywheelFrame t _ => timeOk t
  | .currentOnlyFrame _ => true
  | .modulatorOverrun _ => true
  | .cycleBoundary t _ => timeOk t
  | .syntheticBoundary t => timeOk t
  | .latchView _ => true
  | .energyReset value => bytesOk 65536 value
  | .reconciliation start => timeOk start
  | .canReceive _ f err count t => f.ok && Nat.ble err 8 && Nat.blt count 4294967296 && timeOk t
  | .fifoRelease _ _ _ _ => true
  | .txRequest _ _ _ _ => true
  | .txCancel _ _ _ _ _ => true
  | .frameTransmitted _ _ _ count t => Nat.blt count 4294967296 && timeOk t
  | .columnStart _ _ count t => Nat.blt count 4294967296 && timeOk t
  | .timetableCommit _ _ => true
  | .bellSend _ _ count t => Nat.blt count 4294967296 && timeOk t
  | .bellReceive _ _ payload count t => bytesOk 64 payload && Nat.blt count 4294967296 && timeOk t
  | .bellReplace _ count t => Nat.blt count 4294967296 && timeOk t
  | .bellLoss _ t => timeOk t
  | .silentBasicCycleStart _ count t => Nat.blt count 4294967296 && timeOk t
  | .bitRateChange _ => true
  | .listenOnly _ => true
  | .fragmentTimeout _ node t => Nat.blt node 256 && timeOk t
  | .rollCall t => timeOk t
  | .rollPresent _ node body t => Nat.blt node 256 && bytesOk 4096 body && timeOk t
  | .answerWindowEnd t => timeOk t
  | .announce _ body => bytesOk 4096 body
  | .opticInsert _ id => bytesOk 256 id
  | .opticRemove _ _ _ => true
  | .opticDiagRead _ diag => bytesOk 256 diag
  | .sfpOvercurrent _ _ _ => true
  | .linkUp _ => true
  | .linkDown _ _ _ _ => true
  | .maintLinkChange _ => true
  | .ringFrameReceive _ f _ q _ => bytesOk 9600 f && timeOk (q / 4)
  | .duplicateForget t => timeOk t
  | .supervisionFrame => true
  | .ringOpen t => timeOk t
  | .addressAgeOut t => timeOk t
  | .lldpSend _ => true
  | .lldpNeighbourExpire _ t => timeOk t
  | .descriptorFetch _ => true
  | .descriptorReturn _ => true
  | .beatError _ _ count => Nat.blt count 4294967296
  | .dmaResume _ _ => true
  | .channelDisable _ _ => true
  | .channelEnable _ _ => true
  | .dmaRxFrame _ => true
  | .rxWaitTimeout _ t => timeOk t
  | .dmaTxFrame _ q => timeOk (q / 4)
  | .loopTick t _ _ => timeOk t
  | .sinkOvercurrent _ => true
  | .ocClear _ _ => true
  | .bankTempRead _ _ => true
  | .stringFaultSet _ _ t => timeOk t
  | .stringFaultClear _ _ t => timeOk t
  | .hdrmLimit t => timeOk t
  | .halCommit _ _ => true
  | .halFrameStart _ t => timeOk t
  | .frameDone _ t => timeOk t
  | .halDisable _ _ => true
  | .rotationStart t => timeOk t
  | .calSettle t => timeOk t
  | .calAccStart _ _ _ => true
  | .accReady _ _ _ _ _ => true
  | .refCheck _ => true
  | .channelClear _ value => bytesOk 65536 value
  | .rtcCurveInterval => true
  | .sinkRefCalibration _ _ _ => true
  | .sinkTrim t => timeOk t
  | .radPpmEstimate _ _ => true
  | .efficiencyWindow t => timeOk t
  | .keyGenerate _ c => c.ok
  | .keyDerive _ c => c.ok
  | .importPublic _ c => c.ok
  | .importWrapped _ c => c.ok
  | .keyAgree _ c => c.ok
  | .keyInvalidate _ c => c.ok
  | .keyErase _ c => c.ok
  | .keyScrub _ => true
  | .partnerAgreePub value => bytesOk 65536 value
  | .keyShare _ => true
  | .keyImport value => bytesOk 65536 value
  | .aesCcm _ _ _ => true
  | .aesGcm _ _ _ => true
  | .aesCmac _ _ _ => true
  | .sha256 _ _ _ => true
  | .sha384 _ _ _ => true
  | .ecdsa _ _ _ => true
  | .ecdh _ _ _ => true
  | .randomJob _ _ _ => true
  | .wrapLink _ _ _ => true
  | .wrapCb _ _ _ => true
  | .wrapSlot _ _ _ => true
  | .storeCode _ _ _ => true
  | .trngHealthFail _ => true
  | .drbgReseed => true
  | .drbgResume => true
  | .manifestWrite value => bytesOk 65536 value
  | .stageBlock value => bytesOk 65536 value
  | .activateUpdate value => bytesOk 65536 value
  | .abortUpdate value _ => bytesOk 65536 value
  | .sealOpen value => bytesOk 65536 value
  | .sealClose t => timeOk t
  | .confirmSet _ _ => true
  | .integratorHealth _ value => bytesOk 65536 value
  | .probationSave t => timeOk t
  | .probationExpiry t => timeOk t
  | .imageProgress _ body => bytesOk 4096 body
  | .lanternActivate value => bytesOk 65536 value
  | .imageActivationTimeout _ => true
  | .evrSubmit _ _ => true
  | .evrFlush => true
  | .flushRequest => true
  | .logClear value => bytesOk 65536 value
  | .integratorEvent _ value => bytesOk 65536 value
  | .readRecords _ msg => msg.ok
  | .hoistClear value => bytesOk 65536 value
  | .watchdogKick _ _ _ _ => true
  | .watchdogExpiry _ => true
  | .coreStall _ => true
  | .lockstepMismatch => true
  | .retirementMismatch _ => true
  | .eccError _ addr _ _ _ => addrOk addr
  | .scrubPass _ _ => true
  | .registerParityError => true
  | .fabricEccError _ => true
  | .railFault => true
  | .timeCheckMismatch => true
  | .clockRateError _ => true
  | .trigReadbackMismatch _ => true
  | .contReadback ma0 ma1 ma2 ma3 => milliOk ma0 && milliOk ma1 && milliOk ma2 && milliOk ma3
  | .ctlResidueMismatch => true
  | .overtemp _ _ => true
  | .proofStep _ => true
  | .queueStall _ _ => true
  | .queueStallEnd => true
  | .injectOneBitEcc _ _ => true
  | .injectTwoBitEcc _ _ => true
  | .injectLockstep _ _ => true
  | .injectClockMonitor _ _ => true
  | .injectGrayParity _ _ => true
  | .injectErrorResponse _ _ => true
  | .injectRetirementChecker _ _ => true
  | .injectCtlResidue _ _ => true
  | .injectWatchdogExpiry _ _ => true
  | .injectSinkOvercurrent _ _ => true
  | .injectTrngStuck _ _ => true
  | .injectLocalClockCounter _ _ => true
  | .fallbackCheck _ => true
  | .fallbackCheckDone _ => true
  | .drillClear _ _ => true
  | .debugUnlock value => bytesOk 65536 value
  | .busOffRecovery _ => true
  | .allSuppliesAbsent => true
  | .debugPortRequest _ => true
  | .syncTransmit _ t => timeOk t

end Sys2Proof
end

