-- ==== Sys2Proof/Safety.lean ====
section
/-! DEFINITION. What counts as a safe run: the canonical form of the sparse stores, which every step keeps, and the absence of a stop. -/

namespace Sys2Proof

open Sys2Proof.Machine

/-- The machine's sparse stores are in canonical form: the registers, the objects and the memory list rising keys and no entry equal to
what an unlisted key reads as (log entries 5 and 6). -/
def Machine.State.canonical (s : State) : Prop :=
  Sparse.wf Reg.reset s.regs = true ∧ Sparse.wf Obj.default s.objs = true ∧ Memory.wf s.mem = true

/-- Every group of like units holds as many as the spec gives the machine: the dual-clock queues, the capture inputs and trigger units, the
transceivers, the cabinet-bus controllers, the DMA channels, the sink channels, the HAL engines and the metering inputs. -/
def Machine.State.shaped (s : State) : Prop :=
  s.sys.queues.length = 34 ∧ s.time.lastEdge.length = 8 ∧ s.time.trig.length = 16 ∧ s.macs.length = 4 ∧ s.can.ctls.length = 2 ∧
    s.dma.length = 16 ∧ s.snk.chans.length = 24 ∧ s.hal.length = 2 ∧ s.mtr.inputs.length = 10

/-- Every register but those of a list reads as before. -/
def Machine.State.regsKept (l : List Nat) (s t : State) : Prop := ∀ a, a ∉ l → t.rd a = s.rd a

/-- Every object but those of a list of indices and subindices reads as before. -/
def Machine.State.objsKept (l : List (Nat × Nat)) (s t : State) : Prop :=
  ∀ i j, Obj.key i j ∉ l.map (fun (e : Nat × Nat) => Obj.key e.1 e.2) → t.obj i j = s.obj i j

/-- A request the dictionary server serves as a new one: the cores run, the ring session is open, the message has VERSION 1, no FLAGS, its
whole length agrees with LENGTH (SEG_READ_DATA carries no data) and fits B, no message waits before it, the server is free, and its TID is new
(R94 to R100). -/
def Machine.State.hears (s : State) (e : Sess) (op : Nat) (m : Msg) : Prop :=
  s.coresRun = true ∧ s.session e.id = some e ∧ e.kind = .ring ∧ e.opened = true ∧ m.version = 1 ∧ m.flags = 0 ∧ m.status = 0 ∧ m.credit = 0 ∧
    m.body.length = (if op = 0x21 then 0 else m.length) ∧ 16 + m.body.length ≤ e.buf ∧ e.queue = [] ∧ m.busy = false ∧ assoc? m.tid e.cache = none ∧
    s.waits e.id m.tid = false

/-- No trigger unit is armed, no count window is open and no swap is armed: nothing but the clock follows a step (R137). -/
def Machine.State.unarmed (s : State) : Prop := (∀ n, n < 16 → s.trigArmed n = false) ∧ s.traffic.wins = [] ∧ s.cal.armed = none

/-- The corrections of every metering input read as before. -/
def Machine.State.corrKept (s t : State) : Prop :=
  ∀ n, n < 10 → t.rd (Reg.MTR_CORR_GAIN n) = s.rd (Reg.MTR_CORR_GAIN n) ∧ t.rd (Reg.MTR_CORR_OFFSET n) = s.rd (Reg.MTR_CORR_OFFSET n) ∧
    t.rd (Reg.MTR_CORR_DELAY n) = s.rd (Reg.MTR_CORR_DELAY n)

/-- Queue q has no job in progress, holds one whose turn it is, and its descriptor d, which the engine may read and write, is handed over
with OWN, an operation and no injected error (R415). -/
def Machine.State.jobReady (s : State) (q : Fin 4) (op : Nat) (d : Desc) : Prop :=
  (∀ j ∈ s.cry.jobs, j.queue ≠ q.val) ∧ s.cryHolds q.val = true ∧ s.cryTurn q.val = true ∧ s.fault.errorAddr = none ∧
    admits false .cry (Nat.beq q.val 3) (s.cryDesc q.val) 64 = true ∧ admits true .cry (Nat.beq q.val 3) (s.cryDesc q.val) 64 = true ∧
    s.memBytes (s.cryDesc q.val) 64 = d ∧ d.own = true ∧ leAt d 0 1 = op

/-- Every waiting command is well formed. -/
def Machine.State.queueOk (s : State) : Prop := ∀ c ∈ s.pending, c.wellFormed = true

/-- A run of n steps from a state meets no fault and no refusal. -/
def Safe (n : Nat) (s : State) : Prop := ∃ t, Host.Core.run { State := State, Fault := Fault, Refusal := Refusal, step := step, reset := State.reset } n s = .next t

end Sys2Proof
end

