-- ==== Sys2Proof/Certificates/Slice0/Obligations.lean ====
section
/-! DEFINITION. The statements for the provers, chapter by chapter of the spec. -/

open Sys2Proof Sys2Proof.Machine

/-! ## The machine as a whole -/

/-- For every command c, queue rest cs and state s, step of s with c at the front of its queue is exec of c on s with the queue's rest. -/
def Obligations.StepRunsTheFrontCommand : Prop :=
  ∀ (c : Instr) (cs : List Instr) (s : State), step { s with pending := c :: cs } = exec c { s with pending := cs }

/-- With nothing waiting, step answers a next state. Where the local clock is loaded and the module is not in reset, it is s with the clock one
nanosecond later, the RTC, while its crystal runs, one nanosecond further within its second or, halted, in its tally, and nothing else changed;
otherwise it is s. What step does on an empty queue is the model's choice (log entry 4), not a rule of the spec. -/
def Obligations.EmptyQueueCountsOneNanosecond : Prop :=
  (∀ s : State, s.pending = [] → s.time.loaded = true → s.aon.inReset = false →
    ∃ t, step s = .next t ∧ t.time.now = s.time.now + 1 ∧
      t.rtc = (if s.aon.aonClockLost = true then s.rtc else if s.rdB Reg.AON_RTC_CTRL 0 = true then { s.rtc with tallyNs := s.rtc.tallyNs + 1 }
        else { s.rtc with subNs := s.rtc.subNs + 1 }) ∧
      t = { s with time := { s.time with now := t.time.now }, rtc := t.rtc }) ∧
  (∀ s : State, s.pending = [] → (s.time.loaded = false ∨ s.aon.inReset = true) → step s = .next s)

/-- In every state each of the 293 commands answers a next state: exec has no path that ends in a fault or a refusal. (What each next state holds, the
other statements say.) -/
def Obligations.EveryCommandCompletes : Prop :=
  ∀ (c : Instr) (s : State), ∃ t, exec c s = .next t

/-- The state after reset has its register, object and memory stores in canonical form. The canonical form is the model's (log entry 5). -/
def Obligations.ResetIsCanonical : Prop := State.reset.canonical

/-- For every state whose register, object and memory stores are in canonical form (keys strictly rising, no entry equal to what its key reads as when
unlisted), and every next state that step answers, that state's stores are in canonical form. The canonical form is the model's (log entries 5 and
6). -/
def Obligations.StepKeepsCanonicalForm : Prop :=
  ∀ s t : State, s.canonical → step s = .next t → t.canonical

/-! ## The fabric and SYS (chapter 1) -/

/-- From R7, R13, R14, R502. A register read by a resident initiator with a width other than 4 or an unaligned address returns 0 and sets MISALIGNED;
its aligned access of width 4 in slot 3 returns 0 and sets UNMAPPED; an access outside every region returns 0, sets ABSENT and aborts the core that
made it; a memory access that its region does not permit returns 0, sets PERM, aborts a core and answers another initiator with an error response,
leaving SYS_PERM_VIOL. Each completes; no register but SYS_BUS_ERR and SYS_BUS_ERR_ADDR, no object, no byte of memory and nothing else changes. -/
def Obligations.RefusedAccessesAreFlagged : Prop :=
  (∀ (a width : Nat) (ini : Initiator) (s : State), ini.resident = true → 0x40000000 ≤ a → a < 0x40180000 → (width ≠ 4 ∨ a % 4 ≠ 0) →
    ∃ t, exec (.registerWrite ini a width none) s = .next t ∧ t.rdB Reg.SYS_BUS_ERR 0 = true ∧ t.bus = { readData := 0 } ∧
      State.regsKept [Reg.SYS_BUS_ERR, Reg.SYS_BUS_ERR_ADDR] s t ∧ t = { s with regs := t.regs, bus := t.bus }) ∧
  (∀ (a : Nat) (ini : Initiator) (d : Option Word) (s : State), ini.resident = true → 0x40030000 ≤ a → a < 0x40040000 → a % 4 = 0 →
    ∃ t, exec (.registerWrite ini a 4 d) s = .next t ∧ t.rdB Reg.SYS_BUS_ERR 1 = true ∧ t.bus = { readData := 0 } ∧
      State.regsKept [Reg.SYS_BUS_ERR, Reg.SYS_BUS_ERR_ADDR] s t ∧ t = { s with regs := t.regs, bus := t.bus }) ∧
  (∀ (a width : Nat) (ini : Initiator) (d : Option Word) (s : State), regionOf a = .absent →
    ∃ t, exec (.absentAccess ini a width d) s = .next t ∧ t.rdB Reg.SYS_BUS_ERR 3 = true ∧ t.bus.readData = 0 ∧
      t.bus.abort = (if ini.isCore then some ini else none) ∧ State.regsKept [Reg.SYS_BUS_ERR, Reg.SYS_BUS_ERR_ADDR] s t ∧
      t = { s with regs := t.regs, bus := t.bus }) ∧
  (∀ (a width : Nat) (ini : Initiator) (d : Option (List Byte)) (s : State), regionOf a ≠ .absent → regionOf a ≠ .registers →
    (match d with
      | some _ => (regionOf a).writes ini false
      | none => (regionOf a).reads ini false) = false →
    ∃ t, exec (.refusedMemoryAccess ini a width d) s = .next t ∧ t.rdB Reg.SYS_BUS_ERR 2 = true ∧ t.bus.readData = 0 ∧
      t.bus.abort = (if ini.isCore then some ini else none) ∧ t.bus.errorResponse = !ini.isCore ∧
      t.rd Reg.SYS_PERM_VIOL = s.rd Reg.SYS_PERM_VIOL ∧ State.regsKept [Reg.SYS_BUS_ERR, Reg.SYS_BUS_ERR_ADDR] s t ∧
      t = { s with regs := t.regs, bus := t.bus })

/-- R39: A bus error sets its flag and keeps the others. While SYS_BUS_ERR bits [3:0] are all clear it captures INITIATOR and the address; while one is
set it leaves both. -/
def Obligations.FirstBusErrorIsCaptured : Prop :=
  ∀ (f : Nat) (ini : Initiator) (a : Nat) (s : State), f < 4 →
    (s.busError f ini a).rdB Reg.SYS_BUS_ERR f = true ∧
    (∀ g, g < 4 → s.rdB Reg.SYS_BUS_ERR g = true → (s.busError f ini a).rdB Reg.SYS_BUS_ERR g = true) ∧
    (s.rdF Reg.SYS_BUS_ERR 3 0 = 0 → (s.busError f ini a).rdF Reg.SYS_BUS_ERR 12 8 = ini.number ∧
      (s.busError f ini a).rd Reg.SYS_BUS_ERR_ADDR = BitVec.ofNat 32 a) ∧
    (s.rdF Reg.SYS_BUS_ERR 3 0 ≠ 0 → (s.busError f ini a).rdF Reg.SYS_BUS_ERR 12 8 = s.rdF Reg.SYS_BUS_ERR 12 8 ∧
      (s.busError f ini a).rd Reg.SYS_BUS_ERR_ADDR = s.rd Reg.SYS_BUS_ERR_ADDR)

/-- R20: The supervisor's write of SYS_PERM_LO or SYS_PERM_HI stores for each slot the written code: code 2, and any code of a slot that may be granted
nothing, as 0; another code as the lower of it and the slot's highest grantable level of Table 1.8. Its write of SYS_PERM_DMA stores bits [15:12] as
written and bits [11:0] as 0. Each write completes and changes no other register and nothing else. -/
def Obligations.PermissionWritesStoreCappedLevels : Prop :=
  ∀ (v : Word) (s : State),
    (∃ t, exec (.sysPermWrite .sup 0 v) s = .next t ∧
      (∀ slot, slot < 16 → t.permLevel slot =
        (let c := fld v (2 * slot + 1) (2 * slot)
         if c = 2 ∨ slot = 3 then 0 else if slot = 0 ∨ slot = 1 ∨ slot = 4 ∨ slot = 5 ∨ slot = 6 ∨ slot = 7 ∨ slot = 8 ∨ slot = 10 then min c 1 else c)) ∧
      State.regsKept [Reg.SYS_PERM_LO] s t ∧ t = { s with regs := t.regs, bus := t.bus }) ∧
    (∃ t, exec (.sysPermWrite .sup 1 v) s = .next t ∧
      (∀ slot, 16 ≤ slot → slot < 24 → t.permLevel slot =
        (let c := fld v (2 * (slot - 16) + 1) (2 * (slot - 16))
         if c = 2 ∨ slot = 0x12 ∨ slot = 0x15 ∨ slot = 0x16 ∨ slot = 0x17 then 0 else if slot = 0x14 then min c 1 else c)) ∧
      State.regsKept [Reg.SYS_PERM_HI] s t ∧ t = { s with regs := t.regs, bus := t.bus }) ∧
    (∃ t, exec (.sysPermWrite .sup 2 v) s = .next t ∧ t.rdF Reg.SYS_PERM_DMA 15 12 = fld v 15 12 ∧ t.rdF Reg.SYS_PERM_DMA 11 0 = 0 ∧
      State.regsKept [Reg.SYS_PERM_DMA] s t ∧ t = { s with regs := t.regs, bus := t.bus })

/-- From R8, R38, R78. With the AON clock running: the supervisor's write of AON_WAKE_CFG stores bits [1:0] and keeps the reserved bits; the same write
by core 0, 1 or 2 changes nothing but the bus error registers and sets PERM; the supervisor's write of AON_WAKE_CAUSE clears the bits [2:0] written
1. Each completes with no other register and nothing else changed. -/
def Obligations.RegisterWritesFollowTheirAccessCodes : Prop :=
  ∀ (v : Word) (s : State), s.aon.aonClockLost = false →
    (∃ t, exec (.registerWrite .sup Reg.AON_WAKE_CFG 4 (some v)) s = .next t ∧
      t.rd Reg.AON_WAKE_CFG = (s.rd Reg.AON_WAKE_CFG &&& 0xFFFFFFFC) ||| (v &&& 3) ∧
      State.regsKept [Reg.AON_WAKE_CFG] s t ∧ t = { s with regs := t.regs, bus := t.bus }) ∧
    (∀ ini : Initiator, ini = .app0 ∨ ini = .app1 ∨ ini = .app2 →
      ∃ t, exec (.registerWrite ini Reg.AON_WAKE_CFG 4 (some v)) s = .next t ∧ t.rdB Reg.SYS_BUS_ERR 2 = true ∧
        State.regsKept [Reg.SYS_BUS_ERR, Reg.SYS_BUS_ERR_ADDR] s t ∧ t = { s with regs := t.regs, bus := t.bus }) ∧
    (∃ t, exec (.registerWrite .sup Reg.AON_WAKE_CAUSE 4 (some v)) s = .next t ∧
      t.rd Reg.AON_WAKE_CAUSE = s.rd Reg.AON_WAKE_CAUSE &&& ~~~ (v &&& 7) ∧
      State.regsKept [Reg.AON_WAKE_CAUSE] s t ∧ t = { s with regs := t.regs, bus := t.bus })

/-- From R22, R24, R44, R111. In a mode that runs core 3, out of reset: CORE3_RUN on a stopped core sets RUN and RUNNING, zeroes SYS_PERM_VIOL, grants
DMA channels 12 to 15 as object 0x2000:10 says and writes the mailbox's MAGIC, no byte outside the mailbox's control page changing, and no register
but those and SYS_PERM_LO and SYS_PERM_HI; RESTART by the supervisor leaves RUN set, SYS_PERM_VIOL zero and the L2 ways discarded, no byte outside
that page changing. In every state CORE3_HOLD clears RUN and RUNNING and changes no other register. Each completes. -/
def Obligations.CoreThreeStartsRestartsAndHolds : Prop :=
  (∀ s : State, s.rdB Reg.SYS_CORE3_CTRL 0 = false → s.mode.mode.core3Runs = true → s.aon.inReset = false →
    ∃ t, exec .core3Run s = .next t ∧ t.rdB Reg.SYS_CORE3_CTRL 0 = true ∧ t.rdB Reg.SYS_CORE3_CTRL 16 = true ∧ t.rd Reg.SYS_PERM_VIOL = 0 ∧
      t.rdF Reg.SYS_PERM_DMA 15 12 = s.objN 0x2000 0x10 / 2 ^ 60 % 16 ∧ t.memN 0xB8000000 4 = 0x4D425831 ∧
      (∀ a, a < 0xB8000000 ∨ 0xB8001000 ≤ a → t.rdMem a = s.rdMem a) ∧
      State.regsKept [Reg.SYS_CORE3_CTRL, Reg.SYS_PERM_VIOL, Reg.SYS_PERM_LO, Reg.SYS_PERM_HI, Reg.SYS_PERM_DMA] s t) ∧
  (∀ s : State, s.mode.mode.core3Runs = true → s.aon.inReset = false →
    ∃ t, exec (.core3Restart .sup) s = .next t ∧ t.rdB Reg.SYS_CORE3_CTRL 0 = true ∧ t.rd Reg.SYS_PERM_VIOL = 0 ∧ t.sys.core3L2Valid = false ∧
      (∀ a, a < 0xB8000000 ∨ 0xB8001000 ≤ a → t.rdMem a = s.rdMem a)) ∧
  (∀ s : State, ∃ t, exec .core3Hold s = .next t ∧ t.rdB Reg.SYS_CORE3_CTRL 0 = false ∧ t.rdB Reg.SYS_CORE3_CTRL 16 = false ∧
    State.regsKept [Reg.SYS_CORE3_CTRL] s t ∧ t = { s with regs := t.regs, sys := t.sys })

/-- From R26, R30, R31, R32, R34, R36, R463. A push into a queue that runs, is not stalled and has room joins the entries and advances the write pointer
alone; into a full queue it is held as offered. A pop of a queue that runs, is not stalled and shows an entry to its read side takes the oldest and
advances the read pointer alone. The loss of a radio's clock clears its SYS_CLKMON bit and raises CLOCK; the return of a NET clock sets its bit. A
pointer parity mismatch raises QPTR_PARITY, sets the queue's SYS_QFAULT bit and discards the entries. Each completes. -/
def Obligations.QueuesClocksAndPointerParity : Prop :=
  (∀ (q : Fin 34) (e : Nat) (s : State), let d := s.queue q.val
    q.val < s.sys.queues.length → d.hold = false → d.stallWrite = false → d.offered = none → d.wcount (queueLog q.val) < 2 ^ queueLog q.val →
    ∃ t, exec (.queuePush q e 0) s = .next t ∧ (t.queue q.val).entries = d.entries ++ [e] ∧
      (t.queue q.val).wptr = (d.wptr + 1) % 2 ^ (queueLog q.val + 1) ∧ (t.queue q.val).rptr = d.rptr ∧
      (∀ p, p ≠ q.val → t.queue p = s.queue p) ∧ t = { s with sys := t.sys }) ∧
  (∀ (q : Fin 34) (e : Nat) (s : State), let d := s.queue q.val
    q.val < s.sys.queues.length → d.hold = false → 2 ^ queueLog q.val ≤ d.wcount (queueLog q.val) →
    ∃ t, exec (.queuePush q e 0) s = .next t ∧ (t.queue q.val).entries = d.entries ∧ (t.queue q.val).offered = some (d.offered.getD e)) ∧
  (∀ (q : Fin 34) (s : State), let d := s.queue q.val
    q.val < s.sys.queues.length → d.hold = false → d.stallRead = false → 0 < d.rcount (queueLog q.val) →
    ∃ t, exec (.queuePop q 0) s = .next t ∧ (t.queue q.val).entries = d.entries.tail ∧
      (t.queue q.val).rptr = (d.rptr + 1) % 2 ^ (queueLog q.val + 1) ∧ (t.queue q.val).wptr = d.wptr ∧
      (∀ p, p ≠ q.val → t.queue p = s.queue p) ∧ t = { s with sys := t.sys }) ∧
  (∀ (n : Fin 4) (s : State), s.detects = true → s.rdB Reg.SYS_CLKMON (3 + n.val) = true →
    ∃ t, exec (.clockLost (.rad n) false false) s = .next t ∧ t.rdB Reg.SYS_CLKMON (3 + n.val) = false ∧ t.rdB Reg.SUP_HOIST 8 = true ∧
      t.rdB Reg.SUP_ACTIVE 8 = true) ∧
  (∀ (n : Fin 2) (s : State), let d : Domain := if n = 0 then .netA else .netB
    s.aon.inReset = false → s.rdB Reg.SYS_CLKMON (1 + n.val) = false →
    ∃ t, exec (.clockRestored d) s = .next t ∧ t.rdB Reg.SYS_CLKMON (1 + n.val) = true) ∧
  (∀ (q : Fin 34) (s : State), s.detects = true → s.queueExists q.val = true → q.val < s.sys.queues.length →
    ∃ t, exec (.qptrParityMismatch q) s = .next t ∧ t.rdB Reg.SUP_HOIST 10 = true ∧ (t.queue q.val).entries = [] ∧
      (if q.val < 32 then t.rdB Reg.SYS_QFAULT_LO q.val = true else t.rdB Reg.SYS_QFAULT_HI (q.val - 32) = true))

/-! ## Power, contactors and modes (chapter 2) -/

/-- From R46, R48, R49. With the AON clock running: PHOTO below DARK_LEVEL for 30 s sets DARK, and PHOTO above DARK_LEVEL + HYST for 120 s clears it; in
fallback the four outputs then follow DARK and MAINS. A shorter time, or a level on the other side, changes nothing. A missing heartbeat clears
HB_OK, sets the FALLBACK bit, clears SUP_OWN and switches to fallback with those outputs; a counting write by the supervisor (0x5A or 0xA5, not the
last one's value) sets HB_OK. Each completes, and the registers it may change are named. -/
def Obligations.PhotocellAndHeartbeatDriveTheContactors : Prop :=
  ∀ s : State, s.aon.aonClockLost = false →
    (∀ mv ms : Nat, mv < 10 * s.rdF Reg.AON_PHOTO_CFG 9 0 → 30000 ≤ ms → ∃ t, exec (.photocellDark mv ms) s = .next t ∧ t.rdB Reg.AON_STATUS 2 = true ∧
      (s.rdF Reg.AON_CONT_STAT 5 4 = 1 → t.rdF Reg.AON_CONT_STAT 3 0 = if s.rdB Reg.AON_STATUS 0 then 15 else 0) ∧
      State.regsKept [Reg.AON_STATUS, Reg.AON_CONT_STAT] s t ∧ t = { s with regs := t.regs }) ∧
    (∀ mv ms : Nat, 10 * s.rdF Reg.AON_PHOTO_CFG 9 0 + 10 * s.rdF Reg.AON_PHOTO_CFG 19 12 < mv → 120000 ≤ ms →
      ∃ t, exec (.photocellLight mv ms) s = .next t ∧ t.rdB Reg.AON_STATUS 2 = false ∧
      (s.rdF Reg.AON_CONT_STAT 5 4 = 1 → t.rdF Reg.AON_CONT_STAT 3 0 = 0) ∧
      State.regsKept [Reg.AON_STATUS, Reg.AON_CONT_STAT] s t ∧ t = { s with regs := t.regs }) ∧
    (∀ mv ms : Nat, 10 * s.rdF Reg.AON_PHOTO_CFG 9 0 ≤ mv ∨ ms < 30000 → exec (.photocellDark mv ms) s = .next s) ∧
    (∀ mv ms : Nat, mv ≤ 10 * s.rdF Reg.AON_PHOTO_CFG 9 0 + 10 * s.rdF Reg.AON_PHOTO_CFG 19 12 ∨ ms < 120000 →
      exec (.photocellLight mv ms) s = .next s) ∧
    (∃ t, exec .heartbeatMissing s = .next t ∧ t.rdB Reg.AON_STATUS 6 = false ∧ t.rdB Reg.AON_STATUS 7 = true ∧
      t.rdB Reg.AON_CONT_CTRL 8 = false ∧ t.rdF Reg.AON_CONT_STAT 5 4 = 1 ∧
      t.rdF Reg.AON_CONT_STAT 3 0 = (if s.rdB Reg.AON_STATUS 0 && s.rdB Reg.AON_STATUS 2 then 15 else 0) ∧
      State.regsKept [Reg.AON_STATUS, Reg.AON_CONT_CTRL, Reg.AON_CONT_STAT] s t ∧ t = { s with regs := t.regs }) ∧
    (∀ v : Word, v = 0x5A ∨ v = 0xA5 → s.aon.lastBeat ≠ some (BitVec.ofNat 8 v.toNat) →
      ∃ t, exec (.heartbeatWrite .sup v) s = .next t ∧ t.rdB Reg.AON_STATUS 6 = true ∧ t.aon.lastBeat = some (BitVec.ofNat 8 v.toNat) ∧
        State.regsKept [Reg.AON_STATUS] s t ∧ t = { s with regs := t.regs, aon := t.aon, bus := t.bus })

/-- From R48, R50, R463. With the AON clock running: a take with CMD equal to OUT, under MAINS and a heartbeat, sets SUP_OWN and keeps the outputs; a
take with another CMD sets TAKE_REFUSED and leaves them; a release clears SUP_OWN and de-energises; a command under ownership with MAINS sets the
outputs. CONTACTOR_FORCE_ON sets SUP_CONT_FORCE.ON, the pins then all energised while the mains comparator is set, else as AON drives them; ON is
cleared when the AON clock has run again for 1 s. Each completes, and the registers it may change are named. -/
def Obligations.ContactorOwnership : Prop :=
  (∀ (c : Fin 16) (s : State), s.aon.aonClockLost = false → s.rdB Reg.AON_CONT_CTRL 8 = false → s.rdB Reg.AON_STATUS 6 = true →
    s.rdB Reg.AON_STATUS 0 = true → c.val = s.rdF Reg.AON_CONT_STAT 3 0 →
    ∃ t, exec (.contactorTake .sup c) s = .next t ∧ t.rdB Reg.AON_CONT_CTRL 8 = true ∧ t.rdF Reg.AON_CONT_STAT 5 4 = 2 ∧
      t.rdF Reg.AON_CONT_STAT 3 0 = c.val ∧ t.rdB Reg.AON_STATUS 7 = false ∧
      State.regsKept [Reg.AON_STATUS, Reg.AON_CONT_CTRL, Reg.AON_CONT_STAT] s t ∧ t = { s with regs := t.regs, bus := t.bus }) ∧
  (∀ (c : Fin 16) (s : State), s.aon.aonClockLost = false → s.rdB Reg.AON_CONT_CTRL 8 = false → c.val ≠ s.rdF Reg.AON_CONT_STAT 3 0 →
    ∃ t, exec (.contactorTake .sup c) s = .next t ∧ t.rdB Reg.AON_CONT_CTRL 8 = false ∧ t.rdB Reg.AON_CONT_CTRL 16 = true ∧
      t.rd Reg.AON_CONT_STAT = s.rd Reg.AON_CONT_STAT ∧ State.regsKept [Reg.AON_CONT_CTRL] s t) ∧
  (∀ (c : Fin 16) (s : State), s.aon.aonClockLost = false → s.rdB Reg.AON_CONT_CTRL 8 = true → s.rdB Reg.AON_STATUS 6 = true →
    ∃ t, exec (.contactorRelease .sup c) s = .next t ∧ t.rdB Reg.AON_CONT_CTRL 8 = false ∧ t.rdF Reg.AON_CONT_STAT 5 4 = 0 ∧
      t.rdF Reg.AON_CONT_STAT 3 0 = 0 ∧ State.regsKept [Reg.AON_STATUS, Reg.AON_CONT_CTRL, Reg.AON_CONT_STAT] s t) ∧
  (∀ (c : Fin 16) (s : State), s.aon.aonClockLost = false → s.rdF Reg.AON_CONT_STAT 5 4 = 2 → s.rdB Reg.AON_STATUS 0 = true →
    ∃ t, exec (.contactorCommand .sup c) s = .next t ∧ t.rdF Reg.AON_CONT_STAT 3 0 = c.val ∧ t.rdF Reg.AON_CONT_CTRL 3 0 = c.val ∧
      State.regsKept [Reg.AON_CONT_CTRL, Reg.AON_CONT_STAT] s t) ∧
  (∀ s : State, ∃ t, exec (.contactorForceOn .sup) s = .next t ∧ t.rdB Reg.SUP_CONT_FORCE 0 = true ∧
    t.contPins = (if s.aon.comparator then 15 else s.rdF Reg.AON_CONT_STAT 3 0) ∧ State.regsKept [Reg.SUP_CONT_FORCE] s t) ∧
  (∀ (a : Nat) (s : State), s.aon.clockBackSince = some a → s.rdB Reg.SUP_CONT_FORCE 0 = true → a + 1000000000 ≤ s.eventTime →
    ∃ t, exec .contactorForceOff s = .next t ∧ t.rdB Reg.SUP_CONT_FORCE 0 = false ∧
      State.regsKept [Reg.AON_STATUS, Reg.AON_CONT_CTRL, Reg.AON_CONT_STAT, Reg.SUP_CONT_FORCE] s t)

/-- R66: VIN at or above 17.0 V sets the mains comparator, leaving AON_STATUS.MAINS. VBAT below LOW_LEVEL sets BAT_LOW, and VBAT 0.30 V or more above it
clears BAT_LOW; otherwise neither event changes anything. A change of the AON source shows VIN from 9.0 V up, else VBAT from 9.0 V up, else the coin
cell in SOURCE, and moves the comparator at 17.0 V and 16.0 V; below 16.0 V with MAINS 1 and the supervisor running it clears MAINS and every output
and begins the flush. Each completes; those before the last change no register but AON_STATUS and, for the source, AON_CONT_STAT. -/
def Obligations.SuppliesSetTheComparators : Prop :=
  (∀ (vin : Nat) (s : State), 17000 ≤ vin →
    ∃ t, exec (.mainsComparatorSet vin) s = .next t ∧ t.aon.comparator = true ∧ t.aon.vin = vin ∧ t.rdF Reg.AON_STATUS 9 8 = 0 ∧
      t.rdB Reg.AON_STATUS 0 = s.rdB Reg.AON_STATUS 0 ∧ State.regsKept [Reg.AON_STATUS] s t ∧ t = { s with regs := t.regs, aon := t.aon }) ∧
  (∀ (vbat : Nat) (s : State), vbat < 10 * s.rdF Reg.AON_BAT_CFG 10 0 →
    ∃ t, exec (.batLowSet vbat) s = .next t ∧ t.rdB Reg.AON_STATUS 1 = true ∧ t.aon.vbat = vbat ∧ State.regsKept [Reg.AON_STATUS] s t) ∧
  (∀ (vbat : Nat) (s : State), 10 * s.rdF Reg.AON_BAT_CFG 10 0 + 300 ≤ vbat →
    ∃ t, exec (.batLowClear vbat) s = .next t ∧ t.rdB Reg.AON_STATUS 1 = false ∧ t.aon.vbat = vbat ∧ State.regsKept [Reg.AON_STATUS] s t) ∧
  (∀ (vbat : Nat) (s : State), 10 * s.rdF Reg.AON_BAT_CFG 10 0 ≤ vbat → exec (.batLowSet vbat) s = .next s) ∧
  (∀ (vbat : Nat) (s : State), vbat < 10 * s.rdF Reg.AON_BAT_CFG 10 0 + 300 → exec (.batLowClear vbat) s = .next s) ∧
  (∀ (vin vbat : Nat) (s : State), s.rdB Reg.AON_STATUS 0 = false ∨ 16000 ≤ vin → (s.rdB Reg.AON_STATUS 0 = true → s.aon.comparator = true) →
    ∃ t, exec (.aonSourceChange vin vbat) s = .next t ∧ t.rdF Reg.AON_STATUS 9 8 = (if 9000 ≤ vin then 0 else if 9000 ≤ vbat then 1 else 2) ∧
      t.aon.comparator = (if 17000 ≤ vin then true else if 16000 ≤ vin then s.aon.comparator else false) ∧
      t.rdB Reg.AON_STATUS 0 = s.rdB Reg.AON_STATUS 0 ∧ State.regsKept [Reg.AON_STATUS, Reg.AON_CONT_STAT] s t ∧
      t = { s with regs := t.regs, aon := t.aon }) ∧
  (∀ (vin vbat : Nat) (s : State), s.rdB Reg.AON_STATUS 0 = true → vin < 16000 → s.aon.supRunning = true → s.aon.flushing = false →
    ∃ t, exec (.aonSourceChange vin vbat) s = .next t ∧ t.rdB Reg.AON_STATUS 0 = false ∧ t.aon.comparator = false ∧ t.aon.flushing = true ∧
      t.rdF Reg.AON_CONT_STAT 3 0 = 0)

/-- From R60, R62, R63, R65, R67, R68. With the comparator set in BATTERY_WATCH, MAINS_SET sets MAINS and begins a start with cause 1 and reason 0x16.
VIN below 16.0 V with MAINS 1 and the supervisor running: POWER_FAIL clears MAINS, the comparator and the outputs and begins the flush. The flush's
end in DAY with MAINS and BAT_LOW 0 enters BATTERY_WATCH with reason 0x14, APP_OFF set and core 3 stopped. BATTERY_WATCH saves the metering state,
marked periodic; BAT_LOW's limit there enters DEEP_SLEEP with reason 0x15, as does the end of a non-zero BATTERY_WATCH_LIMIT. In DEEP_SLEEP, BAT_LOW
0, a tamper wake that is enabled records the tampers due and sleeps again. Each completes. -/
def Obligations.MainsFailsReturnsAndBatteryWatchEnds : Prop :=
  (∀ s : State, s.aon.comparator = true → s.rdB Reg.AON_STATUS 0 = false → s.aon.aonClockLost = false → s.fault.heldInReset = false →
    s.mode.mode = .batteryWatch →
    ∃ t, exec .mainsSet s = .next t ∧ t.rdB Reg.AON_STATUS 0 = true ∧ t.mode.mode = .starting ∧ t.mode.reason = 0x16 ∧ t.aon.resetCause = 1) ∧
  (∀ (vin : Nat) (s : State), vin < 16000 → s.rdB Reg.AON_STATUS 0 = true → s.aon.supRunning = true → s.aon.flushing = false →
    ∃ t, exec (.powerFail vin) s = .next t ∧ t.rdB Reg.AON_STATUS 0 = false ∧ t.rdF Reg.AON_CONT_STAT 3 0 = 0 ∧ t.aon.comparator = false ∧
      t.aon.flushing = true) ∧
  (∀ s : State, s.aon.flushing = true → s.rdB Reg.AON_STATUS 0 = false → s.rdB Reg.AON_STATUS 1 = false → s.mode.mode = .day →
    ∃ t, exec .flushComplete s = .next t ∧ t.mode.mode = .batteryWatch ∧ t.mode.reason = 0x14 ∧ t.aon.flushing = false ∧ t.aon.appOff = true ∧
      t.rdB Reg.SYS_CORE3_CTRL 0 = false) ∧
  (∀ s : State, s.mode.mode = .batteryWatch → ∃ t, exec .batteryWatchSave s = .next t ∧ t.mode = s.mode ∧ t.rd Reg.AON_STATUS = s.rd Reg.AON_STATUS ∧
    t.mem = s.mem ∧ ((t.mtr.saves.head?).map (fun (v : MtrSave) => v.periodic)) = some true) ∧
  (∀ s : State, s.mode.mode = .batteryWatch → s.rdB Reg.AON_STATUS 1 = true →
    ∃ t, exec .batLowTimeout s = .next t ∧ t.mode.mode = .deepSleep ∧ t.mode.reason = 0x15 ∧ t.aon.asleep = true ∧ t.aon.supRunning = false ∧
      t.rd Reg.AON_WAKE_CAUSE = 0) ∧
  (∀ s : State, s.mode.mode = .batteryWatch → s.objN 0x2000 9 ≠ 0 → s.mode.entered + s.objN 0x2000 9 * 60000000000 ≤ s.eventTime →
    ∃ t, exec .batteryWatchLimit s = .next t ∧ t.mode.mode = .deepSleep ∧ t.mode.reason = 0x15 ∧ t.aon.asleep = true) ∧
  (∀ s : State, s.mode.mode = .deepSleep → s.aon.aonClockLost = false → s.rdB Reg.AON_STATUS 1 = false → s.rdB Reg.AON_WAKE_CFG 0 = true →
    s.aon.tamperDue ≠ [] →
    ∃ t, exec (.deepSleepWake true false) s = .next t ∧ t.mode.mode = .deepSleep ∧ t.aon.asleep = true ∧ t.aon.tamperDue = [])

/-- From R44, R49, R67, R78, R376, R467, R482. A module reset records its cause, enters STARTING, holds core 3 and puts the contactors in fallback,
keeping AON_PHOTO_CFG, AON_TAMPER_STAT, the objects and the log. APP_OFF stops core 3, keeps an MTR register and resets a MAC's control. SLEEP with
MAINS 0 enters DEEP_SLEEP with reason 0x15, APP_OFF set and the supervisor stopped, keeping AON_STATUS, the objects and the log; with MAINS 1 it
changes nothing. A cut of VIN without VBAT clears MAINS and the outputs, stops the supervisor and loses the recorder's buffer, keeping its log and
AON_PHOTO_CFG; with every supply absent four AON registers take their reset values and the objects stay. Each completes. -/
def Obligations.ResetsAndPowerRemoval : Prop :=
  (∀ (c : Fin 8) (s : State), s.aon.aonClockLost = false →
    ∃ t, exec (.moduleReset c) s = .next t ∧ t.mode.mode = .starting ∧ t.aon.inReset = true ∧ t.aon.resetCause = c.val ∧
      t.rdF Reg.AON_CONT_STAT 5 4 = 1 ∧ t.rdB Reg.AON_CONT_CTRL 8 = false ∧ t.rd Reg.SYS_CORE3_CTRL = 0 ∧
      t.rd Reg.AON_PHOTO_CFG = s.rd Reg.AON_PHOTO_CFG ∧ t.rd Reg.AON_TAMPER_STAT = s.rd Reg.AON_TAMPER_STAT ∧ t.objs = s.objs ∧ t.evr.log = s.evr.log) ∧
  (∀ s : State, s.aon.aonClockLost = false →
    ∃ t, exec (.appOff .sup) s = .next t ∧ t.aon.appOff = true ∧ t.rd Reg.SYS_CORE3_CTRL = s.rd Reg.SYS_CORE3_CTRL &&& 0xFFFEFFFE ∧
      t.rd (Reg.MTR_IN_CFG 0) = s.rd (Reg.MTR_IN_CFG 0) ∧ t.rd (Reg.MAC_CTRL 0) = Reg.reset (Reg.MAC_CTRL 0) ∧ t.mode = s.mode) ∧
  (∀ s : State, s.aon.aonClockLost = false → s.rdB Reg.AON_STATUS 0 = false →
    ∃ t, exec (.sleepCmd .sup) s = .next t ∧ t.mode.mode = .deepSleep ∧ t.mode.reason = 0x15 ∧ t.aon.asleep = true ∧ t.aon.supRunning = false ∧ t.aon.appOff = true ∧
      t.rd Reg.AON_STATUS = s.rd Reg.AON_STATUS ∧ t.objs = s.objs ∧ t.evr.log = s.evr.log) ∧
  (∀ s : State, s.aon.aonClockLost = false → s.rdB Reg.AON_STATUS 0 = true → ∃ t, exec (.sleepCmd .sup) s = .next t ∧ t = { s with bus := t.bus }) ∧
  (∀ (vin : Nat) (s : State), vin < 9000 → s.aon.vbat < 9000 →
    ∃ t, exec (.supplyCut vin) s = .next t ∧ t.rdB Reg.AON_STATUS 0 = false ∧ t.rdF Reg.AON_STATUS 9 8 = 2 ∧ t.rdF Reg.AON_CONT_STAT 3 0 = 0 ∧
      t.aon.supRunning = false ∧ t.evr.buffer = [] ∧ t.evr.log = s.evr.log ∧ t.rd Reg.AON_PHOTO_CFG = s.rd Reg.AON_PHOTO_CFG) ∧
  (∀ s : State, s.aon.vin < 9000 → s.aon.vbat < 9000 →
    ∃ t, exec .allSuppliesAbsent s = .next t ∧ t.rd Reg.AON_STATUS = 0x280 ∧ t.rd Reg.AON_PHOTO_CFG = 0x320C8 ∧ t.rd Reg.AON_BAT_CFG = 0x44C ∧
      t.rd Reg.AON_TAMPER_STAT = 0 ∧ t.objs = s.objs)

/-- From R40, R52, R61. From a started supervisor with the local clock loaded and no pairing wait, after a cause other than 5: without a root secret the
mode is PROVISION with reason 1; with one and no activation, COMMISSION with reason 2 while COMMISSIONED is 0; commissioned and not of pairing role
2, DAY where the phase is DAY, else TRANSITION, with reason 5. A cold start with MAINS and cause 0 whose checks pass in both banks ends with the
local clock loaded, MODE still STARTING and LAST_RESET_CAUSE 0. Each completes. -/
def Obligations.StartsDecideTheMode : Prop :=
  (∀ s : State, s.mode.mode = .starting → s.aon.supRunning = true → s.aon.inReset = false → s.time.loaded = true → s.pairWaits = false →
    s.fault.lastResetCause ≠ 5 → s.rootOk = false →
    ∃ t, exec .firstModeDecision s = .next t ∧ t.mode.mode = .provision ∧ t.mode.reason = 1 ∧ t.mode.entered = s.eventTime) ∧
  (∀ s : State, s.mode.mode = .starting → s.aon.supRunning = true → s.aon.inReset = false → s.time.loaded = true → s.pairWaits = false →
    s.fault.lastResetCause ≠ 5 → s.rootOk = true → s.updState ≠ 3 → s.updState ≠ 4 → s.objN 0x2000 8 = 0 →
    ∃ t, exec .firstModeDecision s = .next t ∧ t.mode.mode = .commission ∧ t.mode.reason = 2) ∧
  (∀ s : State, s.mode.mode = .starting → s.aon.supRunning = true → s.aon.inReset = false → s.time.loaded = true → s.pairWaits = false →
    s.fault.lastResetCause ≠ 5 → s.rootOk = true → s.updState ≠ 3 → s.updState ≠ 4 → s.objN 0x2000 8 ≠ 0 → s.objN 0x2020 1 ≠ 2 →
    ∃ t, exec .firstModeDecision s = .next t ∧ t.mode.reason = 5 ∧ t.mode.mode = (if s.mode.phase = .day then .day else .transition)) ∧
  (∀ (chk0 chk1 : Bool) (s : State), s.aon.inReset = true → s.fault.heldInReset = false → s.rdB Reg.AON_STATUS 0 = true →
    s.mode.mode = .starting → s.aon.resetCause = 0 → s.updState ≠ 3 → s.updState ≠ 4 →
    ∃ t, exec (.coldStart chk0 chk1 [] none 0) s = .next t ∧ t.aon.inReset = false ∧ t.aon.supRunning = true ∧ t.aon.appOff = false ∧
      t.time.loaded = true ∧ t.mode.mode = .starting ∧ t.fault.lastResetCause = 0)

/-- From R47, R52, R54, R55. Where MAINS is 1, arbitration is not lost and the module does not island: DAY with no message waiting becomes TRANSITION
towards night with reason 8 when it is dark, and DRILL with reason 0x17 when it is not and a request for it waits, answered OK; a dusk TRANSITION
that is over becomes the night mode NIGHT_LAW names, phase NIGHT, with reason 9; lost count reports take NIGHT_FOLLOWING to NIGHT_SCHEDULED with
reason 0x0C. Where it islands, ISLANDED is entered with reason 0x0D. A MODE_REQUEST for 2 in COMMISSION with the cores running answers OK and waits
for the tick, nothing else changing. MODE_TICK, TRANSITION_COMPLETE, ISLANDING_TIMEOUT, COUNT_REPORT_TIMEOUT and MODE_REQUEST so complete. -/
def Obligations.ModeTicksTakeTheFirstTrigger : Prop :=
  (∀ (n : Nat) (s : State), let u := s.upTo n
    s.aon.supRunning = true → s.aon.inReset = false → s.mode.mode = .day → s.mode.phase = .day → s.rdB Reg.AON_STATUS 0 = true →
    s.mode.arbitrationLost = false → u.islands = false → u.darkNow = true → (∀ e ∈ s.dict.sessions, e.queue = []) →
    ∃ t, exec (.modeTick n) s = .next t ∧ t.mode.mode = .transition ∧ t.mode.reason = 8 ∧ t.mode.phase = .dusk ∧ t.mode.toNight = true) ∧
  (∀ (n sess : Nat) (s : State), let u := s.upTo n
    s.aon.supRunning = true → s.aon.inReset = false → s.mode.mode = .day → s.mode.phase = .day → s.rdB Reg.AON_STATUS 0 = true →
    s.mode.arbitrationLost = false → u.islands = false → u.darkNow = false → (∀ e ∈ s.dict.sessions, e.queue = []) →
    s.dict.modeWait = [(11, sess, [])] →
    ∃ t, exec (.modeTick n) s = .next t ∧ t.mode.mode = .drill ∧ t.mode.reason = 0x17 ∧ t.dict.modeWait = [] ∧ t.dict.status = 0) ∧
  (∀ (n : Nat) (s : State), let u := s.upTo n
    s.aon.supRunning = true → s.aon.inReset = false → s.mode.mode = .transition → s.mode.phase = .dusk → s.mode.toNight = true →
    s.rdB Reg.AON_STATUS 0 = true → s.mode.arbitrationLost = false → u.islands = false → u.transitionOver = true →
    ∃ t, exec (.transitionComplete n) s = .next t ∧ t.mode.phase = .night ∧ t.mode.reason = 9 ∧
      t.mode.mode = (if s.objN 0x2000 7 = 4 then .nightScheduled else .nightFollowing)) ∧
  (∀ (n : Nat) (s : State), let u := s.upTo n
    s.aon.supRunning = true → s.aon.inReset = false → s.rdB Reg.AON_STATUS 0 = true → s.mode.arbitrationLost = false → u.islands = true →
    s.dict.modeWait = [] →
    ∃ t, exec (.islandingTimeout n) s = .next t ∧ t.mode.mode = .islanded ∧ t.mode.reason = 0x0D) ∧
  (∀ (n : Nat) (s : State), let u := s.upTo n
    s.aon.supRunning = true → s.aon.inReset = false → s.mode.mode = .nightFollowing → s.mode.phase = .night → s.rdB Reg.AON_STATUS 0 = true →
    s.mode.arbitrationLost = false → u.islands = false → u.darkNow = true → s.mode.lawWritten = none → u.countsLost = true →
    ∃ t, exec (.countReportTimeout n) s = .next t ∧ t.mode.mode = .nightScheduled ∧ t.mode.reason = 0x0C) ∧
  (∀ (sess : Nat) (s : State), s.coresRun = true → s.mode.mode = .commission →
    ∃ t, exec (.modeRequest sess [2]) s = .next t ∧ t.dict.status = 0 ∧ t.dict.modeWait = s.dict.modeWait ++ [(2, sess, [])] ∧
      t = { s with dict := t.dict })

/-- From R57, R69, R72. A tamper input asserted for 4 AON cycles sets its latch with the RTC's day and tick; a shorter assertion only shows in
AON_STATUS; a later one of 4 cycles advances the count and leaves the time. TAMPER_CLEAR of all three in DAY clears the latches and times while no
input is asserted, and answers STATE_CONFLICT for an input that is. In PROVISION without a root secret a good first area becomes it, the second area
being left, and slot 0 becomes VALID. Each completes. -/
def Obligations.TampersAndTheRootSecret : Prop :=
  (∀ (k : Fin 3) (c : Nat) (b : Bool) (s : State), s.aon.aonClockLost = false → s.rdB Reg.AON_TAMPER_STAT k.val = false → 4 ≤ c →
    ∃ t, exec (.tamperLatch k c b) s = .next t ∧ t.rdB Reg.AON_TAMPER_STAT k.val = true ∧ t.rdB Reg.AON_STATUS (3 + k.val) = b ∧
      t.rdF (Reg.AON_TAMPER_DAY k.val) 16 0 = s.civil.seconds / 86400 % 131072 ∧
      t.rdF (Reg.AON_TAMPER_SEC k.val) 31 17 = s.rtcTick % 32768) ∧
  (∀ (k : Fin 3) (c : Nat) (b : Bool) (s : State), s.aon.aonClockLost = false → c < 4 →
    ∃ t, exec (.tamperLatch k c b) s = .next t ∧ t.rdB Reg.AON_STATUS (3 + k.val) = b ∧ State.regsKept [Reg.AON_STATUS] s t ∧
      t = { s with regs := t.regs }) ∧
  (∀ (k : Fin 3) (c : Nat) (b : Bool) (s : State), s.aon.aonClockLost = false → s.rdB Reg.AON_TAMPER_STAT k.val = true → 4 ≤ c →
    ∃ t, exec (.tamperLatch k c b) s = .next t ∧
      t.rdF (Reg.AON_TAMPER_DAY k.val) 31 24 = min 255 (s.rdF (Reg.AON_TAMPER_DAY k.val) 31 24 + 1) ∧
      t.rd (Reg.AON_TAMPER_SEC k.val) = s.rd (Reg.AON_TAMPER_SEC k.val) ∧
      State.regsKept [Reg.AON_STATUS, Reg.AON_TAMPER_DAY k.val] s t ∧ t = { s with regs := t.regs }) ∧
  (∀ (s : State), s.coresRun = true → s.mode.mode = .day → s.aon.aonClockLost = false → s.rdF Reg.AON_STATUS 5 3 = 0 →
    ∃ t, exec (.tamperClear [7]) s = .next t ∧ t.dict.status = 0 ∧ t.rdF Reg.AON_TAMPER_STAT 2 0 = 0 ∧ t.rd (Reg.AON_TAMPER_DAY 0) = 0 ∧
      t.rd (Reg.AON_TAMPER_SEC 2) = 0) ∧
  (∀ (s : State), s.coresRun = true → s.mode.mode = .day → s.rdB Reg.AON_STATUS 3 = true →
    ∃ t, exec (.tamperClear [1]) s = .next t ∧ t.dict.status = 0x0A ∧ t.rd Reg.AON_TAMPER_STAT = s.rd Reg.AON_TAMPER_STAT) ∧
  (∀ (b : Bool) (s : State), s.mode.mode = .provision → s.rootOk = false → s.aon.otp0.retire = false →
    ∃ t, exec (.rootGeneration true b) s = .next t ∧ t.rootOk = true ∧ t.aon.otp0.commit = true ∧ t.aon.otp1 = s.aon.otp1 ∧ (t.slot 0).state = 1)

/-- From R74, R75, R76, R330. A module that announces, with a key slot for it, sends its 24-byte heartbeat with its EUI-64 first and its count advanced.
A partner's heartbeat with its MIC right and its count risen, heard in DAY, that claims active is noted and loses arbitration for the module with
the higher EUI-64. A standby whose partner has been silent for 1 s, with MAINS 1, phase DAY and no flush, takes over into DAY with reason 0x0F. A
mirror refresh in STANDBY stores the partner's value of an object. Each completes. -/
def Obligations.PairsAnnounceArbitrateAndTakeOver : Prop :=
  (∀ (n : Nat) (s : State), s.announces = true → s.eui.length = 8 → s.objN 0x2700 0x0F ≠ 0xFF → s.can.hbCount < 0xFFFFEFFF →
    ∃ t, exec (.pairHeartbeatSend n) s = .next t ∧ t.can.hbCount = s.can.hbCount + 1 ∧ t.can.hbEpoch = s.can.hbEpoch ∧ t.can.hbSent.length = 24 ∧
      t.can.hbSent.take 8 = s.eui) ∧
  (∀ (n : Nat) (data : List Byte) (s : State), let k := kdf (s.slot (s.objN 0x2700 0x0F)).key [0x50, 0x48, 0x42, 0x4B] (leAt data 10 1) (slice data 0 8) 16
    s.objN 0x2700 0x0F ≠ 0xFF → data.length = 24 → s.objN 0x2020 1 ≠ 0 → slice data 0 8 = s.obj 0x2020 2 → s.aon.appOff = false →
    s.mode.canStarted.isSome = true → slice data 16 8 = heartMic k 8 (slice data 0 16) →
    (Sparse.find? (fromLE (slice data 0 8)) s.can.hbHeard).getD 0 < leAt data 10 1 * 2 ^ 32 + leAt data 12 4 → leAt data 8 1 = 1 →
    s.aon.supRunning = true → s.mode.mode = .day →
    ∃ t, exec (.pairHeartbeatReceive n data) s = .next t ∧ t.mode.partnerHeard = some (max s.time.now n) ∧
      t.mode.arbitrationLost = (s.mode.arbitrationLost || decide (fromLE (slice data 0 8).reverse < fromLE s.eui.reverse)) ∧ t.mode.mode = .day ∧
      t = { s.upTo n with can := t.can, mode := t.mode }) ∧
  (∀ (n : Nat) (s : State), (s.upTo n).partnerSilent = true → s.aon.supRunning = true → s.rdB Reg.AON_STATUS 0 = true → s.aon.flushing = false → s.mode.phase = .day →
    ∃ t, exec (.takeover n) s = .next t ∧ t.mode.mode = .day ∧ t.mode.reason = 0x0F) ∧
  (∀ (n : Nat) (v : List Byte) (s : State), s.mode.mode = .standby →
    ∃ t, exec (.mirrorRefresh n [(Obj.key 0x7001 2, v)]) s = .next t ∧ t.obj 0x7001 2 = v ∧ t.mode.mirroredAt = some (max s.time.now n))

/-! ## The object dictionary (chapter 3) -/

/-- From R98. For each of OPEN, CLOSE, READ, WRITE, DESCRIBE, SEG_READ_START, SEG_WRITE_START, SEG_WRITE_DATA, SEG_ABORT and DECLARE on a ring session
whose TID is cached (no message waiting, its length agreeing with its body and within the session's buffer): the response is the cached one byte for
byte, DUPLICATES_SERVED advances by 1, and no other object, no register, no byte of memory, no transfer and no declaration changes. Each completes. -/
def Obligations.DuplicatesAreAnsweredFromTheCache : Prop :=
  ∀ (e : Sess) (m : Msg) (b : List Byte) (s : State), s.coresRun = true → s.session e.id = some e → e.kind = .ring → assoc? m.tid e.cache = some b →
    e.queue = [] → m.busy = false → 16 + m.body.length ≤ e.buf → m.body.length = m.length + (if Nat.testBit m.flags 0 then 108 else 0) →
    ∀ c ∈ [Instr.openSession e.id m, .closeSession e.id m, .readObject e.id m, .writeObject e.id m, .describeObject e.id m, .segReadStart e.id m,
      .segWriteStart e.id m, .segWriteData e.id m, .segAbort e.id m, .declareObject e.id m],
    ∃ t, exec c s = .next t ∧ t.dict.response = some (e.id, b) ∧ t.objN 0x1022 4 = (s.objN 0x1022 4 + 1) % 2 ^ 32 ∧
      State.objsKept [(0x1022, 4)] s t ∧ t.regs = s.regs ∧ t.mem = s.mem ∧ t.dict.xfers = s.dict.xfers ∧ t.dict.decls = s.dict.decls

/-- From R105, R106, R107, R108. A supported offer on port 48,071 whose chain leads to a trust anchor's slot, with certificates valid now, adds the next
ring session with that anchor while fewer than 16 exist; with 16 it adds none and answers alert 40; an unsupported offer adds none and answers an
alert. OPEN with a proposal of 5,000 opens the session with 4,096 and answers the EUI-64. CLOSE, close_notify and the idle timeout end a ring
session. Each completes and changes no object, register or byte of memory. -/
def Obligations.RingSessionsOpenAndEnd : Prop :=
  (∀ (n a : Nat) (h : ClientHello) (s : State), s.coresRun = true → h.port = 48071 → helloSupported h = true → h.chain = true → s.chainCheck 2 = .ok →
    s.anchorOf h.slot = some a → s.chainCheck h.slot = .ok → (s.upTo n).certsValid h = true → s.ringSessions.length < 16 →
    ∃ t, exec (.dtlsHandshake n h) s = .next t ∧
      t.dict.sessions = s.dict.sessions ++ [{ id := s.dict.nextSession, kind := .ring, anchor := a, last := max s.time.now n }] ∧
      t.dict.nextSession = s.dict.nextSession + 1 ∧ t.objs = s.objs ∧ t.regs = s.regs ∧ t.mem = s.mem) ∧
  (∀ (n a : Nat) (h : ClientHello) (s : State), s.coresRun = true → h.port = 48071 → helloSupported h = true → h.chain = true → s.chainCheck 2 = .ok →
    s.anchorOf h.slot = some a → s.chainCheck h.slot = .ok → (s.upTo n).certsValid h = true → 16 ≤ s.ringSessions.length →
    ∃ t, exec (.dtlsHandshake n h) s = .next t ∧ t.dict.alert = some 40 ∧ t.dict.sessions = s.dict.sessions ∧
      t = { s.upTo n with dict := t.dict }) ∧
  (∀ (n : Nat) (h : ClientHello) (s : State), s.coresRun = true → h.port = 48071 → helloSupported h = false →
    ∃ t, exec (.dtlsHandshake n h) s = .next t ∧ t.dict.alert.isSome = true ∧ t.dict.sessions = s.dict.sessions ∧
      t = { s.upTo n with dict := t.dict }) ∧
  (∀ (e : Sess) (m : Msg) (s : State), s.hears e 1 m → m.param = 5000 →
    ∃ t, exec (.openSession e.id m) s = .next t ∧ (t.session e.id).map (fun (x : Sess) => (x.buf, x.opened)) = some (4096, true) ∧
      t.dict.response = some (e.id, credited 8 (responseBytes 1 m 0 4096 s.eui)) ∧ t.objs = s.objs ∧ t.regs = s.regs ∧ t.mem = s.mem) ∧
  (∀ (e : Sess) (m : Msg) (s : State), s.hears e 2 m →
    ∃ t, exec (.closeSession e.id m) s = .next t ∧ t.session e.id = none ∧ t.dict.response = some (e.id, credited 8 (responseBytes 2 m 0 0 [])) ∧
      t.objs = s.objs ∧ t.regs = s.regs ∧ t.mem = s.mem) ∧
  (∀ (e : Sess) (s : State), s.session e.id = some e → e.kind = .ring →
    ∃ t, exec (.closeNotify e.id) s = .next t ∧ t.session e.id = none ∧ t.objs = s.objs ∧ t.regs = s.regs ∧ t.mem = s.mem) ∧
  (∀ (e : Sess) (n : Nat) (s : State), s.session e.id = some e → e.kind = .ring → e.last + s.objN 0x1022 2 * 1000000000 ≤ n →
    ∃ t, exec (.sessionIdleTimeout e.id n) s = .next t ∧ t.session e.id = none ∧ t.objs = s.objs ∧ t.regs = s.regs ∧ t.mem = s.mem)

/-- From R79, R83, R84, R87, R95, R112. On a ring session that is heard: a READ of 0x2000:06 (held as one byte) answers that byte; a WRITE of 0 to 2 to
it at level OPERATOR in DAY stores the byte, answers OK and marks it for backup, no other object changing; at level OBSERVER it answers LEVEL and
changes no object; DESCRIBE of 0x2000:09 answers its 16-byte descriptor; DECLARE answers NOT_PERMITTED and declares nothing. On the mailbox session
a well-formed DECLARE of 0x3100:01 answers OK and stores the descriptor. Each completes. -/
def Obligations.ObjectsAreReadWrittenAndDescribed : Prop :=
  (∀ (e : Sess) (m : Msg) (s : State), s.hears e 0x10 m → m.idx = 0x2000 → m.sub = 6 → (s.obj 0x2000 6).length = 1 →
    ∃ t, exec (.readObject e.id m) s = .next t ∧ t.dict.response = some (e.id, credited 8 (responseBytes 0x10 m 0 1 (s.obj 0x2000 6))) ∧ t.dict.status = 0 ∧
      t.objs = s.objs ∧ t.regs = s.regs ∧ t.mem = s.mem) ∧
  (∀ (e : Sess) (m : Msg) (b : Byte) (s : State), s.hears e 0x11 m → m.idx = 0x2000 → m.sub = 6 → m.body = [b] → m.length = 1 → b.toNat ≤ 2 →
    s.objN 0x1021 e.anchor = 2 → s.mode.mode = .day → s.held 0x2000 6 = false →
    ∃ t, exec (.writeObject e.id m) s = .next t ∧ t.obj 0x2000 6 = [b] ∧ t.dict.status = 0 ∧ Obj.key 0x2000 6 ∈ t.dict.backupDue ∧
      State.objsKept [(0x2000, 6)] s t ∧ t.regs = s.regs ∧ t.mem = s.mem) ∧
  (∀ (e : Sess) (m : Msg) (s : State), s.hears e 0x11 m → m.idx = 0x2000 → m.sub = 6 → s.objN 0x1021 e.anchor = 1 →
    ∃ t, exec (.writeObject e.id m) s = .next t ∧ t.dict.status = 5 ∧ t.objs = s.objs ∧ t.regs = s.regs ∧ t.mem = s.mem) ∧
  (∀ (e : Sess) (m : Msg) (s : State), s.hears e 0x12 m → m.idx = 0x2000 → m.sub = 9 →
    ∃ t, exec (.describeObject e.id m) s = .next t ∧
      t.dict.response = some (e.id, credited 8 (responseBytes 0x12 m 0 0 [2, 2, 0, 1, 6, 0, 0, 0, 2, 0, 0, 0, 0, 0, 0, 0])) ∧ t.objs = s.objs ∧ t.regs = s.regs) ∧
  (∀ (e : Sess) (m : Msg) (s : State), s.hears e 0x30 m →
    ∃ t, exec (.declareObject e.id m) s = .next t ∧ t.dict.status = 0x13 ∧ t.dict.decls = s.dict.decls ∧ t.objs = s.objs) ∧
  (∀ (e : Sess) (m : Msg) (s : State), s.coresRun = true → s.session 0 = some e → e.id = 0 → e.kind = .mailbox → e.opened = true → e.buf = 4096 →
    m.version = 1 → m.flags = 0 → m.status = 0 → m.credit = 0 → m.idx = 0x3100 → m.sub = 1 → m.length = 16 →
    m.body = [3, 2, 0, 0, 0xFF, 0x0F, 0, 0, 4, 0, 0, 0, 0, 0, 0, 0] → assoc? m.tid e.cache = none → s.waits 0 m.tid = false →
    s.dict.decls = [] → s.held 0x3100 1 = false →
    ∃ t, exec (.declareObject 0 m) s = .next t ∧ t.dict.status = 0 ∧ t.dict.decls = [(Obj.key 0x3100 1, m.body)] ∧ t.regs = s.regs)

/-- From R101, R102, R103, R104. SEG_READ_START of 0x2000:06 takes its value as a snapshot; SEG_READ_DATA at an offset up to the total answers the
snapshot's bytes from there. SEG_WRITE_START of 0x2000:06 at level OPERATOR in DAY holds the object; SEG_WRITE_DATA at the bytes received, below the
total, appends its segment; at any other offset it answers SEGMENT_ORDER with the bytes received. SEG_ABORT of the one open transfer answers OK and
ends it; so do SNAPSHOT_RELEASE and SEG_WRITE_HOLD_END 10 s after its last request. Each completes and changes no object. -/
def Obligations.SegmentedTransfers : Prop :=
  (∀ (e : Sess) (m : Msg) (s : State), s.hears e 0x20 m → m.idx = 0x2000 → m.sub = 6 → s.xferRoom e = true →
    ∃ t, exec (.segReadStart e.id m) s = .next t ∧ t.dict.status = 0 ∧
      (∃ x : Xfer, t.dict.xfers = s.dict.xfers ++ [x] ∧ x.sess = e.id ∧ x.write = false ∧ x.tid = m.tid ∧ x.idx = 0x2000 ∧ x.sub = 6 ∧
        x.total = (s.obj 0x2000 6).length ∧ x.data = s.obj 0x2000 6) ∧ t.objs = s.objs ∧ t.regs = s.regs) ∧
  (∀ (e : Sess) (m : Msg) (x : Xfer) (s : State), s.hears e 0x21 m → s.xferMay m = 0 → s.xferFind e false m = some x → m.param ≤ x.total →
    ∃ t, exec (.segReadData e.id m) s = .next t ∧
      t.dict.response = some (e.id, credited 8 (responseBytes 0x21 m 0 m.param (slice x.data m.param (min m.length (e.buf - 16))))) ∧ t.objs = s.objs ∧ t.regs = s.regs) ∧
  (∀ (e : Sess) (m : Msg) (s : State), s.hears e 0x28 m → m.idx = 0x2000 → m.sub = 6 → m.param = 1 → s.objN 0x1021 e.anchor = 2 →
    s.mode.mode = .day → s.held 0x2000 6 = false → s.xferRoom e = true →
    ∃ t, exec (.segWriteStart e.id m) s = .next t ∧ t.dict.status = 0 ∧ t.held 0x2000 6 = true ∧ t.objs = s.objs ∧ t.regs = s.regs) ∧
  (∀ (e : Sess) (m : Msg) (x : Xfer) (s : State), s.hears e 0x29 m → s.xferMay m = 0 → s.xferFind e true m = some x → m.param = x.data.length → m.body ≠ [] →
    x.data.length + m.body.length < x.total →
    ∃ t, exec (.segWriteData e.id m) s = .next t ∧ t.dict.status = 0 ∧
      t.xferFind e true m = some { x with data := x.data ++ m.body, last := s.time.now } ∧ t.objs = s.objs ∧ t.regs = s.regs) ∧
  (∀ (e : Sess) (m : Msg) (x : Xfer) (s : State), s.hears e 0x29 m → s.xferMay m = 0 → s.xferFind e true m = some x → m.param ≠ x.data.length →
    ∃ t, exec (.segWriteData e.id m) s = .next t ∧ t.dict.response = some (e.id, credited 8 (responseBytes 0x29 m 0x0F x.data.length [])) ∧ t.objs = s.objs) ∧
  (∀ (e : Sess) (m : Msg) (x : Xfer) (s : State), s.hears e 0x2F m → s.xferMay m = 0 → s.dict.xfers = [x] → x.sess = e.id → x.idx = m.idx → x.sub = m.sub →
    ∃ t, exec (.segAbort e.id m) s = .next t ∧ t.dict.status = 0 ∧ t.dict.xfers = [] ∧ t.objs = s.objs ∧ t.regs = s.regs) ∧
  (∀ (x : Xfer) (n : Nat) (s : State), s.dict.xfers = [x] → x.last + 10000000000 ≤ n →
    ∃ t, exec (if x.write then .segWriteHoldEnd x.sess x.tid n else .snapshotRelease x.sess x.tid n) s = .next t ∧ t.dict.xfers = [] ∧ t.objs = s.objs)

/-- From R85, R92, R109, R110. The next envelope of a node, 32 bytes or more and no copy, for its one session with nothing waiting: where its counter is
newer and its tag opens, the link's received counter becomes the envelope's and its message waits in the session, no object changing; else it is
dropped and 0x1030:02 advances alone. MAILBOX_POLL takes a 16-byte request of opcode 0, advancing REQ_TAIL to 1 and answering status 0x12. RSP_TAIL
written by core 3 is stored. CONFIG_BACKUP copies the one object due to the NAND. The lockout ends at its time. Each completes. -/
def Obligations.EnvelopesMailboxBackupsAndLockout : Prop :=
  (∀ (b node : Nat) (x : List Byte) (rest : List (Nat × Nat × List Byte)) (e : Sess) (s : State), s.can.envelopes = (b, node, x) :: rest →
    s.coresRun = true → s.envelopeCopy b node (leAt x 4 4) = false → 32 ≤ x.length → s.nodeSessions node = [e.id] → s.session e.id = some e →
    e.kind = .can node → e.queue = [] →
    ∃ t, exec (.securedEnvelope true) s = .next t ∧ t.can.envelopes = rest ∧ t.regs = s.regs ∧ t.mem = s.mem ∧
      (if s.envelopeOk node x then
        (t.link node).rx = leAt x 4 4 ∧ (t.session e.id).map (fun (y : Sess) => y.queue) = some (parseMsg (s.envelopeOpen node x) true).toList ∧ t.objs = s.objs
      else t.objN 0x1030 2 = (s.objN 0x1030 2 + 1) % 2 ^ 32 ∧ State.objsKept [(0x1030, 2)] s t ∧ t.dict = s.dict)) ∧
  (∀ (s : State), s.rdB Reg.SYS_CORE3_CTRL 0 = true → s.coresRun = true → s.dict.held = [] → s.mboxWord 1 = 1 → s.mboxWord 2 = 0 →
    (s.mboxRequest 0).length = 16 → leAt (s.mboxRequest 0) 0 1 = 0 → s.session 0 = some { id := 0, kind := .mailbox, buf := 4096, opened := true } →
    leAt (s.mboxRequest 0) 12 2 = 0 → leAt (s.mboxRequest 0) 7 1 = 0 → s.mboxFull = false → s.dict.modeWait = [] →
    ∃ t, exec .mailboxPoll s = .next t ∧ t.mboxWord 2 = 1 ∧ t.dict.status = 0x12 ∧ t.dict.mailboxIrq = true ∧ t.objs = s.objs) ∧
  (∀ (w : Word) (s : State), s.rdB Reg.SYS_CORE3_CTRL 0 = true → s.dict.held = [] →
    ∃ t, exec (.rspTailAdvance w) s = .next t ∧ t.mboxWord 4 = w.toNat ∧ t.objs = s.objs ∧ t.regs = s.regs) ∧
  (∀ (n k : Nat) (s : State), s.coresRun = true → s.dict.backupDue = [k] →
    ∃ t, exec (.configBackup n) s = .next t ∧ t.dict.backupDue = [] ∧ Sparse.find? k t.dict.nand = some (s.obj (k / 256) (k % 256)) ∧ t.objs = s.objs) ∧
  (∀ (n a : Nat) (s : State), s.dict.lockout = some a → s.time.loaded = true → a ≤ n →
    ∃ t, exec (.authLockoutEnd n) s = .next t ∧ t.dict.lockout = none ∧ t.objs = s.objs ∧ t.regs = s.regs)

/-! ## Time base and RTC (chapter 4) -/

/-- From R116, R117, R118, R119, R120, R121, R122, R123. A core's read of TIME_NOW_NS answers the nanoseconds and latches the clock for that core alone.
SET and STEP by a resident initiator, in range and with no trigger, window or swap waiting, change the clock by the values staged, advance EPOCH,
set the STEP flag and show the signed nanoseconds of the change, split toward zero; out of range they set CMD_ERR and change nothing else. With the
servo enabled, its reference not 1 and the offset within STEP_THRESH where stepping is on, SERVO_OFFSET moves the integral and the frequency by the
PI law within their limit and leaves the clock; with the servo off it changes nothing. A locked servo without an offset for HOLD_TIMEOUT goes to
holdover with the frequency at minus the integral. Each completes. -/
def Obligations.LocalClockIsReadSetAndSteered : Prop :=
  (∀ (ini : Initiator) (s : State), ini.isCore = true → (ini = .app3 → s.permAdmits 2 false = true) →
    ∃ t, exec (.timeNowLatch ini) s = .next t ∧ t.bus.readData = BitVec.ofNat 32 (s.time.now % 1000000000) ∧
      Sparse.get (fun _ => 0) t.time.latches ini.number = s.time.now ∧
      (∀ k, k ≠ ini.number → Sparse.get (fun _ => 0) t.time.latches k = Sparse.get (fun _ => 0) s.time.latches k) ∧
      t = { s with bus := t.bus, time := { s.time with latches := t.time.latches } }) ∧
  (∀ (ini : Initiator) (s : State), ini.resident = true → s.rdF Reg.TIME_SET_NS 29 0 ≤ 999999999 → s.unarmed →
    let new := (s.rdF Reg.TIME_SET_SEC_HI 15 0 * 2 ^ 32 + (s.rd Reg.TIME_SET_SEC_LO).toNat) * 1000000000 + s.rdF Reg.TIME_SET_NS 29 0
    ∃ t, exec (.setClock ini) s = .next t ∧ t.time.now = new ∧ t.time.loaded = true ∧ t.time.epoch = (s.time.epoch + 1) % 16 ∧
      t.rdB Reg.TIME_INT_STAT 20 = true ∧
      t.rd Reg.TIME_STEP_LAST_NS = BitVec.ofInt 32 (((new : Int) - s.time.now).tmod 1000000000)) ∧
  (∀ (ini : Initiator) (s : State), ini.resident = true → 999999999 < s.rdF Reg.TIME_SET_NS 29 0 →
    ∃ t, exec (.setClock ini) s = .next t ∧ t.rdB Reg.TIME_INT_STAT 22 = true ∧ State.regsKept [Reg.TIME_INT_STAT] s t ∧
      t = { s with regs := t.regs, bus := t.bus }) ∧
  (∀ (ini : Initiator) (s : State), ini.resident = true → ((s.rd Reg.TIME_STEP_NS).toInt.natAbs ≤ 999999999) → s.unarmed →
    let d := (s.rd Reg.TIME_STEP_SEC).toInt * 1000000000 + (s.rd Reg.TIME_STEP_NS).toInt
    0 ≤ (s.time.now : Int) + d → (s.time.now : Int) + d < ((2 ^ 48 * 1000000000 : Nat) : Int) →
    ∃ t, exec (.stepClock ini) s = .next t ∧ (t.time.now : Int) = s.time.now + d ∧ t.time.epoch = (s.time.epoch + 1) % 16 ∧
      t.rdB Reg.TIME_INT_STAT 20 = true ∧ t.rd Reg.TIME_STEP_LAST_NS = BitVec.ofInt 32 (d.tmod 1000000000)) ∧
  (∀ (ini : Initiator) (s : State), ini.resident = true →
    (999999999 < (s.rd Reg.TIME_STEP_NS).toInt.natAbs ∨
      (s.time.now : Int) + ((s.rd Reg.TIME_STEP_SEC).toInt * 1000000000 + (s.rd Reg.TIME_STEP_NS).toInt) < 0) →
    ∃ t, exec (.stepClock ini) s = .next t ∧ t.rdB Reg.TIME_INT_STAT 22 = true ∧ State.regsKept [Reg.TIME_INT_STAT] s t ∧
      t = { s with regs := t.regs, bus := t.bus }) ∧
  (∀ (ini : Initiator) (v : Word) (s : State), ini.resident = true → s.rdB Reg.TIME_SERVO_CTRL 0 = true → s.rdF Reg.TIME_SERVO_CTRL 3 2 ≠ 1 →
    (s.rdB Reg.TIME_SERVO_CTRL 1 = true → v.toInt.natAbs ≤ 4000 * s.rdF Reg.TIME_SERVO_LIMIT 15 0) →
    let lim : Int := (s.rdF Reg.TIME_SERVO_LIMIT 31 16 : Int) * 204800000
    let i := clampI (-lim) lim (s.time.servoI + (s.rdF Reg.TIME_SERVO_GAIN 31 16 : Int) * v.toInt * 125)
    ∃ t, exec (.servoOffset ini v) s = .next t ∧ t.time.servoI = i ∧
      t.time.servoAdj = clampI (-lim) lim (-((s.rdF Reg.TIME_SERVO_GAIN 15 0 : Int) * v.toInt * 125) - i) ∧ t.rd Reg.TIME_SERVO_LAST = v ∧
      t.time.now = s.time.now ∧ t.objs = s.objs ∧ t.mem = s.mem ∧
      State.regsKept [Reg.TIME_SERVO_LAST, Reg.TIME_FREQ_ADJ, Reg.TIME_SERVO_INTEG, Reg.TIME_INT_STAT] s t) ∧
  (∀ (ini : Initiator) (v : Word) (s : State), ini.resident = true → s.rdB Reg.TIME_SERVO_CTRL 0 = false →
    exec (.servoOffset ini v) s = .next { s with bus := { readData := 0 } }) ∧
  (∀ (n : Nat) (s : State), s.time.servoState = 2 → s.time.offsetAt + max 1 (s.rdF Reg.TIME_SERVO_LOCK 31 24) * 1000000000 ≤ n →
    s.time.now ≤ n →
    ∃ t, exec (.holdover n) s = .next t ∧ t.time.servoState = 3 ∧ t.time.servoAdj = -s.time.servoI ∧ t.rdB Reg.TIME_INT_STAT 21 = true ∧
      t.objs = s.objs ∧ t.mem = s.mem ∧ State.regsKept [Reg.TIME_FREQ_ADJ, Reg.TIME_SERVO_INTEG, Reg.TIME_INT_STAT] s t)

/-- From R126, R127, R128, R129, R130, R131, R132, R133. A selected first edge of an input with queue 22 empty enters it as one record; with it full the
edge is dropped and counted; within 8 ns of the input's last edge it counts in TIME_CAPT_FAST alone. The read of REC3 removes the oldest record. An
internal capture stores the clock's low word, EPOCH and the next SEQ. Reads of the transmit-timestamp queue latch, and then remove, its oldest
entry. A first peer delay becomes the port's delay. A Sync heard on a PTP-capable ring port by a module of role 0 whose other port hears none makes
that port the slave's and shows steps. A silent slave port is left: role 0 forgets the clock heard; a role that may be master, hearing no other
clock, becomes master. A master sends SYNC on a linked ring port, or in role 2 the maintenance port, with the next number; role 0 sends none. Each
completes. -/
def Obligations.CapturesStampsAndNetworkTime : Prop :=
  (∀ (n : Fin 8) (q : Nat) (s : State), s.rdB Reg.SYS_CLKMON 0 = true → s.rdB Reg.TIME_CAPT_CTRL (2 * n.val) = true → s.time.now ≤ q / 4 →
    s.time.lastEdge[n.val]?.join = none → n.val < s.time.lastEdge.length → (s.rdF Reg.TIME_SERVO_CTRL 3 2 ≠ 1) → s.captFull = false →
    (s.queue 22).entries = [] → (s.queue 22).wptr = (s.queue 22).rptr → 22 < s.sys.queues.length → (s.queue 22).rptr < 32 →
    (s.queue 22).offered = none → (s.queue 22).stallWrite = false →
    ∃ t, exec (.captureEdge n true q) s = .next t ∧ t.rdB Reg.TIME_INT_STAT 16 = true ∧
      (t.queue 22).entries = [(n.val + 8 + 128 + 256 * s.time.epoch + 2 ^ 16 * (q / 4000000000 / 2 ^ 32 % 2 ^ 16)) + 2 ^ 32 * (q / 4000000000 % 2 ^ 32) +
        2 ^ 64 * (q / 4 % 1000000000 + 2 ^ 30 * (q % 4)) + 2 ^ 96 * (q / 4 % 2 ^ 32)] ∧
      State.regsKept [Reg.TIME_INT_STAT] s t ∧ t.objs = s.objs ∧ t.mem = s.mem) ∧
  (∀ (n : Fin 8) (q : Nat) (s : State), s.rdB Reg.SYS_CLKMON 0 = true → s.rdB Reg.TIME_CAPT_CTRL (2 * n.val + 1) = true →
    s.time.lastEdge[n.val]?.join = none → s.rdF Reg.TIME_SERVO_CTRL 3 2 ≠ 1 → s.captFull = true →
    ∃ t, exec (.captureEdge n false q) s = .next t ∧ t.rd Reg.TIME_CAPT_DROP = s.rd Reg.TIME_CAPT_DROP + 1 ∧ t.rdB Reg.TIME_INT_STAT 17 = true ∧
      t.objN 0x2120 4 = (s.objN 0x2120 4 + 1) % 2 ^ 32 ∧ State.regsKept [Reg.TIME_CAPT_DROP, Reg.TIME_INT_STAT] s t ∧
      State.objsKept [(0x2120, 4)] s t ∧ (t.queue 22).entries.length = (s.queue 22).entries.length ∧ t.mem = s.mem) ∧
  (∀ (n : Fin 8) (q l : Nat) (s : State), s.rdB Reg.SYS_CLKMON 0 = true → s.rdB Reg.TIME_CAPT_CTRL (2 * n.val) = true →
    s.time.lastEdge[n.val]? = some (some l) → q < l + 32 →
    ∃ t, exec (.captureEdge n true q) s = .next t ∧ t.rd Reg.TIME_CAPT_FAST = s.rd Reg.TIME_CAPT_FAST + 1 ∧
      State.regsKept [Reg.TIME_CAPT_FAST] s t ∧ t = { s.upTo (q / 4) with regs := t.regs }) ∧
  (∀ s : State, 22 < s.sys.queues.length → (s.queue 22).hold = false → (s.queue 22).stallRead = false → 0 < (s.queue 22).rcount 4 →
    ∃ t, exec .captureRecordRemove s = .next t ∧ t.bus.readData = s.captWord 3 ∧ (t.queue 22).entries = (s.queue 22).entries.tail ∧
      t = { s with sys := t.sys, bus := t.bus }) ∧
  (∀ (k : Fin 3) (n : Nat) (s : State), s.rdB Reg.SYS_CLKMON 0 = true → s.rdB Reg.AON_RTC_CTRL 0 = false →
    ∃ t, exec (.internalCapture k n) s = .next t ∧ t.rd (Reg.TIME_ICAP_STAMP k.val) = BitVec.ofNat 32 (max s.time.now n) ∧
      t.rdF (Reg.TIME_ICAP_SEQ k.val) 7 0 = (s.rdF (Reg.TIME_ICAP_SEQ k.val) 7 0 + 1) % 256 ∧
      t.rdF (Reg.TIME_ICAP_SEQ k.val) 11 8 = s.time.epoch % 16 ∧
      State.regsKept [Reg.TIME_ICAP_STAMP k.val, Reg.TIME_ICAP_SEQ k.val] s t ∧ t = { s.upTo n with regs := t.regs }) ∧
  (∀ (ini : Initiator) (e : TsqEntry) (l : List TsqEntry) (s : State), ini.resident = true → s.time.tsq = e :: l →
    ∃ t, exec (.tsqLatch ini) s = .next t ∧ t.bus.readData = e.idWord ∧ t.time.tsqLatch = some e ∧
      t = { s with bus := t.bus, time := { s.time with tsqLatch := some e } }) ∧
  (∀ (ini : Initiator) (e : TsqEntry) (l : List TsqEntry) (s : State), ini.resident = true → s.time.tsqLatch = some e → s.time.tsq = e :: l →
    ∃ t, exec (.tsqRemove ini) s = .next t ∧ t.bus.readData = BitVec.ofNat 32 (e.time % 1000000000 + 2 ^ 30 * e.quarter) ∧ t.time.tsq = l ∧
      t.time.tsqLatch = none ∧ t.rdF Reg.TIME_TSQ_STAT 4 0 = l.length % 32 ∧ State.regsKept [Reg.TIME_TSQ_STAT] s t ∧ t.objs = s.objs) ∧
  (∀ (b : Bool) (d : Nat) (s : State), (s.peer b).delays = [] →
    ∃ t, exec (.peerDelayRequest b (some d)) s = .next t ∧ (t.peer b).delays = [d] ∧
      t.objN 0x2110 (if b then 8 else 7) = d % 2 ^ 32 ∧ (t.peer (!b)) = s.peer (!b) ∧ State.objsKept [(0x2110, if b then 8 else 7)] s t ∧ t.regs = s.regs) ∧
  (∀ (b : Bool) (steps gm : Nat) (x : Int) (s : State), (s.peer b).capable = true → (s.peer (!b)).heard = false → s.objN 0x2110 1 = 0 →
    s.rdB Reg.TIME_SERVO_CTRL 0 = false →
    ∃ t, exec (.ptpSync (if b then 1 else 0) steps gm true none x) s = .next t ∧ t.time.slavePort = (if b then 2 else 1) ∧ t.objN 0x2110 0x0B = (if b then 2 else 1) ∧
      t.objN 0x2110 0x0A = steps % 2 ^ 16 ∧ (t.peer b).heard = true ∧ t.regs = s.regs ∧
      State.objsKept [(0x2110, 9), (0x2110, 0x0A), (0x2110, 0x0B)] s t) ∧
  (∀ s : State, s.time.slavePort = 2 → s.objN 0x2110 1 = 0 → ∃ t, exec .syncPortChange s = .next t ∧ (t.peer true).heard = false ∧
    t = { s with time := { s.time with peerB := t.time.peerB } }) ∧
  (∀ s : State, s.time.slavePort = 2 → 1 ≤ s.objN 0x2110 1 → s.time.peerA.heard = false → s.time.peerM.heard = false →
    ∃ t, exec .syncPortChange s = .next t ∧ t.time.isMaster = true ∧ t.time.slavePort = 0 ∧ t.objN 0x2110 0x0B = 0) ∧
  (∀ (p : Fin 3) (n : Nat) (s : State), s.time.isMaster = true → s.time.slavePort = 0 → 1 ≤ s.objN 0x2110 1 → (p = 2 → s.objN 0x2110 1 = 2) →
    s.linked p.val = true → s.rdB Reg.NET_STATUS 4 = false → s.net.line.length = 3 →
    ∃ t, exec (.syncTransmit p n) s = .next t ∧ t.time.syncsSent = (s.time.syncsSent + 1) % 2 ^ 16 ∧
      t.net.line[p.val]? = some (Config.ptpSyncFrame s.eui (s.objN 0x2110 2) s.time.syncsSent (max s.time.now n))) ∧
  (∀ (n : Nat) (s : State), s.objN 0x2110 1 = 0 →
    exec (.syncTransmit 0 n) s = .next (s.upTo n))

/-- From R135, R136, R137, R503. A well-set unit 0 to 7 not yet armed: ARM with an instant ahead arms it for that instant with MISSED 0; with an instant
past and no period it fires at once with LATE and is not armed. An ill-set unit sets CFG_ERR and is not armed. DISARM stops a unit and lowers its
pin. An armed periodic unit 0 to 7 whose instant has come fires: FIRED and its interrupt set, the pin raised until WIDTH after the instant, the next
instant one PERIOD later. At its end the pulse lowers the pin, registers, objects and memory unchanged. A forward step over a periodic unit's
instants leaves the first of its grid ahead as the next, adds the others passed to MISSED and sets LATE. Each command completes. -/
def Obligations.TriggersFireOnTheirGrid : Prop :=
  (∀ (ini : Initiator) (n : Fin 8) (s : State), ini.resident = true → s.trigArmed n.val = false → s.trigBad n.val = false →
    4 * s.time.now < s.trigInstant n.val → n.val < s.time.trig.length →
    ∃ t, exec (.armTrigger ini ⟨n.val, by omega⟩) s = .next t ∧ t.trigArmed n.val = true ∧ (t.trigger n.val).next = s.trigInstant n.val ∧
      t.rdF (Reg.TIME_TRIG_STAT n.val) 31 16 = 0 ∧ State.regsKept [Reg.TIME_TRIG_STAT n.val, Reg.TIME_TRIG_CTRL n.val] s t ∧
      t.objs = s.objs ∧ t.mem = s.mem) ∧
  (∀ (ini : Initiator) (n : Fin 8) (s : State), ini.resident = true → s.trigArmed n.val = false → s.trigBad n.val = false →
    s.trigInstant n.val ≤ 4 * s.time.now → s.rd (Reg.TIME_TRIG_PERIOD n.val) = 0 → n.val < s.time.trig.length →
    ∃ t, exec (.armTrigger ini ⟨n.val, by omega⟩) s = .next t ∧ t.trigArmed n.val = false ∧ t.rdB (Reg.TIME_TRIG_STAT n.val) 0 = true ∧
      t.rdB (Reg.TIME_TRIG_STAT n.val) 1 = true ∧ (t.trigger n.val).pin = true ∧ t.rdB Reg.TIME_INT_STAT n.val = true ∧
      State.regsKept [Reg.TIME_TRIG_STAT n.val, Reg.TIME_TRIG_CTRL n.val, Reg.TIME_INT_STAT] s t ∧ State.objsKept [(0x2120, 6)] s t) ∧
  (∀ (ini : Initiator) (n : Fin 16) (s : State), ini.resident = true → s.trigArmed n.val = false → s.trigBad n.val = true →
    ∃ t, exec (.armTrigger ini n) s = .next t ∧ t.rdB (Reg.TIME_TRIG_STAT n.val) 2 = true ∧ t.trigArmed n.val = false ∧
      State.regsKept [Reg.TIME_TRIG_STAT n.val] s t ∧ t = { s with regs := t.regs, bus := t.bus }) ∧
  (∀ (ini : Initiator) (n : Fin 16) (s : State), ini.resident = true → n.val < s.time.trig.length →
    ∃ t, exec (.disarmTrigger ini n) s = .next t ∧ t.trigArmed n.val = false ∧ (t.trigger n.val).pin = false ∧
      State.regsKept [Reg.TIME_TRIG_CTRL n.val] s t ∧ t = { s with regs := t.regs, bus := t.bus, time := { s.time with trig := t.time.trig } }) ∧
  (∀ (n : Fin 8) (at_ : Nat) (l : List (Option Int)) (s : State), s.trigArmed n.val = true → s.rdB Reg.SYS_CLKMON 0 = true →
    (s.trigger n.val).next ≤ 4 * at_ → s.time.now ≤ at_ → n.val < s.time.trig.length → 100 ≤ (s.rd (Reg.TIME_TRIG_PERIOD n.val)).toNat →
    ∃ t, exec (.triggerFire ⟨n.val, by omega⟩ at_ l) s = .next t ∧ t.rdB (Reg.TIME_TRIG_STAT n.val) 0 = true ∧ t.rdB Reg.TIME_INT_STAT n.val = true ∧
      t.trigArmed n.val = true ∧ (t.trigger n.val).next = (s.trigger n.val).next + 4 * (s.rd (Reg.TIME_TRIG_PERIOD n.val)).toNat ∧
      (t.trigger n.val).pin = true ∧ (t.trigger n.val).pulseEnd = (s.trigger n.val).next + 4 * (s.rd (Reg.TIME_TRIG_WIDTH n.val)).toNat ∧
      State.regsKept [Reg.TIME_TRIG_STAT n.val, Reg.TIME_INT_STAT] s t ∧ t.objs = s.objs ∧ t.mem = s.mem) ∧
  (∀ (n : Fin 16) (at_ : Nat) (s : State), (s.trigger n.val).pin = true → (s.trigger n.val).pulseEnd ≤ 4 * at_ → n.val < s.time.trig.length →
    ∃ t, exec (.pulseEnd n at_) s = .next t ∧ (t.trigger n.val).pin = false ∧ t.regs = s.regs ∧ t.objs = s.objs ∧ t.mem = s.mem) ∧
  (∀ (n : Fin 8) (old new : Nat) (s : State), s.trigArmed n.val = true → 4 * old < (s.trigger n.val).next → (s.trigger n.val).next ≤ 4 * new →
    100 ≤ (s.rd (Reg.TIME_TRIG_PERIOD n.val)).toNat → n.val < s.time.trig.length →
    let p := 4 * (s.rd (Reg.TIME_TRIG_PERIOD n.val)).toNat
    let t := s.trigStepped old new n.val
    ∃ k, (t.trigger n.val).next = (s.trigger n.val).next + (k + 1) * p ∧ 4 * new < (t.trigger n.val).next ∧ (t.trigger n.val).next ≤ 4 * new + p ∧
      t.rdF (Reg.TIME_TRIG_STAT n.val) 31 16 = min 0xFFFF (s.rdF (Reg.TIME_TRIG_STAT n.val) 31 16 + k) ∧ t.rdB (Reg.TIME_TRIG_STAT n.val) 1 = true ∧
      t.trigArmed n.val = true)

/-- From R139, R140, R141, R142, R143, R144, R145. Once an RTC second has had its AON cycles, the running calendar advances to the next second, with its
weekday and tick 0; with correction on the accumulated error moves by AON_RTC_CORR, whole cycles being taken off; the end of 2199 rolls to 2000 with
YEAR_WRAP; a due alarm sets ALARM. Halted, or sooner, the calendar stands. A temperature at or below -40 °C, its interval passed, sets AON_RTC_CORR
from the first curve point and the trim. A first time read freezes the eight time registers; the read of YEAR, or the freeze's expiry with its flag,
releases them. HALT stops the calendar with TALLY 0; a year written while halted is stored; a release runs on a valid calendar and is refused on an
invalid one; a time write while not halted sets WRITE_REFUSED alone. The hourly check does nothing unless the servo is locked, and with no
difference stores 0. RTC_SET in DAY sets the calendar. Each completes. -/
def Obligations.RtcCountsFreezesAndIsSet : Prop :=
  (∀ (c n : Nat) (s : State), s.rdB Reg.AON_RTC_CTRL 0 = false → s.civil.valid = true → 32768 + s.rtc.adjust ≤ (c : Int) →
    ∃ t, exec (.rtcSecond c n) s = .next t ∧ t.civil = s.civil.next ∧ t.civil.valid = true ∧ t.rdF Reg.AON_RTC_WEEKDAY 2 0 = s.civil.next.weekday ∧
      t.rtcTick = 0 ∧
      (s.rdB Reg.AON_RTC_CTRL 2 = true →
        t.rtc.adjust * 1000000000 + t.rtc.acc = s.rtc.acc + (s.rd Reg.AON_RTC_CORR).toInt * 32768 ∧ t.rtc.acc.natAbs < 1000000000) ∧
      (s.civil = { year := 199, month := 12, day := 31, hour := 23, min := 59, sec := 59 } →
        t.rdB Reg.AON_RTC_CTRL 20 = true ∧ t.civil = { year := 0, month := 1, day := 1, hour := 0, min := 0, sec := 0 }) ∧
      (s.rdB Reg.AON_RTC_CTRL 1 = true → s.alarmSecond = some s.civil.next.seconds → t.rdB Reg.AON_RTC_CTRL 17 = true) ∧
      t.objs = s.objs ∧ t.mem = s.mem ∧ t.time = (s.upTo n).time) ∧
  (∀ (c n : Nat) (s : State), s.rdB Reg.AON_RTC_CTRL 0 = true → exec (.rtcSecond c n) s = .next (s.upTo n)) ∧
  (∀ (c n : Nat) (s : State), (c : Int) < 32768 + s.rtc.adjust → exec (.rtcSecond c n) s = .next (s.upTo n)) ∧
  (∀ (n : Nat) (c : BitVec 16) (s : State), s.rdB Reg.AON_RTC_CTRL 2 = true → c.toInt ≤ -4000 → (if s.rdF Reg.AON_STATUS 9 8 = 2 then 64 else 8) ≤ n →
    ∃ t, exec (.rtcTemperatureRead n c) s = .next t ∧ t.rdF Reg.AON_RTC_TEMP 15 0 = c.toNat ∧
      t.rd Reg.AON_RTC_CORR = BitVec.ofInt 32 (10 * (sx 16 (s.rdF (Reg.AON_RTC_CURVE 0) 15 0) + sx 16 (s.rdF Reg.AON_RTC_TRIM 15 0))) ∧
      State.regsKept [Reg.AON_RTC_TEMP, Reg.AON_RTC_CORR] s t ∧ t = { s with regs := t.regs }) ∧
  (∀ (w : Fin 8) (s : State), w.val < 7 → s.rtc.freeze = none →
    ∃ t, exec (.rtcFreeze w) s = .next t ∧ t.rtc.freeze = some s.rtcTimes ∧ t.bus.readData = s.rtcTimes.getD w.val 0 ∧
      t = { s with bus := t.bus, rtc := t.rtc }) ∧
  (∀ (l : List Word) (s : State), s.rtc.freeze = some l →
    ∃ t, exec .rtcFreezeRelease s = .next t ∧ t.rtc.freeze = none ∧ t.bus.readData = l.getD 7 0 ∧ t = { s with bus := t.bus, rtc := t.rtc }) ∧
  (∀ (l : List Word) (s : State), s.rtc.freeze = some l →
    ∃ t, exec .freezeExpired s = .next t ∧ t.rtc.freeze = none ∧ t.rdB Reg.AON_RTC_CTRL 19 = true ∧ State.regsKept [Reg.AON_RTC_CTRL] s t ∧
      t = { s with regs := t.regs, rtc := t.rtc }) ∧
  (∀ s : State, s.aon.aonClockLost = false → s.rdB Reg.AON_RTC_CTRL 0 = false →
    ∃ t, exec (.rtcHalt .sup) s = .next t ∧ t.rdB Reg.AON_RTC_CTRL 0 = true ∧ t.rtcTally = 0 ∧ t.rtc.haltedAt = s.civil.seconds ∧
      State.regsKept [Reg.AON_RTC_CTRL] s t ∧ t = { s with regs := t.regs, rtc := t.rtc, cal := t.cal, bus := t.bus }) ∧
  (∀ s : State, s.aon.aonClockLost = false → s.rdB Reg.AON_RTC_CTRL 0 = true → s.civil.valid = true →
    ∃ t, exec (.rtcRelease .sup) s = .next t ∧ t.rdB Reg.AON_RTC_CTRL 0 = false ∧ t.civil = s.civil ∧ t.rtcTick = 0 ∧
      (s.rdB Reg.AON_RTC_CTRL 1 = true → s.alarmSecond = some s.civil.seconds → t.rdB Reg.AON_RTC_CTRL 17 = true) ∧
      t = { s with regs := t.regs, rtc := t.rtc, bus := t.bus }) ∧
  (∀ s : State, s.aon.aonClockLost = false → s.rdB Reg.AON_RTC_CTRL 0 = true → s.civil.valid = false →
    ∃ t, exec (.rtcRelease .sup) s = .next t ∧ t.rdB Reg.AON_RTC_CTRL 0 = true ∧ t.rdB Reg.AON_RTC_CTRL 16 = true ∧
      State.regsKept [Reg.AON_RTC_CTRL] s t) ∧
  (∀ (v : Word) (s : State), s.aon.aonClockLost = false → s.rdB Reg.AON_RTC_CTRL 0 = true →
    ∃ t, exec (.rtcTimeWrite .sup 5 v) s = .next t ∧ t.rdF Reg.AON_RTC_YEAR 7 0 = fld v 7 0 ∧ t.rtcTick = 0 ∧
      State.regsKept [Reg.AON_RTC_YEAR, Reg.AON_RTC_WEEKDAY] s t) ∧
  (∀ (w : Fin 6) (v : Word) (s : State), s.aon.aonClockLost = false → s.rdB Reg.AON_RTC_CTRL 0 = false →
    ∃ t, exec (.rtcTimeWrite .sup w v) s = .next t ∧ t.rdB Reg.AON_RTC_CTRL 16 = true ∧ State.regsKept [Reg.AON_RTC_CTRL] s t ∧
      t = { s with regs := t.regs, bus := t.bus }) ∧
  (∀ s : State, s.time.servoState ≠ 2 → exec .rtcErrorCheck s = .next s) ∧
  (∀ s : State, s.time.servoState = 2 → s.rtcDiff64 = 0 → s.time.offsetChanged = false →
    ∃ t, exec .rtcErrorCheck s = .next t ∧ t.objN 0x2130 8 = 0 ∧ State.objsKept [(0x2130, 8)] s t ∧ t.regs = s.regs ∧ t.mem = s.mem) ∧
  (∀ s : State, s.coresRun = true → s.aon.aonClockLost = false → s.mode.mode = .day → s.time.servoState ≠ 2 → s.held 0x2130 2 = false →
    s.rdB Reg.AON_RTC_CTRL 0 = false → s.rdB Reg.AON_RTC_CTRL 1 = false →
    ∃ t, exec (.rtcSet [0xE9, 7, 6, 15, 12, 30, 45, 0]) s = .next t ∧
      t.civil = { year := 25, month := 6, day := 15, hour := 12, min := 30, sec := 45 } ∧ t.rdF Reg.AON_RTC_WEEKDAY 2 0 = 6 ∧
      t.rdB Reg.AON_RTC_CTRL 0 = false)

/-! ## Wireless access (chapter 5) -/

/-- From R153, R154, R157, R159, R174, R181. A slot mark within ±250 µs on a running transceiver, no ASN setting waiting and the slot not a slotframe's
first, advances the ASN by 1, clears MARKS_LOST and the flywheel flag and, without rings to serve, changes nothing but the ASN and status registers;
outside ±250 µs it changes nothing. A flywheel slot, fewer than 99 having gone before, advances the ASN and is counted. COMMIT by a resident
initiator stands, or is refused with its REASON: 1 for a slotframe length outside 101 to 4,099, 2 for a hop length no multiple of 4. A missed
expected frame advances MISSED to at most 15 and widens the window at 2, 3 and 4. FLUSH drops what is awaited and repeated; of one entry queued in
the ring it returns status 5 and its interrupt. The end of the overlap ends it. For 4 to 64 channels the hopping sequence is a permutation of them.
Each completes. -/
def Obligations.SlotsCommitsAndFlushes : Prop :=
  (∀ (n : Fin 4) (e : Int) (s : State), s.rdB (Reg.MAC_STATUS n.val) 0 = true → s.clockPresent (.rad n) = true → s.rdB Reg.DRL_CTRL 0 = false →
    s.rdB (Reg.MAC_ASN_SET_HI n.val) 31 = false → -250 ≤ e → e ≤ 250 → (s.asn n.val + 1) % 2 ^ 40 % (s.mac n.val).len ≠ 0 →
    ∃ t, exec (.slotMark n e) s = .next t ∧ t.asn n.val = (s.asn n.val + 1) % 2 ^ 40 ∧ t.rdF (Reg.MAC_STATUS n.val) 3 2 = 0 ∧
      ((s.mac n.val).rings = false →
        State.regsKept [Reg.MAC_ASN_LO n.val, Reg.MAC_ASN_HI n.val, Reg.MAC_STATUS n.val, Reg.SUP_ACTIVE] s t ∧ t.objs = s.objs ∧ t.mem = s.mem)) ∧
  (∀ (n : Fin 4) (e : Int) (s : State), s.rdB Reg.DRL_CTRL 0 = false → (e < -250 ∨ 250 < e) → exec (.slotMark n e) s = .next s) ∧
  (∀ (n : Fin 4) (s : State), s.rdB (Reg.MAC_STATUS n.val) 0 = true → s.clockPresent (.rad n) = true → (s.mac n.val).flyRun < 99 → s.shaped →
    s.rdB (Reg.MAC_ASN_SET_HI n.val) 31 = false → (s.asn n.val + 1) % 2 ^ 40 % (s.mac n.val).len ≠ 0 →
    ∃ t, exec (.flywheelSlot n) s = .next t ∧ t.asn n.val = (s.asn n.val + 1) % 2 ^ 40 ∧ t.rdB (Reg.MAC_STATUS n.val) 2 = true ∧
      t.rd (Reg.MAC_COUNTER n.val 15) = s.rd (Reg.MAC_COUNTER n.val 15) + 1 ∧ (t.mac n.val).flyRun = (s.mac n.val).flyRun + 1 ∧
      ((s.mac n.val).rings = false →
        State.regsKept [Reg.MAC_ASN_LO n.val, Reg.MAC_ASN_HI n.val, Reg.MAC_STATUS n.val, Reg.MAC_INT_STAT n.val, Reg.MAC_COUNTER n.val 15] s t ∧
        t.objs = s.objs ∧ t.mem = s.mem)) ∧
  (∀ (ini : Initiator) (n : Fin 4) (s : State), ini.resident = true →
    let l := s.rdF (Reg.MAC_SLOTFRAME n.val) 12 0
    ∃ t, exec (.scheduleCommit ini n) s = .next t ∧ State.regsKept [Reg.MAC_SCHED_CTRL n.val, Reg.MAC_INT_STAT n.val] s t ∧
      t = { s with regs := t.regs, bus := t.bus } ∧
      (s.commitReason n.val = 0 → t.rdB (Reg.MAC_SCHED_CTRL n.val) 0 = true) ∧
      (s.commitReason n.val ≠ 0 → t.rdB (Reg.MAC_SCHED_CTRL n.val) 0 = false ∧ t.rdB (Reg.MAC_SCHED_CTRL n.val) 1 = true ∧
        t.rdF (Reg.MAC_SCHED_CTRL n.val) 7 4 = s.commitReason n.val) ∧
      (l < 101 ∨ 4099 < l → t.rdF (Reg.MAC_SCHED_CTRL n.val) 7 4 = 1) ∧
      (101 ≤ l → l ≤ 4099 → s.rdF (Reg.MAC_HOP n.val) 6 0 % 4 ≠ 0 → t.rdF (Reg.MAC_SCHED_CTRL n.val) 7 4 = 2)) ∧
  (∀ (n : Fin 4) (i : Fin 1024) (s : State), s.nbValid n.val i.val = true → s.nbDemoted n.val i.val = false → s.rdB (Reg.MAC_CTRL n.val) 2 = false →
    let k := min 15 (s.rdF (Reg.MAC_NB n.val i.val 0) 17 14 + 1)
    ∃ t, exec (.expectedFrameMissed n i) s = .next t ∧ t.rdF (Reg.MAC_NB n.val i.val 0) 17 14 = k ∧
      t.rdF (Reg.MAC_NB n.val i.val 0) 19 18 = (if k < 2 then 0 else if k = 2 then 1 else if k = 3 then 2 else 3) ∧
      (s.rdF (Reg.MAC_NB n.val i.val 0) 19 18 = 0 → k = 2 → t.rdB (Reg.MAC_INT_STAT n.val) 4 = true) ∧
      State.regsKept [Reg.MAC_NB n.val i.val 0, Reg.MAC_INT_STAT n.val] s t ∧ t = { s with regs := t.regs }) ∧
  (∀ (ini : Initiator) (n : Fin 4) (s : State), ini.resident = true → s.shaped →
    s.rd (Reg.MAC_TXR_BASE_LO n.val + 12) = s.rd (Reg.MAC_TXR_BASE_LO n.val + 16) →
    ∃ t, exec (.macFlush ini n) s = .next t ∧ (t.mac n.val).awaiting = none ∧ (t.mac n.val).retries = [] ∧ t.regs = s.regs ∧ t.objs = s.objs ∧
      t.mem = s.mem) ∧
  (∀ (ini : Initiator) (n : Fin 4) (s : State), ini.resident = true → s.fault.errorAddr = none →
    let a := Reg.MAC_TXR_BASE_LO n.val
    let e := s.ringAddr a (s.ringTail a)
    (s.rd (a + 12)).toNat = ((s.rd (a + 16)).toNat + 1) % 2 ^ 32 → 0x98000000 ≤ e → e + 16 ≤ 0xB8000000 → s.ringOwned (macInitiator n.val) a (s.ringTail a) = true →
    frType (s.txBytes n.val (s.ringTail a)) ≠ 4 →
    ∃ t, exec (.macFlush ini n) s = .next t ∧ t.rdMem (e + 15) = 5 ∧ (t.rdMem (e + 14)).toNat % 2 = 0 ∧ t.rd (a + 16) = s.rd (a + 12) ∧
      (∀ b, b < e ∨ e + 16 ≤ b → t.rdMem b = s.rdMem b) ∧ t.rdB (Reg.MAC_INT_STAT n.val) 1 = true ∧
      State.regsKept [a + 16, Reg.MAC_INT_STAT n.val] s t) ∧
  (∀ (n : Fin 4) (s : State), s.shaped →
    ∃ t, exec (.keyOverlapEnd n) s = .next t ∧ (t.mac n.val).overlap = false ∧ t = { s with macs := t.macs }) ∧
  (∀ len seed : Nat, 4 ≤ len → len ≤ 64 → (hopSequence len seed).Nodup ∧ (hopSequence len seed).length = len ∧ ∀ x ∈ hopSequence len seed, x < len)

/-- From R160, R162, R163, R164, R165, R166, R168, R169, R170, R172, R182, R184. A frame that no receive cell hears, or with EN 0, changes nothing.
Heard, with queue room: one that fails a check but KEY_MISS advances that check's counter alone (a bad FCS 1, another segment 2). From a known
neighbour with its MIC right and not orphaned, and not an ACK or DISCOVERY frame: FRAME_COUNTER not above RX_COUNTER counts as a replay alone; a
repeated LSN counts as a duplicate and keeps the new counter; a DATA or COMMAND frame with the next LSN is counted, kept and its header and plain
payload stand in the owned ring entry's buffer, TAIL advancing. The awaited ACK without BUSY completes its entry; a timeout within TX_RETRIES keeps
the frame for a repeat, beyond it returns it with its counter. A cell transmission in a beacon cell that the beacon fits sends it with the next
broadcast counter; with LISTEN_ONLY, or in a receive or idle cell, it changes nothing. SCAN on the slot's channel counts a bad FCS, counts another
type, and delivers a DISCOVERY frame to an owned entry. Each completes. -/
def Obligations.RadioFramesAreCheckedAndAcknowledged : Prop :=
  (∀ (n : Fin 4) (f : RadioFrame) (s : State), s.ackHeard n.val f = false → s.rxHeard n.val f = none → exec (.frameReceive n f) s = .next s) ∧
  (∀ (n : Fin 4) (f : RadioFrame) (s : State), s.rdB (Reg.MAC_CTRL n.val) 0 = false → exec (.frameReceive n f) s = .next s) ∧
  (∀ (n : Fin 4) (f : RadioFrame) (h : Word × Nat × Int) (s : State), s.rdB (Reg.MAC_CTRL n.val) 0 = true → f.dropped = false →
    (s.queue n.val).wcount 6 < 64 → s.ackHeard n.val f = false → s.rxHeard n.val f = some h →
    (∀ c, c ≠ 5 → s.rxChecks n.val h.1 f = .error c →
      ∃ t, exec (.frameReceive n f) s = .next t ∧ t.rd (Reg.MAC_COUNTER n.val c) = s.rd (Reg.MAC_COUNTER n.val c) + 1 ∧
        State.regsKept [Reg.MAC_COUNTER n.val c] s t ∧ t = { s with regs := t.regs, macs := t.macs }) ∧
    (f.fcsOk = false → s.rxChecks n.val h.1 f = .error 1) ∧
    (f.fcsOk = true → leAt f.bytes 1 1 = 1 → leAt f.bytes 2 2 ≠ s.rdF (Reg.MAC_ADDR n.val) 15 0 → s.rxChecks n.val h.1 f = .error 2)) ∧
  (∀ (n : Fin 4) (f : RadioFrame) (h : Word × Nat × Int) (i : Nat) (s : State), s.rdB (Reg.MAC_CTRL n.val) 0 = true → f.dropped = false →
    (s.queue n.val).wcount 6 < 64 → s.ackHeard n.val f = false → s.rxHeard n.val f = some h → frType f.bytes ≠ 2 → frType f.bytes ≠ 5 →
    s.rxKnown n.val h.1 f = .ok i → f.mic = s.rxMic n.val i f → f.orphaned = false → frCounter f.bytes ≤ (s.rd (Reg.MAC_NB n.val i 4)).toNat →
    ∃ t, exec (.frameReceive n f) s = .next t ∧ t.rd (Reg.MAC_COUNTER n.val 6) = s.rd (Reg.MAC_COUNTER n.val 6) + 1 ∧
      State.regsKept [Reg.MAC_COUNTER n.val 6] s t ∧ t.objs = s.objs ∧ t.mem = s.mem) ∧
  (∀ (n : Fin 4) (f : RadioFrame) (h : Word × Nat × Int) (i : Nat) (s : State), s.rdB (Reg.MAC_CTRL n.val) 0 = true → f.dropped = false →
    (s.queue n.val).wcount 6 < 64 → s.ackHeard n.val f = false → s.rxHeard n.val f = some h → frType f.bytes ≠ 2 → frType f.bytes ≠ 5 →
    s.rxKnown n.val h.1 f = .ok i → f.mic = s.rxMic n.val i f → f.orphaned = false → i < 1024 → s.nbDemoted n.val i = false →
    (s.rd (Reg.MAC_NB n.val i 4)).toNat < frCounter f.bytes → leAt f.bytes 8 2 = s.rdF (Reg.MAC_NB n.val i 3) 31 16 →
    ∃ t, exec (.frameReceive n f) s = .next t ∧ t.rd (Reg.MAC_COUNTER n.val 7) = s.rd (Reg.MAC_COUNTER n.val 7) + 1 ∧
      t.rd (Reg.MAC_NB n.val i 4) = BitVec.ofNat 32 (frCounter f.bytes) ∧ t.rdF (Reg.MAC_NB n.val i 3) 31 16 = s.rdF (Reg.MAC_NB n.val i 3) 31 16 ∧
      t.rd (Reg.MAC_COUNTER n.val 0) = s.rd (Reg.MAC_COUNTER n.val 0) ∧ t.rdF (Reg.MAC_NB n.val i 0) 17 14 = 0 ∧ t.mem = s.mem) ∧
  (∀ (n : Fin 4) (f : RadioFrame) (h : Word × Nat × Int) (i : Nat) (s : State), let a := Reg.MAC_RXR_BASE_LO n.val
    let e := s.ringAddr a (s.ringTail a)
    let b := fromLE (s.ringBytes (macInitiator n.val) a (s.ringTail a) 0 5)
    s.rdB (Reg.MAC_CTRL n.val) 0 = true → f.dropped = false →
    (s.queue n.val).wcount 6 < 64 → s.ackHeard n.val f = false → s.rxHeard n.val f = some h → (frType f.bytes = 1 ∨ frType f.bytes = 4) →
    frBit f.bytes 5 = false → s.rxKnown n.val h.1 f = .ok i → f.mic = s.rxMic n.val i f → f.orphaned = false → i < 1024 →
    s.nbDemoted n.val i = false → (s.rd (Reg.MAC_NB n.val i 4)).toNat < frCounter f.bytes → leAt f.bytes 8 2 = (s.rdF (Reg.MAC_NB n.val i 3) 31 16 + 1) % 2 ^ 16 →
    s.ringHead a ≠ s.ringTail a → s.ringOwned (macInitiator n.val) a (s.ringTail a) = true → s.fault.errorAddr = none →
    0x98000000 ≤ e → e + 16 ≤ b → b + (f.bytes.length + f.body.length) ≤ 0xB8000000 →
    ∃ t, exec (.frameReceive n f) s = .next t ∧ t.rd (Reg.MAC_COUNTER n.val 0) = s.rd (Reg.MAC_COUNTER n.val 0) + 1 ∧
      t.rdB (Reg.MAC_INT_STAT n.val) 0 = true ∧ t.rdF (Reg.MAC_NB n.val i 3) 31 16 = leAt f.bytes 8 2 ∧
      t.memBytes b (f.bytes.length + f.body.length) = f.bytes ++ s.rxPlain n.val i f ∧ t.ringTail a = (s.ringTail a + 1) % 2 ^ 32) ∧
  (∀ (n : Fin 4) (f : RadioFrame) (w : MacAwait) (s : State), s.shaped → s.rdB (Reg.MAC_CTRL n.val) 0 = true → f.dropped = false →
    (s.queue n.val).wcount 6 < 64 → s.ackHeard n.val f = true → (s.mac n.val).awaiting = some w → s.rxKnown n.val (s.cellNow n.val) f = .ok w.nb →
    f.mic = s.rxMic n.val w.nb f → f.orphaned = false → w.nb < 1024 → s.nbDemoted n.val w.nb = false → leAt f.bytes 8 2 = w.lsn →
    (s.rd (Reg.MAC_NB n.val w.nb 4)).toNat < frCounter f.bytes → Nat.testBit (leAt f.body 2 1) 1 = false → frType (s.txBytes n.val w.entry) ≠ 4 →
    ∃ t, exec (.ackReceive n f) s = .next t ∧ (t.mac n.val).awaiting = none ∧ t.rd (Reg.MAC_COUNTER n.val 10) = s.rd (Reg.MAC_COUNTER n.val 10) + 1 ∧
      t.rd (Reg.MAC_NB n.val w.nb 4) = BitVec.ofNat 32 (frCounter f.bytes) ∧ t.rdB (Reg.MAC_INT_STAT n.val) 1 = true) ∧
  (∀ (n : Fin 4) (w : MacAwait) (s : State), s.shaped → (s.mac n.val).awaiting = some w → w.tries ≤ s.rdF (Reg.MAC_RETRY n.val) 3 0 →
    ∃ t, exec (.ackTimeout n) s = .next t ∧ (t.mac n.val).awaiting = none ∧ w ∈ (t.mac n.val).retries ∧ t = { s with macs := t.macs }) ∧
  (∀ (n : Fin 4) (w : MacAwait) (s : State), s.shaped → (s.mac n.val).awaiting = some w → s.rdF (Reg.MAC_RETRY n.val) 3 0 < w.tries →
    frType (s.txBytes n.val w.entry) ≠ 4 →
    ∃ t, exec (.ackTimeout n) s = .next t ∧ (t.mac n.val).awaiting = none ∧
      t.rd (Reg.MAC_COUNTER n.val 11) = s.rd (Reg.MAC_COUNTER n.val 11) + 1 ∧ t.rdB (Reg.MAC_INT_STAT n.val) 1 = true) ∧
  (∀ (n : Fin 4) (x : Int) (b : Bool) (s : State), let p := s.beaconPayload n.val
    s.shaped → s.rdB (Reg.MAC_STATUS n.val) 0 = true → s.rdB (Reg.MAC_CTRL n.val) 1 = true →
    s.rdB (Reg.MAC_CTRL n.val) 2 = false → s.rdB (Reg.MAC_STATUS n.val) 3 = false → fld (s.cellFirst n.val) 1 0 = 1 → fld (s.cellFirst n.val) 5 4 = 1 →
    cellFits (s.mac n.val).phy (s.rdF (Reg.MAC_TIMING n.val) 11 0) (s.cellFirst n.val) (p.length + 27) false = true → (s.mac n.val).bcast < 0xFFFFFFFF →
    ∃ t, exec (.cellTransmit n x b false) s = .next t ∧ (t.mac n.val).air.take 2 = [0x08, 1] ∧ ((t.mac n.val).air.drop 15).take p.length = p ∧
      (t.mac n.val).bcast = (s.mac n.val).bcast + 1 ∧ t = { s with macs := t.macs }) ∧
  (∀ (n : Fin 4) (x : Int) (b c : Bool) (s : State), (s.rdB (Reg.MAC_CTRL n.val) 2 = true ∨ fld (s.cellFirst n.val) 1 0 = 0 ∨ fld (s.cellFirst n.val) 1 0 = 2) →
    exec (.cellTransmit n x b c) s = .next s) ∧
  (∀ (f : RadioFrame) (s : State), s.rdB Reg.SCAN_CTRL 0 = true → s.rdB (Reg.MAC_STATUS 0) 0 = true → f.discovery = true →
    f.channel = s.discChannel 0 (s.asn 0) →
    ∃ t, exec (.scanReceive f false) s = .next t ∧
      (f.fcsOk = false → t.rd (Reg.SCAN_COUNTER 1) = s.rd (Reg.SCAN_COUNTER 1) + 1 ∧ State.regsKept [Reg.SCAN_COUNTER 1] s t ∧ t = { s with regs := t.regs }) ∧
      (f.fcsOk = true → frType f.bytes ≠ 5 →
        t.rd (Reg.SCAN_COUNTER 2) = s.rd (Reg.SCAN_COUNTER 2) + 1 ∧ State.regsKept [Reg.SCAN_COUNTER 2] s t ∧ t = { s with regs := t.regs }) ∧
      (f.fcsOk = true → leAt f.bytes 1 1 = 1 → frType f.bytes = 5 → s.ringHead Reg.SCAN_RXR_BASE_LO ≠ s.ringTail Reg.SCAN_RXR_BASE_LO →
        s.ringOwned .scan Reg.SCAN_RXR_BASE_LO (s.ringTail Reg.SCAN_RXR_BASE_LO) = true →
        t.rd (Reg.SCAN_COUNTER 0) = s.rd (Reg.SCAN_COUNTER 0) + 1 ∧ t.rdB Reg.SCAN_INT_STAT 0 = true ∧
        t.ringTail Reg.SCAN_RXR_BASE_LO = (s.ringTail Reg.SCAN_RXR_BASE_LO + 1) % 2 ^ 32))

/-! ## Lantern membership (chapter 6) -/

/-- From R188, R189, R192, R195, R196, R197, R198, R199, R200. In DAY REGISTRATION 1 of an EMPTY card with EUI-64 and code makes it REGISTERED, 3 of a
card not EMPTY makes it RETIRED, and 1 or 2 of such a card is STATE_CONFLICT. A request of this segment to a running cohort: an unknown EUI-64, a
wrong MIC and a counter not above the card's advance their counts alone; for a RETIRED card, directly, a REJECT with reason 3 joins the responses,
and through ENROL_FORWARD a command to the relay; for a REGISTERED card whose preferred cohort has room, an ACCEPT. Another segment's is ignored. A
discovery cell carries the DISC_BEACON, or the one response due, its lantern then ENROLLING. JOIN_TIMEOUT, LOST_AFTER and LEAVE move the card as
Table 6.2 gives; a JOIN of 8 bytes fills a member's card. Each completes; the cards of other lanterns keep their state. -/
def Obligations.LanternsRegisterEnrolAndLeave : Prop :=
  (∀ (l : Fin 4096) (s : State), s.coresRun = true → s.mode.mode = .day → s.held (0x6000 + l.val) 4 = false →
    (s.card l.val 3 = 0 → s.card l.val 1 ≠ 0 → s.obj (0x6000 + l.val) 2 ≠ [] →
      ∃ t, exec (.registrationWrite l [1]) s = .next t ∧ t.card l.val 3 = 1 ∧ t.card l.val 4 = 1 ∧ t.dict.status = 0 ∧
        (∀ k, k ≠ l.val → t.card k 3 = s.card k 3) ∧ t.mem = s.mem) ∧
    (s.card l.val 3 ≠ 0 →
      ∃ t, exec (.registrationWrite l [3]) s = .next t ∧ t.card l.val 3 = 8 ∧ t.dict.status = 0 ∧ (∀ k, k ≠ l.val → t.card k 3 = s.card k 3)) ∧
    (s.card l.val 3 ≠ 0 → ∀ v ∈ [[(1 : Byte)], [2]],
      ∃ t, exec (.registrationWrite l v) s = .next t ∧ t.dict.status = 10 ∧ t.objs = s.objs ∧ t.regs = s.regs ∧ t.mem = s.mem)) ∧
  (∀ (r : EnrolRequest) (s : State), r.segment = s.objN 0x2200 1 → s.rdB (Reg.MAC_STATUS r.cohort) 0 = true →
    (s.cardByEui r.eui = none → ∃ t, exec (.enrolRequest r) s = .next t ∧ leAt (t.obj 0x7000 0x10) 0 4 = (leAt (s.obj 0x7000 0x10) 0 4 + 1) % 2 ^ 32 ∧
      State.objsKept [(0x7000, 0x10)] s t ∧ t = { s with objs := t.objs }) ∧
    (∀ n, s.cardByEui r.eui = some n → n < 4096 →
      (s.requestOk n r 2 = false →
        ∃ t, exec (.enrolRequest r) s = .next t ∧ leAt (t.obj 0x7000 0x10) 4 4 = (leAt (s.obj 0x7000 0x10) 4 4 + 1) % 2 ^ 32 ∧
          State.objsKept [(0x7000, 0x10)] s t ∧ t = { s with objs := t.objs }) ∧
      (s.chainCheck 1 = .ok → r.mic = s.requestMic n r 2 → r.counter ≤ s.card n 0x0D →
        ∃ t, exec (.enrolRequest r) s = .next t ∧ leAt (t.obj 0x7000 0x10) 8 4 = (leAt (s.obj 0x7000 0x10) 8 4 + 1) % 2 ^ 32 ∧
          State.objsKept [(0x7000, 0x10)] s t ∧ t = { s with objs := t.objs }) ∧
      (s.chainCheck 1 = .ok → r.mic = s.requestMic n r 2 → s.card n 0x0D < r.counter → r.counter < 65536 → s.card n 3 = 8 → r.relay = 0 →
        ∃ t x, exec (.enrolRequest r) s = .next t ∧ t.card n 0x0D = r.counter ∧ t.member.responses = s.member.responses ++ [x] ∧ x.accept = false ∧
          x.cohort = r.cohort ∧ x.payload.take 2 = [4, 3] ∧ x.earliest = s.time.now + 50000000 ∧
          State.objsKept [(0x6000 + n, 0x0D), (0x6000 + n, 0x16)] s t ∧ t.regs = s.regs) ∧
      (s.chainCheck 1 = .ok → r.mic = s.requestMic n r 2 → s.card n 0x0D < r.counter → r.counter < 65536 → s.card n 3 = 1 → r.relay = 0 →
        s.inModes (s.objN 0x7000 2) = true → s.card n 6 < 4 → s.cohortRoom (s.card n 6) n = true → s.placeable (s.card n 6) n 0 = true →
        ∃ t x, exec (.enrolRequest r) s = .next t ∧ t.member.responses = s.member.responses ++ [x] ∧ x.accept = true ∧ x.cohort = s.card n 6 ∧
          x.lantern = n ∧ x.payload.take 1 = [3] ∧ x.earliest = s.time.now + 50000000) ∧
      (s.chainCheck 1 = .ok → r.mic = s.requestMic n r 2 → s.card n 0x0D < r.counter → r.counter < 65536 → s.card n 3 = 8 →
        ∀ (relay : Nat) (g : BitVec 8), relay ≠ 0 →
        ∃ t x, exec (.enrolForward relay g r) s = .next t ∧ t.card n 0x0D = r.counter ∧ t.member.responses = s.member.responses ∧
          t.member.outbox = s.member.outbox ++ [x] ∧ x.lantern = relay % 0x1000 ∧ x.type = 4 ∧ x.code = 0x19 ∧
          (x.body.drop 10).take 2 = [4, 3] ∧ (n, relay % 0x1000, g.toInt) ∈ t.member.relayRssi ∧
          State.objsKept [(0x6000 + n, 0x0D), (0x6000 + n, 0x16)] s t ∧ t.regs = s.regs))) ∧
  (∀ (r : EnrolRequest) (s : State), r.segment ≠ s.objN 0x2200 1 → exec (.enrolRequest r) s = .next s ∧
    ∀ (relay : Nat) (g : BitVec 8), ∃ t, exec (.enrolForward relay g r) s = .next t ∧ t = { s with member := { s.member with relayRssi := t.member.relayRssi } }) ∧
  (∀ (c : Fin 4) (s : State), s.shaped → fld (s.cellFirst c.val) 1 0 = 1 → fld (s.cellFirst c.val) 5 4 = 3 → s.rdB (Reg.MAC_STATUS c.val) 0 = true →
    s.rdB (Reg.MAC_CTRL c.val) 1 = true → s.rdB (Reg.MAC_CTRL c.val) 2 = false → s.rdB (Reg.MAC_STATUS c.val) 3 = false →
    (s.member.responses = [] → s.discFits c.val (s.discBeacon c.val) = true →
      ∃ t, exec (.discoveryCell c) s = .next t ∧ (t.mac c.val).air = s.discHeader c.val ++ s.discBeacon c.val ∧ t = { s with macs := t.macs }) ∧
    (∀ x : Response, s.member.responses = [x] → x.cohort = c.val → x.earliest ≤ s.time.now → s.asn c.val ≤ x.lastAsn → x.accept = true → x.lantern < 4096 →
      s.discFits c.val x.payload = true → s.card x.lantern 3 ≠ 0 → s.card x.lantern 3 < 8 →
      ∃ t, exec (.discoveryCell c) s = .next t ∧ (t.mac c.val).air = s.discHeader c.val ++ x.payload ∧ t.member.responses = [] ∧ t.card x.lantern 3 = 3 ∧
        State.objsKept [(0x6000 + x.lantern, 3), (0x6000 + x.lantern, 0x0B)] s t ∧ t.regs = s.regs)) ∧
  (∀ (l : Fin 4096) (prev k : Nat) (s : State), s.member.enrolling = [(l.val, prev, k)] → s.card l.val 3 = 3 → s.objN 0x7000 7 ≤ k → prev < 9 → s.card l.val 5 < 4 →
    ∃ t, exec (.joinTimeout l) s = .next t ∧ t.member.enrolling = [] ∧
      t.card l.val 3 = (if prev = 3 ∨ prev = 4 ∨ prev = 5 ∨ prev = 6 then 1 else prev) ∧ (∀ j, j ≠ l.val → t.card j 3 = s.card j 3)) ∧
  (∀ (l : Fin 4096) (s : State), s.card l.val 3 = 6 → ∃ t, exec (.lostAfter l) s = .next t ∧ t.card l.val 3 = 7 ∧ (∀ j, j ≠ l.val → t.card j 3 = s.card j 3)) ∧
  (∀ (l : Fin 4096) (s : State), s.card l.val 3 ≠ 6 → exec (.lostAfter l) s = .next s) ∧
  (∀ (l : Fin 4096) (r : BitVec 8) (s : State), (s.card l.val 3 = 4 ∨ s.card l.val 3 = 5 ∨ s.card l.val 3 = 6) →
    ∃ t, exec (.lanternLeave l r) s = .next t ∧ t.card l.val 3 = 1 ∧ (∀ j, j ≠ l.val → t.card j 3 = s.card j 3)) ∧
  (∀ (l : Fin 4096) (b : List Byte) (s : State), s.card l.val 3 = 4 → b.length = 8 →
    ∃ t, exec (.lanternJoin l b) s = .next t ∧ t.card l.val 7 = leAt b 0 2 ∧ t.card l.val 8 = leAt b 2 2 ∧ t.card l.val 9 = leAt b 5 1 ∧ t.card l.val 3 = 4)

/-- From R203, R205, R209, R210, R211, R212. A 16-byte HEALTH or ENERGY report of a lantern that holds an entry fills its card, with the time; of
another lantern reports and messages change nothing; a dictionary message's last fragment completes it. A probe with its MIC right from a member
sets its PROBE_RSSI; of an unknown EUI-64 it changes nothing. A peer's probe entry above the margin in DAY, one run wanted, sends HANDOVER to the
lantern; another peer's changes nothing. A renewal that may begin, and whose key command is allowed, is open with the inactive slot and at least 8
slotframes ahead; else it does nothing. KEY_READY adds the lantern; at ACTIVATE_ASN the slot becomes the active one, the old GEN kept. REBALANCE in
DAY sends one MOVE for each lantern that it newly marks as moved, at most 128, and goes on rebalancing while a cohort is overfull and has a
candidate; with no cohort overfull it marks none and ends; in NIGHT_SCHEDULED it is refused. Each completes. -/
def Obligations.ReportsHandoverAndKeyRenewal : Prop :=
  (∀ (l : Fin 4096) (b : List Byte) (s : State), holdsEntry (s.card l.val 3) = true → b.length = 16 →
    (∃ t, exec (.healthReport l b) s = .next t ∧ t.obj (0x6000 + l.val) 0x11 = b ∧ t.obj (0x6000 + l.val) 0x12 = time80 s.time.now ∧
      State.objsKept [(0x6000 + l.val, 0x11), (0x6000 + l.val, 0x12), (0x6000 + l.val, 0x34)] s t ∧ t = { s with objs := t.objs }) ∧
    (∃ t, exec (.energyReport l b) s = .next t ∧ t.obj (0x6000 + l.val) 0x13 = b ∧ t.obj (0x6000 + l.val) 0x14 = time80 s.time.now ∧
      t.ctl.reports = s.ctl.reports ++ [(l.val, leAt b 0 5, leAt b 9 2)] ∧
      State.objsKept [(0x6000 + l.val, 0x13), (0x6000 + l.val, 0x14)] s t ∧ t.regs = s.regs ∧ t.mem = s.mem)) ∧
  (∀ (l : Fin 4096) (b : List Byte) (s : State), holdsEntry (s.card l.val 3) = false →
    exec (.healthReport l b) s = .next s ∧ exec (.energyReport l b) s = .next s ∧ exec (.dictionaryMessage l b) s = .next s) ∧
  (∀ (l : Fin 4096) (b : List Byte) (s : State), holdsEntry (s.card l.val 3) = true →
    ∃ t, exec (.dictionaryMessage l (0x80 :: b)) s = .next t ∧ t.member.messages = s.member.messages ++ [(l.val, b)] ∧
      t = { s with member := { s.member with messages := t.member.messages, fragments := t.member.fragments } }) ∧
  (∀ (r : EnrolRequest) (g : BitVec 8) (n : Nat) (s : State), s.cardByEui r.eui = some n → n < 4096 → s.chainCheck 1 = .ok → r.mic = s.requestMic n r 5 →
    (s.card n 3 = 4 ∨ s.card n 3 = 5 ∨ s.card n 3 = 6) →
    ∃ t, exec (.handoverProbe r g) s = .next t ∧ t.obj (0x6000 + n) 0x19 = [g] ∧ State.objsKept [(0x6000 + n, 0x19)] s t ∧ t = { s with objs := t.objs }) ∧
  (∀ (r : EnrolRequest) (g : BitVec 8) (s : State), s.cardByEui r.eui = none → exec (.handoverProbe r g) s = .next s) ∧
  (∀ (peer : List Byte) (seg n : Nat) (e : List Byte) (s : State), s.handoverPeer peer = true → e.length = 16 → s.cardByEui (e.take 8) = some n → n < 4096 → s.card n 3 = 4 → s.card n 0x18 = 1 →
    s.mode.mode = .day → s.member.probeRuns = [] → leAt e 11 1 ≠ 0 → s.objN 0x7000 0x0F = 1 →
    s.objI (0x6000 + n) 0x19 8 + s.objN 0x7000 0x0E ≤ sx 8 (leAt e 10 1) →
    ∃ t, exec (.handoverPoll peer seg true e) s = .next t ∧
      t.member.outbox = s.member.outbox ++ [{ cohort := s.card n 5, lantern := n, type := 4, code := 0x15, body := toLE 2 seg ++ toLE 5 (s.asn (s.card n 5)) }] ∧
      t = { s with member := { s.member with outbox := t.member.outbox, probeRuns := t.member.probeRuns } }) ∧
  (∀ (peer : List Byte) (seg : Nat) (day : Bool) (e : List Byte) (s : State), s.handoverPeer peer = false → exec (.handoverPoll peer seg day e) s = .next s) ∧
  (∀ (c : Fin 4) (s : State), s.renewalMay c.val = false → exec (.keyRenewal c) s = .next s) ∧
  (∀ (c : Fin 4) (s : State), s.renewalMay c.val = true →
    s.keyCheck 1 { slot := s.inactiveSlot c.val, parent := 8, kind := 1, twin := s.activeSlot c.val, attr := 0x141 } = 0 →
    ∃ t r, exec (.keyRenewal c) s = .next t ∧ t.member.renewals = [r] ∧ r.cohort = c.val ∧ r.slot = s.inactiveSlot c.val ∧ r.ready = [] ∧
      s.asn c.val + 8 * (s.mac c.val).len ≤ r.activate) ∧
  (∀ (l : Fin 4096) (g : BitVec 8) (r : Renewal) (s : State), s.member.renewals = [r] → r.cohort = s.card l.val 5 → r.gen % 256 = g.toNat → l.val ∉ r.ready →
    ∃ t, exec (.keyReady l g) s = .next t ∧ t.member.renewals = [{ r with ready := r.ready ++ [l.val] }] ∧
      t = { s with member := { s.member with renewals := t.member.renewals } }) ∧
  (∀ (c : Fin 4) (r : Renewal) (s : State), s.member.renewals = [r] → r.cohort = c.val → r.activate ≤ s.asn c.val →
    ∃ t, exec (.keyActivation c) s = .next t ∧ t.rdF (Reg.MAC_KEY c.val) 7 0 = r.slot % 256 ∧ t.rdF (Reg.MAC_KEY c.val) 15 8 = (s.slot r.slot).gen % 256 ∧
      t.rdF (Reg.MAC_KEY c.val) 23 16 = s.rdF (Reg.MAC_KEY c.val) 15 8 ∧ t.member.renewals = [] ∧
      ((∀ i, i < 1024 → (s.rd (Reg.MAC_NB c.val i 4)).toNat < 0xFFFFFFFF ∧ (s.rd (Reg.MAC_NB c.val i 5)).toNat < 0xFFFFFFFF) →
        State.regsKept [Reg.MAC_KEY c.val] s t) ∧ State.objsKept [(0x7001 + c.val, 5), (0x7001 + c.val, 6)] s t) ∧
  (∀ s : State, s.coresRun = true → s.mode.mode = .day → s.held 0x7000 0x0D = false →
    ∃ t, exec (.rebalance [1]) s = .next t ∧ t.dict.status = 0 ∧ t.member.rebalancing = t.rebalanceOn ∧
      t.member.moved.take s.member.moved.length = s.member.moved ∧ t.member.moved.length ≤ s.member.moved.length + 128 ∧
      t.member.outbox.length + s.member.moved.length = s.member.outbox.length + t.member.moved.length ∧
      ((∀ c, c < 4 → s.overfull c = false) → t.member.moved = s.member.moved ∧ t.member.rebalancing = false) ∧ t.regs = s.regs) ∧
  (∀ s : State, s.coresRun = true → s.mode.mode = .nightScheduled → s.held 0x7000 0x0D = false →
    ∃ t, exec (.rebalance [1]) s = .next t ∧ t.dict.status = 8 ∧ t.member = s.member ∧ t.objs = s.objs ∧ t.regs = s.regs)

/-! ## Traffic (chapter 7) -/

/-- From R216, R217, R219, R220, R221, R222, R223, R224, R228, R233, R234, R235. A COUNT_REPORT that is badly formed, or repeats its sequence
(difference 0, or above 128), is counted as such and gives no event. A well-formed next report of one event, kept by the report's and the card's
flags, of a class below 6 and with its slot times known, gives one event at T_mark + OFFSET + LAG of the corrected stamp, in its class's group, and
advances the card's sequence and count. An event at a window's end leaves that window. WINDOW_FINALISE of a window past its lateness writes all 64
zones' records and queues them for bulk. GRAPH_COMMIT in DAY takes an empty graph, or for a graph of one faulty node keeps the graph and shows the
lantern and reason. EDGE_MESSAGE_SEND in NIGHT_FOLLOWING sends each peer with a session of level OPERATOR and B 1,024 its messages of 16 ports as
writes of 0x2490:01; in ISLANDED and STANDBY it sends nothing. EDGE_IN of one port from another sender or out of sequence is STATE_CONFLICT and
counted, else accepted as LIVE with its sequence. A LIVE port without a message for its time is STALE, not sooner. Each completes. -/
def Obligations.TrafficIsCountedAndPassedOn : Prop :=
  (∀ (l : Fin 4096) (b : List Byte) (stamp epoch asn : Nat) (s : State), reportFormed b = false →
    ∃ t, exec (.countReport l b stamp epoch asn) s = .next t ∧ leAt (t.obj 0x2400 0x0E) 32 4 = (leAt (s.obj 0x2400 0x0E) 32 4 + 1) % 2 ^ 32 ∧
      State.objsKept [(0x2400, 0x0E)] s t ∧ t = { s with objs := t.objs, traffic := t.traffic } ∧ t.traffic.events = s.traffic.events) ∧
  (∀ (l : Fin 4096) (b : List Byte) (stamp epoch asn : Nat) (s : State), reportFormed b = true →
    ((leAt b 0 1 + 256 - s.card l.val 0x28) % 256 = 0 ∨ 128 < (leAt b 0 1 + 256 - s.card l.val 0x28) % 256) →
    ∃ t, exec (.countReport l b stamp epoch asn) s = .next t ∧ leAt (t.obj 0x2400 0x0E) 24 4 = (leAt (s.obj 0x2400 0x0E) 24 4 + 1) % 2 ^ 32 ∧
      State.objsKept [(0x2400, 0x0E)] s t ∧ t.traffic.events = s.traffic.events ∧ t.regs = s.regs ∧ t.mem = s.mem) ∧
  (∀ (l : Fin 4096) (b : List Byte) (stamp epoch asn base r : Nat) (s : State), reportFormed b = true → leAt b 1 1 = 1 →
    (leAt b 0 1 + 256 - s.card l.val 0x28) % 256 = 1 → Nat.testBit (leAt b 7 1) 1 = false → Nat.testBit (leAt b 7 1) 2 = false →
    Nat.testBit (s.card l.val 0x22) 1 = false → leAt b 13 1 / 2 % 8 < 6 →
    s.tMark (s.card l.val 5) (leAt b 2 5) = some base → s.tMark (s.card l.val 5) asn = some r →
    let p : Int := s.extend (s.stampCorrected stamp epoch)
    let at_ : Int := (base : Int) + leAt b 10 3 * 1000 + (p - r - s.rdF (Reg.MAC_TIMING (s.card l.val 5)) 11 0 * 1000)
    0 ≤ at_ → at_ ≤ p → (s.time.now : Int) ≤ at_ + s.objN 0x2400 3 * 1000000000 →
    ∃ t e, exec (.countReport l b stamp epoch asn) s = .next t ∧ t.traffic.events = s.traffic.events ++ [e] ∧ e.lantern = l.val ∧ (e.time : Int) = at_ ∧
      e.group = classGroup (leAt b 13 1 / 2 % 8) ∧ t.card l.val 0x28 = leAt b 0 1 ∧ t.card l.val 0x29 = (s.card l.val 0x29 + 1) % 2 ^ 32) ∧
  (∀ (l dir cls : Nat) (w v : CountWin) (s : State), s.traffic.wins = [w, v] → w.stop = v.start → v.start < v.stop →
    ((s.winCount l dir cls w.stop).traffic.wins)[0]? = some w) ∧
  (∀ (w : CountWin) (l : List CountWin) (s : State), s.traffic.wins = w :: l → w.stop + s.objN 0x2400 2 * 1000000000 ≤ s.time.now →
    ∃ t, exec .windowFinalise s = .next t ∧ (∀ z, z < 64 → t.obj (0x2410 + z) 5 = s.winRecord w z) ∧
      t.traffic.wins = s.winOpen.traffic.wins.tail ∧ t.traffic.bulk = s.traffic.bulk ++ (List.range 64).map (fun z => s.winRecord w z) ∧
      State.objsKept ((List.range 64).map (fun z => (0x2410 + z, 5))) s t ∧ t.regs = s.regs ∧ t.mem = s.mem) ∧
  (∀ s : State, s.coresRun = true → s.mode.mode = .day → s.held 0x2400 0x0C = false →
    (s.graphBuild.nodes = [] →
      ∃ t, exec (.graphCommit [1]) s = .next t ∧ t.objN 0x2400 0x0D = 0 ∧ t.traffic.newGraph = some s.graphBuild ∧ t.dict.status = 0 ∧ t.regs = s.regs) ∧
    (∀ n : GNode, s.graphBuild.nodes = [n] → n.lantern < 4096 → s.graphReason s.graphBuild n ≠ 0 →
      ∃ t, exec (.graphCommit [1]) s = .next t ∧ t.objN 0x2400 0x0D = n.lantern + s.graphReason s.graphBuild n * 65536 ∧
        t.traffic.newGraph = s.traffic.newGraph ∧ t.regs = s.regs)) ∧
  (∀ (links : List (Nat × Nat × Nat)) (s : State), (s.mode.mode = .islanded ∨ s.mode.mode = .standby) → exec (.edgeMessageSend links) s = .next s) ∧
  (∀ (links : List (Nat × Nat × Nat)) (s : State), s.mode.mode = .nightFollowing →
    ∃ t, exec (.edgeMessageSend links) s = .next t ∧
      t.traffic.sent.map (fun e => e.1) =
        (s.peers.filter (fun e => links.any (fun k => Nat.beq k.1 e && Nat.ble 2 k.2.1 && Nat.ble 1024 k.2.2))).flatMap
          (fun e => List.replicate (((s.peerPorts e).length + 15) / 16) (toLE 8 e)) ∧
      (∀ e ∈ t.traffic.sent, ∃ q v, e.2 = writeRequest q 0x2490 1 (s.eui ++ v)) ∧ t = { s with traffic := t.traffic }) ∧
  (∀ (v : List Byte) (s : State), s.coresRun = true → s.mode.mode = .nightFollowing → s.held 0x2490 1 = false → v.length = 80 → leAt v 10 1 = 1 →
    (s.edgeOk v = false →
      ∃ t, exec (.edgeIn v) s = .next t ∧ t.dict.status = 10 ∧ leAt (t.obj 0x2400 0x0E) 40 4 = (leAt (s.obj 0x2400 0x0E) 40 4 + 1) % 2 ^ 32 ∧
        State.objsKept [(0x2400, 0x0E)] s t ∧ t.traffic = s.traffic) ∧
    (s.edgeOk v = true →
      ∃ t, exec (.edgeIn v) s = .next t ∧ t.dict.status = 0 ∧ t.objN (0x2450 + edgePort v 0) 4 = 1 ∧ t.objN (0x2450 + edgePort v 0) 5 = leAt v 8 2 ∧
        t.regs = s.regs)) ∧
  (∀ (p : Fin 64) (since : Nat) (s : State), s.objN (0x2450 + p.val) 4 = 1 → s.traffic.heard = [(p.val, since)] →
    (since + s.objN 0x2400 0x0A * s.objN 0x2400 9 * 1000000 ≤ s.time.now →
      ∃ t, exec (.portStale p) s = .next t ∧ t.objN (0x2450 + p.val) 4 = 2 ∧
        State.objsKept [(0x2450 + p.val, 4), (0x2D00, 9)] s t ∧
        ∀ q ∈ t.traffic.inflow, q.1 ≠ p.val) ∧
    (s.time.now < since + s.objN 0x2400 0x0A * s.objN 0x2400 9 * 1000000 → exec (.portStale p) s = .next s))

/-! ## Light control (chapter 8) -/

/-- From R245, R249, R255, R259, R264, R266. A sample computed whole, not zeroed, with SAMPLE_DONE by its deadline, takes the last one's place, sets
DONE, clears the miss run, advances SAMPLE_SEQ, writes within the output half not in use alone and switches OUT_HALF while OUTPUT_EN is 1; a swap it
carried ends. Past its deadline SAMPLE_DONE changes nothing, and SAMPLE_MISSED abandons it, counted, OUT_HALF and memory unchanged; the eighth miss
in a row sets MISS_RUN and raises CTL_MISS. CTL_CTRL.SWAP by a resident initiator, none pending, is made pending, or refused where a selected class
lacks a valid set in the other bank. LIGHT_MAP_BUILD in a light-map mode with cohorts to serve advances MAP_SEQ and the deliveries, and (no cohort
using rings) queues 260-byte payloads with that MAP_SEQ; otherwise it changes nothing. Each completes. -/
def Obligations.SamplesCompleteOrAreMissed : Prop :=
  (∀ (t : Nat) (m : Sample) (s : State), s.ctl.sample = some m → s.fault.errorAddr = none → m.stages = [] → m.zeroed = none → m.dropped = 0 →
    max s.time.now t ≤ m.fire + s.rdF Reg.CTL_DEADLINE 19 0 * 1000 →
    ∃ u, exec (.sampleDone t) s = .next u ∧ u.ctl.core = m.core ∧ u.ctl.sample = none ∧ u.rdB Reg.CTL_STATUS 1 = false ∧
      u.rdB Reg.CTL_STATUS 4 = false ∧ u.rdF Reg.CTL_STATUS 15 8 = 0 ∧ u.rdB Reg.CTL_INT_STAT 0 = true ∧
      u.rd Reg.CTL_SAMPLE_SEQ = s.rd Reg.CTL_SAMPLE_SEQ + 1 ∧
      u.rdB Reg.CTL_STATUS 5 = (if s.rdB Reg.CTL_CTRL 1 then !s.rdB Reg.CTL_STATUS 5 else s.rdB Reg.CTL_STATUS 5) ∧
      u.rdB Reg.CTL_STATUS 2 = (if m.swapped then decide (m.core.bank = 1) else s.rdB Reg.CTL_STATUS 2) ∧
      (m.swapped = true → u.rdB Reg.CTL_STATUS 3 = false) ∧
      (∀ a, a < s.halfAddr (1 - b2n (s.rdB Reg.CTL_STATUS 5)) ∨ s.halfAddr (1 - b2n (s.rdB Reg.CTL_STATUS 5)) + 0x4000 ≤ a →
        u.rdMem a = s.rdMem a) ∧
      (∀ a, 0x40001000 ≤ a → a < 0x40090000 ∨ 0x400A0000 ≤ a → a < 0x40100000 ∨ 0x40120000 ≤ a → a ∉ [Reg.EVR_INT_STAT, Reg.SUP_ACTIVE] →
        u.rd a = s.rd a)) ∧
  (∀ (t : Nat) (m : Sample) (s : State), s.ctl.sample = some m → m.fire + s.rdF Reg.CTL_DEADLINE 19 0 * 1000 < max s.time.now t →
    exec (.sampleDone t) s = .next s) ∧
  (∀ (t : Nat) (m : Sample) (s : State), s.ctl.sample = some m → m.fire + s.rdF Reg.CTL_DEADLINE 19 0 * 1000 ≤ max s.time.now t →
    ∃ u, exec (.sampleMissed t) s = .next u ∧ u.ctl = { s.ctl with sample := none } ∧ u.rdB Reg.CTL_STATUS 4 = true ∧
      u.rdB Reg.CTL_STATUS 5 = s.rdB Reg.CTL_STATUS 5 ∧ u.rdF Reg.CTL_STATUS 15 8 = min 255 (s.rdF Reg.CTL_STATUS 15 8 + 1) ∧
      u.rdB Reg.CTL_INT_STAT 1 = true ∧ u.rd Reg.CTL_MISS_COUNT = s.rd Reg.CTL_MISS_COUNT + 1 ∧ u.mem = s.mem ∧
      (s.rdF Reg.CTL_STATUS 15 8 ≠ 7 → State.regsKept [Reg.CTL_STATUS, Reg.CTL_INT_STAT, Reg.CTL_MISS_COUNT] s u) ∧
      (s.rdF Reg.CTL_STATUS 15 8 = 7 → u.rdB Reg.CTL_INT_STAT 2 = true ∧ u.rdB Reg.SUP_HOIST 17 = true ∧ u.rdB Reg.SUP_ACTIVE 17 = true ∧
        State.regsKept [Reg.CTL_STATUS, Reg.CTL_INT_STAT, Reg.CTL_MISS_COUNT, Reg.EVR_INT_STAT, Reg.SUP_INT_STAT, Reg.SUP_HOIST, Reg.SUP_ACTIVE] s u)) ∧
  (∀ (ini : Initiator) (v : List Byte) (s : State), ini.resident = true → Nat.testBit (fromLE v) 2 = true → s.swapPending = false →
    (s.setLacks (1 - s.activeBank) = true →
      ∃ u, exec (.coeffSwap (some ini) v) s = .next u ∧ u.swapPending = false ∧ u.rdB Reg.CTL_INT_STAT 10 = true ∧
        State.regsKept [Reg.CTL_CTRL, Reg.CTL_INT_STAT] s u ∧ u = { s with regs := u.regs, bus := u.bus }) ∧
    (s.setLacks (1 - s.activeBank) = false →
      ∃ u, exec (.coeffSwap (some ini) v) s = .next u ∧ u.swapPending = true ∧ u.rdB Reg.CTL_CTRL 2 = true ∧ u.activeBank = s.activeBank ∧
        State.regsKept [Reg.CTL_CTRL, Reg.CTL_STATUS] s u ∧ u = { s with regs := u.regs, bus := u.bus })) ∧
  (∀ (asn : Nat) (s : State), lightMapMode s.mode.mode = false ∨ s.lmCohorts = [] → exec (.lightMapBuild asn) s = .next s) ∧
  (∀ (asn : Nat) (s : State), s.lmCohorts ≠ [] → lightMapMode s.mode.mode = true →
    ∃ u, exec (.lightMapBuild asn) s = .next u ∧ u.objN 0x2500 0x0D = (s.objN 0x2500 0x0D + 1) % 256 ∧
      u.ctl.deliveries = s.ctl.deliveries + 1 ∧ State.objsKept [(0x2500, 0x0D), (0x2500, 0x0E)] s u ∧
      ((∀ c, c < 4 → (s.mac c).rings = false) → u.regs = s.regs ∧ u.mem = s.mem ∧
        ∃ l, u.member.outbox = s.member.outbox ++ l ∧ ∀ x ∈ l, x.cohort ∈ s.lmCohorts ∧ x.type = 3 ∧ x.body.length = 260 ∧
          leAt x.body 1 1 = (s.objN 0x2500 0x0D + 1) % 256 ∧ leAt x.body 2 2 = (asn + (s.relayDepth + 1) * s.objN 0x2500 4 + 1) % 2 ^ 16))

/-- From R245. In the sample computed under the source OFF (SOURCE 0, or the reserved code 3), every lantern's level is 0 and it is in no hand-over,
whatever the laws, the targets and the time. -/
def Obligations.SourceOffDarkensEveryLantern : Prop :=
  ∀ (late : Bool) (s : State), (s.rdF Reg.CTL_CTRL 5 4 = 0 ∨ s.rdF Reg.CTL_CTRL 5 4 = 3) →
    ∀ e ∈ (s.ctlCompute late).core.lanterns, e.2.level = 0 ∧ e.2.handover = false

/-- From R252. For every class k, target t and last output y: the law's new output is t or y. It is t where t is 0 or the class's MAX_LEVEL, where t is
above y by more than the class's up band, or below y by more than its down band; otherwise it is y. -/
def Obligations.HysteresisHoldsWithinItsBands : Prop :=
  ∀ (k t y : Nat) (s : State),
    (s.hysteretic k t y = t ∨ s.hysteretic k t y = y) ∧
    ((t = 0 ∨ t = s.objN (0x2510 + k) 1 ∨ y + s.objN (0x2510 + k) 2 < t ∨ t + s.objN (0x2510 + k) 3 < y) → s.hysteretic k t y = t) ∧
    (t ≠ 0 → t ≠ s.objN (0x2510 + k) 1 → t ≤ y + s.objN (0x2510 + k) 2 → y ≤ t + s.objN (0x2510 + k) 3 → s.hysteretic k t y = y)

/-! ## Metering (chapter 9) -/

/-- From R273, R276, R277, R280, R283, R286, R287, R294, R297, R299. At the full rate a frame mark 62,750 ns late gives a flywheel frame 62,500 ns after
the last, counted; else that event changes nothing. With current only enabled a frame stands 500 µs after the last. An overrun is counted on its
input. Voltage metering running and no setting waiting: at a valid crossing the cycle ends, with its period, sequence and stamp, an ENERGY_RESET
that is due clearing the sixteen registers; at another crossing nothing changes; 1.2 nominal periods without one give a synthetic boundary one
nominal period on. A read of the latch answers the latched record's first word and keeps it as the reader's view. ENERGY_RESET in COMMISSION is due
at the next boundary, in DAY refused. An interval whose wait has passed is evaluated: its 50-byte result stands with its start and a verdict below
4, verdict 3 leaving the run and the last result; sooner, or in STANDBY, nothing changes. Each completes. -/
def Obligations.MeteringFramesCyclesAndIntervals : Prop :=
  (∀ (t p : Nat) (l : List (Option Int)) (s : State), s.lastFrame = some p →
    (s.fullRate = true → p + 62750 < max s.time.now t →
      ∃ u, exec (.flywheelFrame t l) s = .next u ∧ u.lastFrame = some (p + 62500) ∧ u.mtr.frames.length = s.mtr.frames.length + 1 ∧
        u.rd Reg.MTR_FLYWHEEL = s.rd Reg.MTR_FLYWHEEL + 1 ∧ u.rdB Reg.MTR_INT_STAT 6 = true ∧ u.rdB Reg.MTR_STATUS 5 = true ∧
        u.mem = s.mem ∧ u.mtr.boundary = s.mtr.boundary) ∧
    ((s.fullRate = false ∨ max s.time.now t ≤ p + 62750) → exec (.flywheelFrame t l) s = .next s) ∧
    (s.rdB Reg.MTR_CTRL 0 = true → s.rdB Reg.MTR_CTRL 1 = true →
      ∃ u, exec (.currentOnlyFrame l) s = .next u ∧ u.lastFrame = some (p + 500000) ∧ u.mtr.frames.length = s.mtr.frames.length + 1 ∧
        u.rd Reg.MTR_FLYWHEEL = s.rd Reg.MTR_FLYWHEEL ∧ u.mem = s.mem)) ∧
  (∀ (n : Fin 10) (s : State),
    ∃ u, exec (.modulatorOverrun n) s = .next u ∧ u.rdF (Reg.MTR_IN_STAT n.val) 15 0 = min 0xFFFF (s.rdF (Reg.MTR_IN_STAT n.val) 15 0 + 1) ∧
      u.rdB Reg.MTR_INT_STAT 3 = true ∧ State.regsKept [Reg.MTR_IN_STAT n.val, Reg.MTR_INT_STAT] s u ∧ State.objsKept [(0x2600, 0x11)] s u ∧
      u = { s with regs := u.regs, objs := u.objs, mtr := u.mtr }) ∧
  (∀ (t a : Nat) (est : Option (Int × Int)) (s : State), s.mtr.boundary = some a → s.rdB Reg.MTR_CTRL 0 = true → s.rdB Reg.MTR_CTRL 1 = false →
    s.mtr.stopped = false → s.mtr.stopAt = none → s.mtr.profileDue = none → (s.mtr.measured = false ∨ s.mtr.present.any id = true) →
    (s.crossingValid t = false → ∃ u, exec (.cycleBoundary t est) s = .next u ∧ u.mtr = s.mtr ∧ u.regs = s.regs ∧ u.objs = s.objs) ∧
    (s.crossingValid t = true → s.cal.armed = none → s.calGoes = false →
      ∃ u, exec (.cycleBoundary t est) s = .next u ∧ u.mtr.boundary = some t ∧ u.mtr.period = t - a ∧
        u.rd Reg.MTR_CYCLE_SEQ = s.rd Reg.MTR_CYCLE_SEQ + 1 ∧ (u.rd Reg.MTR_CYCLE_STAMP).toNat = t % 2 ^ 32 ∧
        (u.rd Reg.MTR_CYCLE_PERIOD).toNat = (t - a) % 2 ^ 32 ∧ u.rdB Reg.MTR_INT_STAT 0 = true ∧ u.mem = s.mem ∧
        (s.mtr.resetDue = true → ∀ k, k < 16 → u.objN (energyObj k).1 (energyObj k).2 = 0))) ∧
  (∀ (t a : Nat) (s : State), s.mtr.boundary = some a → s.rdB Reg.MTR_CTRL 0 = true → s.rdB Reg.MTR_CTRL 1 = false → s.mtr.stopped = false →
    s.mtr.stopAt = none → s.mtr.profileDue = none → s.cal.armed = none → s.calGoes = false → a * 10 + 12 * s.nominalPeriod ≤ max s.time.now t * 10 →
    ∃ u, exec (.syntheticBoundary t) s = .next u ∧ (u.mtr.boundary = some (a + s.nominalPeriod)) ∧
      (s.mtr.cycles + 1 < s.mtr.runN → Nat.testBit u.mtr.flags 7 = true) ∧ u.mem = s.mem) ∧
  (∀ s : State, ∃ u, exec (.latchView .sup) s = .next u ∧ (u.bus.readData).toNat = leAt s.mtr.latchRec 0 4 ∧
    u.mtr.views.find? (fun e => Nat.beq e.1 (Initiator.number .sup)) = some (Initiator.number .sup, s.mtr.latchRec) ∧
    (∀ e ∈ s.mtr.views, e.1 ≠ Initiator.number .sup → e ∈ u.mtr.views) ∧ u = { s with mtr := u.mtr, bus := u.bus }) ∧
  (∀ s : State, s.coresRun = true → s.mode.mode = .commission → s.held 0x2600 0x0A = false →
    ∃ u, exec (.energyReset [1]) s = .next u ∧ u.dict.status = 0 ∧ u.mtr.resetDue = true ∧ u.mem = s.mem ∧
      (∀ k, k < 16 → u.objN (energyObj k).1 (energyObj k).2 = s.objN (energyObj k).1 (energyObj k).2)) ∧
  (∀ s : State, s.coresRun = true → s.mode.mode = .day → ∃ u, exec (.energyReset [1]) s = .next u ∧ u.dict.status = 8 ∧ u.mtr = s.mtr) ∧
  (∀ (start : Nat) (s : State), s.mode.mode ≠ .standby → s.mode.mode ≠ .starting → start % (s.objN 0x2650 1 * 1000000000) = 0 →
    start + s.objN 0x2650 1 * 1000000000 + s.objN 0x2650 2 * 1000000000 ≤ s.time.now →
    ∃ u, exec (.reconciliation start) s = .next u ∧ (u.obj 0x2650 0x0A).length = 50 ∧ slice (u.obj 0x2650 0x0A) 0 10 = time80 start ∧
      leAt (u.obj 0x2650 0x0A) 10 1 < 4 ∧ (leAt (u.obj 0x2650 0x0A) 10 1 = 3 → u.mtr.reconRun = s.mtr.reconRun ∧ u.obj 0x2650 0x0B = s.obj 0x2650 0x0B) ∧
      (∀ a ∈ u.mtr.accs, a.start ≠ start) ∧ u.mem = s.mem) ∧
  (∀ (start : Nat) (s : State), (s.mode.mode = .standby ∨ s.time.now < start + s.objN 0x2650 1 * 1000000000 + s.objN 0x2650 2 * 1000000000) →
    exec (.reconciliation start) s = .next s)

/-- From R284, R285. For a register pair (one of the four active or the four reactive pairs) and any net energy, booked with the twenty carries in
place: the register of the energy's direction and its carry grow together by exactly the energy, the register wrapping at 2^64 and the carry staying
below 1 µWh; the other direction's register and carry keep their values. -/
def Obligations.NetEnergyIsBookedWholeToOneDirection : Prop :=
  ∀ (pair : Nat) (e : Int) (s : State), (pair < 4 ∨ (8 ≤ pair ∧ pair < 12)) → s.mtr.carries.length = 20 →
    let up := if 0 ≤ e then pair else pair + 4
    let down := if 0 ≤ e then pair + 4 else pair
    let t := s.bookNet pair e
    t.objN (energyObj down).1 (energyObj down).2 = s.objN (energyObj down).1 (energyObj down).2 ∧
    t.mtr.carries.getD down 0 = s.mtr.carries.getD down 0 ∧
    t.mtr.carries.getD up 0 < microWh ∧
    t.objN (energyObj up).1 (energyObj up).2 =
      (s.objN (energyObj up).1 (energyObj up).2 + (s.mtr.carries.getD up 0 + e.natAbs) / microWh) % 2 ^ 64 ∧
    t.mtr.carries.getD up 0 = (s.mtr.carries.getD up 0 + e.natAbs) % microWh

/-! ## The cabinet bus (chapter 10) -/

/-- From R303, R304, R307, R308, R309, R310, R312, R313, R323. A frame on a controller that is not on its bus changes nothing. One received whole with
the queue running and below 16: its FIFO below 64 elements stores its 80-byte element; at 64 it is counted lost; a stalled queue holds it, and one
at 16 drops and counts it. A frame in error raises the receive error count. A release frees the COUNT oldest elements. TX_REQUEST makes its buffers
pending, others unchanged; under listen-only it returns one as refused, 3. TX_CANCEL returns a pending buffer, 1, or marks one that has begun; one
not pending is untouched. A frame that may begin and ends well returns its buffer SENT with its attempts and stamp, the transmit error count one
lower; lost arbitration and an error leave it pending, an error adding 8 below 248. New rates return every pending buffer; listen-only follows its
bit, returning them when set. Bus-off recovery, asked for, zeroes the error counts. Each completes. -/
def Obligations.CabinetFramesAreStoredSentAndReturned : Prop :=
  (∀ (b : Fin 2) (f : CanFrame) (err count t : Nat) (s : State), s.canOn b.val = false → exec (.canReceive b f err count t) s = .next (s.upTo t)) ∧
  (∀ (b k : Fin 2) (e : Nat) (f : CanFrame) (count t : Nat) (s : State), s.canOn b.val = true →
    (s.queue (24 + b.val)).hold = false → (s.queue (24 + b.val)).stallRead = false → (s.queue (24 + b.val)).stallWrite = false →
    ((s.queue (24 + b.val)).seeReads 4 16).wcount 4 < 16 →
    (s.canRoute b.val f = (e, k.val + 1) ∨ (k.val = 1 ∧ s.canRoute b.val f = (e, 3))) →
    let a := fifoStat b.val k.val
    (s.rdF a 6 0 ≠ 64 →
      ∃ u, exec (.canReceive b f 0 count t) s = .next u ∧ u.rdF a 6 0 = (s.rdF a 6 0 + 1) % 128 ∧ u.rdF a 21 16 = (s.rdF a 21 16 + 1) % 64 ∧
        u.rdF a 13 8 = s.rdF a 13 8 ∧ u.rdB (Reg.CAN_INT_STAT b.val) k.val = true ∧
        ((s.canRoute b.val f).2 = 3 → u.rdB (Reg.CAN_INT_STAT b.val) 16 = true) ∧
        u.canBytes b.val (0xA400 + 0x1400 * k.val + 80 * s.rdF a 21 16) 80 = (s.upTo t).rxElement b.val e f count) ∧
    (s.rdF a 6 0 = 64 →
      ∃ u, exec (.canReceive b f 0 count t) s = .next u ∧ u.rd a = s.rd a ∧ u.rdB (Reg.CAN_INT_STAT b.val) (2 + k.val) = true ∧
        u.rdF (Reg.CAN_FIFO_LOST b.val) (16 * k.val + 15) (16 * k.val) =
          min 0xFFFF (s.rdF (Reg.CAN_FIFO_LOST b.val) (16 * k.val + 15) (16 * k.val) + 1) ∧
        State.regsKept [Reg.CAN_INT_STAT b.val, Reg.CAN_FIFO_LOST b.val, Reg.CAN_ERR b.val, Reg.CAN_STATUS b.val] s u)) ∧
  (∀ (b : Fin 2) (f : CanFrame) (count t : Nat) (s : State), s.canOn b.val = true → (s.queue (24 + b.val)).hold = false →
    (16 ≤ ((s.queue (24 + b.val)).seeReads 4 16).wcount 4 →
      ∃ u, exec (.canReceive b f 0 count t) s = .next u ∧ u.rd (Reg.CAN_RX_DROP b.val) = s.rd (Reg.CAN_RX_DROP b.val) + 1 ∧
        u.rdB (Reg.CAN_INT_STAT b.val) 12 = true ∧
        State.regsKept [Reg.CAN_RX_DROP b.val, Reg.CAN_INT_STAT b.val, Reg.CAN_ERR b.val, Reg.CAN_STATUS b.val] s u ∧ u.can = s.can) ∧
    (s.shaped → ((s.queue (24 + b.val)).seeReads 4 16).wcount 4 < 16 → (s.queue (24 + b.val)).offered = none →
      ((s.queue (24 + b.val)).stallRead = true ∨ (s.queue (24 + b.val)).stallWrite = true) →
      ∃ u, exec (.canReceive b f 0 count t) s = .next u ∧ (u.ctl_ b.val).held = (s.ctl_ b.val).held ++ [(f, count)] ∧
        State.regsKept [Reg.CAN_ERR b.val, Reg.CAN_STATUS b.val, Reg.CAN_INT_STAT b.val] s u)) ∧
  (∀ (b : Fin 2) (f : CanFrame) (err count t : Nat) (s : State), err ≠ 0 → s.canOn b.val = true → (s.queue (24 + b.val)).hold = false →
    s.canListens b.val = false →
    ∃ u, exec (.canReceive b f err count t) s = .next u ∧ u.rdF (Reg.CAN_ERR b.val) 15 8 = min 255 (s.rdF (Reg.CAN_ERR b.val) 15 8 + err) ∧
      State.regsKept [Reg.CAN_ERR b.val, Reg.CAN_STATUS b.val, Reg.CAN_INT_STAT b.val] s u ∧ u = { s.upTo t with regs := u.regs }) ∧
  (∀ (ini : Initiator) (b k : Fin 2) (v : Word) (s : State), ini.resident = true →
    let a := fifoStat b.val k.val
    ∃ u, exec (.fifoRelease ini b k v) s = .next u ∧ u.rdF a 6 0 = s.rdF a 6 0 - min (fld v 6 0) (s.rdF a 6 0) ∧
      u.rdF a 13 8 = (s.rdF a 13 8 + min (fld v 6 0) (s.rdF a 6 0)) % 64 ∧ u.rdF a 21 16 = s.rdF a 21 16 ∧
      State.regsKept [a] s u ∧ u = { s with regs := u.regs, bus := u.bus }) ∧
  (∀ (ini : Initiator) (b : Fin 2) (hi : Bool) (v : Word) (s : State), ini.resident = true → s.canListens b.val = false →
    ∃ u, exec (.txRequest ini b hi v) s = .next u ∧ (∀ m ∈ bufsOf hi v, u.bufPending b.val m = true) ∧
      (∀ m, m < 64 → m ∉ bufsOf hi v → u.bufPending b.val m = s.bufPending b.val m) ∧
      State.regsKept [bufReg b.val 0x40 0, bufReg b.val 0x40 32] s u ∧ u = { s with regs := u.regs, can := u.can, bus := u.bus }) ∧
  (∀ (ini : Initiator) (b : Fin 2) (hi : Bool) (m : Nat) (v : Word) (s : State), s.shaped → ini.resident = true → bufsOf hi v = [m] →
    (s.ctl_ b.val).waiting = [] →
    (s.canListens b.val = true → s.bufPending b.val m = false →
      ∃ u, exec (.txRequest ini b hi v) s = .next u ∧ u.bufPending b.val m = false ∧ fld (u.bufWord b.val m 19) 3 0 = 3 ∧
        u.rdB (bufReg b.val 0x50 m) (m % 32) = true ∧ u.rdB (Reg.CAN_INT_STAT b.val) 5 = true) ∧
    (s.bufPending b.val m = true →
      (∃ u, exec (.txCancel ini b hi v none) s = .next u ∧ u.bufPending b.val m = false ∧ fld (u.bufWord b.val m 19) 3 0 = 1 ∧
        u.rdB (bufReg b.val 0x50 m) (m % 32) = true ∧ u.rdB (Reg.CAN_INT_STAT b.val) 5 = true ∧
        ∀ k, k < 64 → k ≠ m → u.bufPending b.val k = s.bufPending b.val k) ∧
      (∀ h : m < 64, ∃ u, exec (.txCancel ini b hi v (some ⟨m, h⟩)) s = .next u ∧ u.bufPending b.val m = true ∧
        u.rdB (bufReg b.val 0x48 m) (m % 32) = true ∧ State.regsKept [bufReg b.val 0x48 m] s u)) ∧
    (∀ g, s.bufPending b.val m = false → ∃ u, exec (.txCancel ini b hi v g) s = .next u ∧ u.regs = s.regs ∧ u.can = s.can)) ∧
  (∀ (b : Fin 2) (m : Fin 64) (count t : Nat) (s : State), s.shaped → (s.ctl_ b.val).waiting = [] →
    (s.upTo t).mayBegin b.val m.val count ((s.upTo t).frameStart b.val count t) = true → s.rdB (bufReg b.val 0x48 m.val) (m.val % 32) = false →
    (∃ u, exec (.frameTransmitted b m 0 count t) s = .next u ∧ u.bufPending b.val m.val = false ∧ fld (u.bufWord b.val m.val 19) 3 0 = 0 ∧
      fld (u.bufWord b.val m.val 19) 15 8 = min 255 (getKey m.val 0 (s.ctl_ b.val).attempts + 1) ∧
      (u.bufWord b.val m.val 18).toNat = ((s.upTo t).canStamp b.val count).1 ∧ u.rdB (bufReg b.val 0x50 m.val) (m.val % 32) = true ∧
      u.rdF (Reg.CAN_ERR b.val) 7 0 = s.rdF (Reg.CAN_ERR b.val) 7 0 - 1) ∧
    (s.aon.flushing = false → ∃ u, exec (.frameTransmitted b m 1 count t) s = .next u ∧ u.bufPending b.val m.val = true ∧ u.rd (Reg.CAN_ERR b.val) = s.rd (Reg.CAN_ERR b.val) ∧
      getKey m.val 0 (u.ctl_ b.val).attempts = getKey m.val 0 (s.ctl_ b.val).attempts + 1) ∧
    (s.aon.flushing = false → s.rdF (Reg.CAN_ERR b.val) 7 0 < 248 →
      ∃ u, exec (.frameTransmitted b m 2 count t) s = .next u ∧ u.bufPending b.val m.val = true ∧
        u.rdF (Reg.CAN_ERR b.val) 7 0 = s.rdF (Reg.CAN_ERR b.val) 7 0 + 8)) ∧
  (∀ (b : Fin 2) (s : State), s.shaped → (s.ctl_ b.val).ratesDue = true →
    ∃ u, exec (.bitRateChange b) s = .next u ∧ (u.ctl_ b.val).ratesDue = false ∧ (∀ m, m < 64 → u.bufPending b.val m = false) ∧
      (∀ m, m < 64 → s.bufPending b.val m = true → fld (u.bufWord b.val m 19) 3 0 = 1) ∧ u.mem = s.mem ∧ u.objs = s.objs) ∧
  (∀ (b : Fin 2) (s : State), s.shaped → s.rdB (Reg.CAN_CTRL b.val) 1 ≠ s.canListens b.val →
    ∃ u, exec (.listenOnly b) s = .next u ∧ u.canListens b.val = s.rdB (Reg.CAN_CTRL b.val) 1 ∧
      (s.rdB (Reg.CAN_CTRL b.val) 1 = true → ∀ m, m < 64 → u.bufPending b.val m = false) ∧
      (s.rdB (Reg.CAN_CTRL b.val) 1 = false → State.regsKept [Reg.CAN_STATUS b.val] s u) ∧ u.mem = s.mem) ∧
  (∀ (b : Fin 2) (s : State), s.rdF (Reg.CAN_STATUS b.val) 1 0 = 2 →
    (s.rdB (Reg.CAN_CTRL b.val) 8 = true ∨ (s.ctl_ b.val).recover = true) →
    ∃ u, exec (.busOffRecovery b) s = .next u ∧ u.rdF (Reg.CAN_STATUS b.val) 1 0 = 0 ∧ u.rdF (Reg.CAN_ERR b.val) 15 0 = 0 ∧
      State.regsKept [Reg.CAN_STATUS b.val, Reg.CAN_ERR b.val, Reg.SUP_ACTIVE] s u)

/-- From R314, R315, R316, R319, R320, R321, R322. A column whose cycle time has come is in force. Core 0's commit of a staged table with a fault is
refused with the first reason; of a good one on an enabled controller it waits. The current master's Bell, late or on the grid, starts the next
basic cycle and remains its own; late sets its flag. A receiver that is not the master, or of a PRIORITY not below the sender's, follows a Bell: its
cycle, its priority, not silent, synchronised, no longer master; a master ignores a lower one. A backup whose wait has passed becomes master. A
synchronised follower whose allowance has passed loses synchronisation with its flag and shows silent. A silent cycle of a controller without timing
begins with its flag and marks a new reference. Each completes. -/
def Obligations.TimetableAndBell : Prop :=
  (∀ (b : Fin 2) (c : Fin 32) (count t : Nat) (s : State), s.shaped → s.canTimed b.val = true → c.val < (s.ctl_ b.val).table.cols.length →
    80 * (s.ctl_ b.val).table.cols.getD c.val 0 ≤ countsSince (s.ctl_ b.val).cycleCount count →
    ∃ u, exec (.columnStart b c count t) s = .next u ∧ (u.ctl_ b.val).column = some c.val ∧ u = { s.upTo t with can := u.can }) ∧
  (∀ (b : Fin 2) (s : State), s.tableBad b.val (s.tableStaged b.val) ≠ 0 →
    ∃ u, exec (.timetableCommit .app0 b) s = .next u ∧ u.rdB (Reg.CAN_SCHED_CTRL b.val) 1 = true ∧
      u.rdF (Reg.CAN_SCHED_CTRL b.val) 7 4 = s.tableBad b.val (s.tableStaged b.val) ∧ u.rdB (Reg.CAN_INT_STAT b.val) 14 = true ∧ u.can = s.can ∧
      State.regsKept [Reg.CAN_SCHED_CTRL b.val, Reg.CAN_INT_STAT b.val] s u) ∧
  (∀ (b : Fin 2) (s : State), s.tableBad b.val (s.tableStaged b.val) = 0 → s.rdB (Reg.CAN_CTRL b.val) 0 = true →
    ∃ u, exec (.timetableCommit .app0 b) s = .next u ∧ u.rdB (Reg.CAN_SCHED_CTRL b.val) 0 = true ∧ u.can = s.can ∧
      State.regsKept [Reg.CAN_SCHED_CTRL b.val] s u) ∧
  (∀ (b : Fin 2) (late : Bool) (count t : Nat) (s : State), s.shaped → s.canSends b.val = true → s.rdB (Reg.CAN_CTRL b.val) 2 = true →
    s.rdB (Reg.CAN_STATUS b.val) 4 = true → (s.ctl_ b.val).table.cycles ≤ 64 → 0 < (s.ctl_ b.val).table.cycles →
    (late = true ∨ (s.ctl_ b.val).onGrid (s.ctl_ b.val).nextShift t = true) →
    ∃ u, exec (.bellSend b late count t) s = .next u ∧ u.rdF (Reg.CAN_STATUS b.val) 13 8 = s.nextCycle b.val ∧
      u.rdF (Reg.CAN_BELL_STAT b.val) 5 0 = s.nextCycle b.val ∧ u.rdB (Reg.CAN_STATUS b.val) 4 = true ∧
      u.rdB (Reg.CAN_INT_STAT b.val) 6 = true ∧ (late = true → u.rdB (Reg.CAN_INT_STAT b.val) 7 = true) ∧
      (u.ctl_ b.val).ownBell = some t ∧ (u.ctl_ b.val).cycleCount = count ∧ (u.rd (Reg.CAN_MARK_STAMP b.val)).toNat = t % 2 ^ 32) ∧
  (∀ (b : Fin 2) (pr : Fin 8) (payload : List (BitVec 8)) (count t : Nat) (s : State), s.shaped → s.canOn b.val = true →
    s.rdB (Reg.CAN_CTRL b.val) 2 = true →
    (s.rdB (Reg.CAN_STATUS b.val) 4 = false ∨ pr.val ≤ s.rdF (Reg.CAN_CTRL b.val) 7 5) →
    ∃ u, exec (.bellReceive b pr payload count t) s = .next u ∧ u.rdF (Reg.CAN_BELL_STAT b.val) 5 0 = leAt payload 0 1 % 64 ∧
      u.rdF (Reg.CAN_BELL_STAT b.val) 10 8 = pr.val ∧ u.rdB (Reg.CAN_BELL_STAT b.val) 11 = false ∧
      u.rdB (Reg.CAN_STATUS b.val) 3 = true ∧ u.rdB (Reg.CAN_STATUS b.val) 4 = false ∧
      u.rdF (Reg.CAN_STATUS b.val) 13 8 = leAt payload 0 1 % 64 ∧ (u.ctl_ b.val).cycleCount = count) ∧
  (∀ (b : Fin 2) (pr : Fin 8) (payload : List (BitVec 8)) (count t : Nat) (s : State), s.rdB (Reg.CAN_STATUS b.val) 4 = true →
    s.rdF (Reg.CAN_CTRL b.val) 7 5 < pr.val → exec (.bellReceive b pr payload count t) s = .next (s.upTo t)) ∧
  (∀ (b : Fin 2) (count t : Nat) (s : State), s.shaped → s.canSends b.val = true → s.rdB (Reg.CAN_CTRL b.val) 2 = true →
    s.rdB (Reg.CAN_STATUS b.val) 3 = true → s.bellRole b.val ≠ 0 →
    80 * ((s.ctl_ b.val).table.len + s.objN 0x2700 0x0C) ≤ countsSince (s.ctl_ b.val).cycleCount count →
    ∃ u, exec (.bellReplace b count t) s = .next u ∧ u.rdB (Reg.CAN_STATUS b.val) 4 = true ∧ u.rdB (Reg.CAN_STATUS b.val) 3 = false ∧
      u.rdF (Reg.CAN_BELL_STAT b.val) 10 8 = s.rdF (Reg.CAN_CTRL b.val) 7 5 ∧ (u.ctl_ b.val).ownBell = some t) ∧
  (∀ (b : Fin 2) (t a : Nat) (s : State), (s.ctl_ b.val).cycleAt = some a → s.rdB (Reg.CAN_STATUS b.val) 3 = true →
    a * 2 + ((s.ctl_ b.val).table.len + 2 * s.objN 0x2700 0x0C) * 2000 +
        s.canDuration b.val { id := 0, brs := false, data := List.replicate 12 0 } * 25 ≤ 2 * max s.time.now t →
    ∃ u, exec (.bellLoss b t) s = .next u ∧ u.rdB (Reg.CAN_STATUS b.val) 3 = false ∧ u.rdB (Reg.CAN_INT_STAT b.val) 8 = true ∧
      u.rdB (Reg.CAN_BELL_STAT b.val) 11 = true ∧ State.regsKept [Reg.CAN_STATUS b.val, Reg.CAN_INT_STAT b.val, Reg.CAN_BELL_STAT b.val] s u) ∧
  (∀ (b : Fin 2) (count t : Nat) (s : State), s.shaped → s.rdB (Reg.CAN_CTRL b.val) 0 = true → s.clockPresent .canf = true →
    s.canTimed b.val = false → ((s.ctl_ b.val).mark = none ∨ 80 * (s.ctl_ b.val).table.len ≤ countsSince (s.ctl_ b.val).cycleCount count) →
    ∃ u, exec (.silentBasicCycleStart b count t) s = .next u ∧ (u.rd (Reg.CAN_MARK_STAMP b.val)).toNat = t % 2 ^ 32 ∧
      u.rdB (Reg.CAN_INT_STAT b.val) 6 = true ∧ (u.ctl_ b.val).cycleCount = count ∧ (u.ctl_ b.val).mark = some (count, t % 2 ^ 32, s.time.epoch))

/-- From R324, R326, R327, R328. A partial message whose fragment is more than 100 ms late is dropped and counted, not sooner. ROLL_CALL on a whole
second, in a mode that calls, takes the second as its round and opens the window, no object changing; in STANDBY or between seconds it calls none. A
PRESENT of this round and key generation, of an entry that is ASSIGNED or beyond, within 200 ms and its MIC right marks its bus's answer and makes
the entry PRESENT; a wrong MIC is counted alone; a late one changes no entry. The window's end, 200 ms after, writes the answers and makes an entry
without one ABSENT at the limit of misses. An ANNOUNCE of an unknown EUI-64, of a wrong MIC, with a counter not above the entry's, or of an entry
not accepted (its counter kept) advances that count; an accepted one makes the entry ASSIGNED with the next KEY_GEN, its counter kept, and no
session or link of the node remaining. Each completes. -/
def Obligations.RollCallFindsThePeripherals : Prop :=
  (∀ (b : Fin 2) (node t : Nat) (p : Partial) (s : State), s.shaped → (s.ctl_ b.val).partials = [p] → p.node = node →
    (p.at_ + 100000000 < max s.time.now t →
      ∃ u, exec (.fragmentTimeout b node t) s = .next u ∧ (u.ctl_ b.val).partials = [] ∧
        leAt (u.obj (0x2710 + b.val) 4) 4 4 = (leAt (s.obj (0x2710 + b.val) 4) 4 4 + 1) % 2 ^ 32 ∧
        State.objsKept [(0x2710 + b.val, 4)] s u ∧ u.regs = s.regs) ∧
    (max s.time.now t ≤ p.at_ + 100000000 → exec (.fragmentTimeout b node t) s = .next (s.upTo t))) ∧
  (∀ (t : Nat) (s : State), t % 1000000000 = 0 → s.mode.mode ≠ .standby → s.mode.mode ≠ .starting → s.mode.mode ≠ .batteryWatch →
    s.mode.mode ≠ .deepSleep →
    ∃ u, exec (.rollCall t) s = .next u ∧ u.can.round = t / 1000000000 % 2 ^ 32 ∧ u.can.rollOpen = some t ∧ u.can.answers = [] ∧
      u.objs = s.objs ∧ u.mem = s.mem ∧
      ∀ b, b < 2 → s.canSends b = false → ∀ m, m < 64 → u.bufPending b m = s.bufPending b m) ∧
  (∀ (t : Nat) (s : State), (t % 1000000000 ≠ 0 ∨ s.mode.mode = .standby) → exec (.rollCall t) s = .next (s.upTo t)) ∧
  (∀ (b : Fin 2) (node t c : Nat) (body : List (BitVec 8)) (s : State), 1 ≤ node → node ≤ 126 → (s.ctl_ b.val).callAt = some c →
    leAt body 0 4 = s.can.round → leAt body 5 1 = s.entry node 6 → 2 ≤ s.entry node 3 →
    (t ≤ c + 200000000 → s.chainCheck 24 = .ok → slice body 8 8 = s.presentMic node body →
      ∃ u, exec (.rollPresent b node body t) s = .next u ∧ getKey node 0 u.can.answers = getKey node 0 s.can.answers ||| 2 ^ b.val ∧
        ((s.entry node 3 = 2 ∨ s.entry node 3 = 4) → u.entry node 3 = 3) ∧ u.obj (0x2780 + node) 7 = time80 (max s.time.now t) ∧
        State.objsKept [(0x2780 + node, 3), (0x2780 + node, 7)] s u ∧ u.regs = s.regs) ∧
    ((s.chainCheck 24 ≠ .ok ∨ slice body 8 8 ≠ s.presentMic node body) → ∃ u, exec (.rollPresent b node body t) s = .next u ∧
      leAt (u.obj (0x2710 + b.val) 4) 24 4 = (leAt (s.obj (0x2710 + b.val) 4) 24 4 + 1) % 2 ^ 32 ∧ State.objsKept [(0x2710 + b.val, 4)] s u ∧
      u.can = s.can) ∧
    (c + 200000000 < t → ∃ u, exec (.rollPresent b node body t) s = .next u ∧ u.can = s.can ∧ u.entry node 3 = s.entry node 3)) ∧
  (∀ (t r : Nat) (s : State), s.can.rollOpen = some r → r + 200000000 ≤ max s.time.now t →
    ∃ u, exec (.answerWindowEnd t) s = .next u ∧ u.can.rollOpen = none ∧ u.can.answers = [] ∧
      (∀ p, 1 ≤ p → p ≤ 126 → 2 ≤ s.entry p 3 → u.entry p 4 = getKey p 0 s.can.answers % 256) ∧
      (∀ p, 1 ≤ p → p ≤ 126 → (s.entry p 3 = 2 ∨ s.entry p 3 = 3) → getKey p 0 s.can.answers = 0 →
        s.objN 0x2700 0x0E ≤ getKey p 0 s.can.misses + 1 → u.entry p 3 = 4)) ∧
  (∀ (t : Nat) (s : State), s.can.rollOpen = none → exec (.answerWindowEnd t) s = .next (s.upTo t)) ∧
  (∀ (b : Fin 2) (body : List (BitVec 8)) (s : State),
    (∀ q, 1 ≤ q → q ≤ 126 → 1 ≤ s.entry q 3 → s.obj (0x2780 + q) 1 ≠ slice body 0 8) →
    ∃ u, exec (.announce b body) s = .next u ∧
      leAt (u.obj (0x2710 + b.val) 4) 8 4 = (leAt (s.obj (0x2710 + b.val) 4) 8 4 + 1) % 2 ^ 32 ∧ State.objsKept [(0x2710 + b.val, 4)] s u ∧
      u = { s with objs := u.objs }) ∧
  (∀ (b : Fin 2) (p : Nat) (body : List (BitVec 8)) (s : State),
    (upFrom 1 126).find? (fun q => Nat.ble 1 (s.entry q 3) && decide (s.obj (0x2780 + q) 1 = slice body 0 8)) = some p →
    ((s.chainCheck 1 ≠ .ok ∨ slice body 12 8 ≠ s.announceMic p body) → ∃ u, exec (.announce b body) s = .next u ∧
      leAt (u.obj (0x2710 + b.val) 4) 12 4 = (leAt (s.obj (0x2710 + b.val) 4) 12 4 + 1) % 2 ^ 32 ∧ State.objsKept [(0x2710 + b.val, 4)] s u) ∧
    (s.chainCheck 1 = .ok → slice body 12 8 = s.announceMic p body → leAt body 10 2 ≤ s.entry p 8 →
      ∃ u, exec (.announce b body) s = .next u ∧
        leAt (u.obj (0x2710 + b.val) 4) 16 4 = (leAt (s.obj (0x2710 + b.val) 4) 16 4 + 1) % 2 ^ 32 ∧ State.objsKept [(0x2710 + b.val, 4)] s u) ∧
    (s.chainCheck 1 = .ok → slice body 12 8 = s.announceMic p body → s.entry p 8 < leAt body 10 2 → s.objN 0x2700 0x0D = 0 → s.entry p 3 = 1 →
      ∃ u, exec (.announce b body) s = .next u ∧ u.entry p 8 = leAt body 10 2 ∧
        leAt (u.obj (0x2710 + b.val) 4) 20 4 = (leAt (s.obj (0x2710 + b.val) 4) 20 4 + 1) % 2 ^ 32 ∧
        State.objsKept [(0x2710 + b.val, 4), (0x2780 + p, 8)] s u) ∧
    (s.chainCheck 1 = .ok → s.chainCheck 24 = .ok → slice body 12 8 = s.announceMic p body → s.entry p 8 < leAt body 10 2 →
      (s.objN 0x2700 0x0D ≠ 0 ∨ 2 ≤ s.entry p 3) →
      ∃ u, exec (.announce b body) s = .next u ∧ u.entry p 3 = 2 ∧ u.entry p 6 = (s.entry p 6 + 1) % 256 ∧ u.entry p 8 = leAt body 10 2 ∧
        u.nodeSessions p = [] ∧ (∀ e ∈ u.dict.links, e.node ≠ p) ∧
        State.objsKept [(0x2780 + p, 3), (0x2780 + p, 5), (0x2780 + p, 6), (0x2780 + p, 8)] s u))

/-! ## Ring ports and DMA (chapter 11) -/

/-- From R334, R335, R347, R495. An inserted optic is present, shows compliance by its two bits, is disabled where it is not compliant and others are
not allowed, and its 96 bytes stand in its object. A removal disables the transmitter, drops the link and clears the identity and diagnosis. A
diagnosis is stored and an overcurrent switches the cage off and drops the link while an optic is present; else neither changes anything. LINK_UP of
an enabled port with its clock, an optic and its supply links it, a change being flagged and shown; LINK_DOWN unlinks it with loss of signal as
given, a change being flagged, shown, raised in the hoist, counted, and a frame cut in reception or transmission counted. The enabled maintenance
port takes the speed found, its link and mode changing with it; disabled by its object it shows none. Each completes. -/
def Obligations.OpticsAndLinks : Prop :=
  (∀ (p : Fin 2) (id : List (BitVec 8)) (s : State),
    let ok := Nat.testBit (leAt id 3 1) 4 || Nat.testBit (leAt id 3 1) 5
    ∃ u, exec (.opticInsert p id) s = .next u ∧ u.rdB (Reg.NET_SFP p.val) 0 = true ∧ u.rdB (Reg.NET_SFP p.val) 4 = ok ∧
      u.rdB (Reg.NET_SFP p.val) 3 = (!ok && decide (s.objN 0x2800 9 ≠ 1)) ∧ u.rdB Reg.NET_INT_STAT 2 = true ∧
      u.obj (0x2810 + p.val) 2 = padTo 96 id ∧ State.regsKept [Reg.NET_SFP p.val, Reg.NET_INT_STAT] s u ∧
      State.objsKept [(0x2810 + p.val, 2)] s u ∧ u = { s with regs := u.regs, objs := u.objs, net := u.net }) ∧
  (∀ (p : Fin 2) (rx tx : Bool) (s : State),
    ∃ u, exec (.opticRemove p rx tx) s = .next u ∧ u.rdB (Reg.NET_SFP p.val) 0 = false ∧ u.rdB (Reg.NET_SFP p.val) 3 = true ∧
      u.rdB (Reg.NET_SFP p.val) 4 = false ∧ u.rdB Reg.NET_INT_STAT 2 = true ∧ u.linked p.val = false ∧ u.cageIsOff p.val = false ∧
      u.obj (0x2810 + p.val) 2 = List.replicate 96 0 ∧ u.obj (0x2810 + p.val) 3 = List.replicate 10 0 ∧ u.mem = s.mem) ∧
  (∀ (p : Fin 2) (diag : List (BitVec 8)) (s : State),
    (s.rdB (Reg.NET_SFP p.val) 0 = true →
      ∃ u, exec (.opticDiagRead p diag) s = .next u ∧ u.obj (0x2810 + p.val) 3 = padTo 10 diag ∧ State.objsKept [(0x2810 + p.val, 3)] s u ∧
        u = { s with objs := u.objs }) ∧
    (s.rdB (Reg.NET_SFP p.val) 0 = false → exec (.opticDiagRead p diag) s = .next s ∧ ∀ rx tx, exec (.sfpOvercurrent p rx tx) s = .next s) ∧
    (s.rdB (Reg.NET_SFP p.val) 0 = true → s.net.cageOff.length = 2 →
      ∀ rx tx, ∃ u, exec (.sfpOvercurrent p rx tx) s = .next u ∧ u.cageIsOff p.val = true ∧ u.linked p.val = false ∧ u.rdB (Reg.NET_SFP p.val) 0 = true)) ∧
  (∀ (p : Fin 2) (s : State), s.rdB Reg.NET_CTRL p.val = true → s.clockPresent (portDomain p.val) = true → s.rdB (Reg.NET_SFP p.val) 0 = true →
    s.cageIsOff p.val = false →
    ∃ u, exec (.linkUp p) s = .next u ∧ u.linked p.val = true ∧ u.rdB (Reg.NET_SFP p.val) 1 = false ∧
      (s.linked p.val = false → u.rdB Reg.NET_INT_STAT 0 = true ∧ u.objN (0x2810 + p.val) 1 = 1) ∧
      State.regsKept [Reg.NET_STATUS, Reg.NET_SFP p.val, Reg.NET_INT_STAT, Reg.SUP_ACTIVE] s u) ∧
  (∀ (p : Fin 2) (los rx tx : Bool) (s : State),
    ∃ u, exec (.linkDown p los rx tx) s = .next u ∧ u.linked p.val = false ∧ u.rdB (Reg.NET_SFP p.val) 1 = los ∧
      (s.linked p.val = true → u.rdB Reg.NET_INT_STAT 0 = true ∧ u.objN (0x2810 + p.val) 1 = 0 ∧ u.rdB Reg.SUP_HOIST 29 = true ∧
        u.rd (0x400E0138 + 0x40 * p.val) = s.rd (0x400E0138 + 0x40 * p.val) + 1 ∧
        u.rd (0x400E0104 + 0x40 * p.val) = s.rd (0x400E0104 + 0x40 * p.val) + (if rx then 1 else 0) ∧
        u.rd (0x400E0120 + 0x40 * p.val) = s.rd (0x400E0120 + 0x40 * p.val) + (if tx then 1 else 0)) ∧
      (s.linked p.val = false → State.regsKept [Reg.NET_SFP p.val] s u) ∧ u.mem = s.mem) ∧
  (∀ (speed : Fin 3) (s : State), s.objN 0x2800 0x0C = 1 → s.rdB Reg.NET_CTRL 2 = true →
    ∃ u, exec (.maintLinkChange speed) s = .next u ∧ u.rdF Reg.NET_STATUS 6 5 = speed.val ∧
      (s.rdF Reg.NET_STATUS 6 5 ≠ speed.val → u.linked 2 = decide (speed.val ≠ 0) ∧ u.rdB Reg.NET_INT_STAT 0 = true ∧
        u.objN 0x2812 1 = (if speed.val = 2 then 2 else if speed.val = 1 then 3 else 0)) ∧
      State.regsKept [Reg.NET_STATUS, Reg.NET_INT_STAT] s u ∧ u = { s with regs := u.regs, objs := u.objs }) ∧
  (∀ (speed : Fin 3) (s : State), s.objN 0x2800 0x0C ≠ 1 →
    ∃ u, exec (.maintLinkChange speed) s = .next u ∧ u.rdF Reg.NET_STATUS 6 5 = 0)

/-- From R336, R338, R339, R340, R341, R342, R348. A frame on a port disabled or unlinked changes nothing. On the maintenance port one over 1,522 bytes
counts alone, and one for the host with room joins the host queue with its FCS and adjusted stamp. On a ring port whose queue runs: over 9,222
bytes, and under 64, count alone; untagged under HSR counts; the module's own is removed and counted, a supervision frame of its own closing the
ring; a duplicate counts alone; a new tagged unicast frame for another is remembered and goes on to the other linked port at once, or waits behind
one of its class or higher; one for the host joins the host queue untagged with its FCS, not on the line. DUPLICATE_FORGET and ADDRESS_AGE_OUT drop
exactly the entries past their time. A supervision frame goes out on both ports under one number. The ring opens, with its flag and hoist, when none
has returned for three intervals, not sooner. LLDP sends on a linked port, tagged under HSR, else nothing, and a neighbour expires at its time, not
sooner. Each completes. -/
def Obligations.RingFramesAreSwitched : Prop :=
  (∀ (p : Fin 3) (f : List (BitVec 8)) (ok : Bool) (q r : Nat) (s : State),
    (s.rdB Reg.NET_CTRL p.val = false ∨ s.linked p.val = false) → exec (.ringFrameReceive p f ok q r) s = .next (s.upTo (q / 4))) ∧
  (∀ (f : List (BitVec 8)) (q r : Nat) (s : State), s.rdB Reg.NET_CTRL 2 = true → s.linked 2 = true →
    (1522 < f.length + 4 →
      ∃ u, exec (.ringFrameReceive 2 f true q r) s = .next u ∧ u.rd 0x400E0188 = s.rd 0x400E0188 + 1 ∧ State.regsKept [0x400E0188] s u ∧ u.net = s.net) ∧
    (64 ≤ f.length + 4 → f.length + 4 ≤ 1522 → isLldp f = false → f.take 6 = s.hostMac →
      s.rxChannel (s.hostChannel 2 (ethHead (untag f)).etype) 2 = true → s.hostBytes + (untag f).length + 4 ≤ 524288 →
      ∃ u e, exec (.ringFrameReceive 2 f true q r) s = .next u ∧ u.net.hostq = s.net.hostq ++ [e] ∧
        e.bytes = untag f ++ toLE 4 (crc32 (untag f)) ∧ e.port = 2 ∧ e.q = s.adjusted 2 false q ∧ State.regsKept [0x400E0180] s u)) ∧
  (∀ (p : Fin 3) (f : List (BitVec 8)) (ok : Bool) (q r : Nat) (s : State), p.val < 2 → s.rdB Reg.NET_CTRL p.val = true → s.linked p.val = true →
    (s.queue (if p.val = 0 then 8 else 10)).hold = false → (s.queue (if p.val = 0 then 8 else 10)).stallRead = false →
    (s.queue (if p.val = 0 then 8 else 10)).stallWrite = false →
    let cnt (c : Nat) : Nat := 0x400E0100 + 0x40 * p.val + 4 * c
    (9222 < f.length + 4 →
      ∃ u, exec (.ringFrameReceive p f ok q r) s = .next u ∧ u.rd (cnt 2) = s.rd (cnt 2) + 1 ∧ State.regsKept [cnt 2] s u ∧ u.net = s.net) ∧
    (f.length + 4 < 64 →
      ∃ u, exec (.ringFrameReceive p f ok q r) s = .next u ∧ u.rd (cnt 1) = s.rd (cnt 1) + 1 ∧ State.regsKept [cnt 1] s u ∧ u.net = s.net) ∧
    (64 ≤ f.length + 4 → f.length + 4 ≤ 9222 → s.rdB Reg.NET_STATUS 4 = true → (ethHead f).seq = none →
      ∃ u, exec (.ringFrameReceive p f true q r) s = .next u ∧ u.rd (cnt 11) = s.rd (cnt 11) + 1 ∧ u.rd (cnt 0) = s.rd (cnt 0) + 1 ∧
        State.regsKept [cnt 0, cnt 11] s u ∧ u.net = s.net) ∧
    (∀ n, 64 ≤ f.length + 4 → f.length + 4 ≤ 9222 → s.rdB Reg.NET_STATUS 4 = true → (ethHead f).seq = some n → slice f 6 6 = s.hostMac →
      ∃ u, exec (.ringFrameReceive p f true q r) s = .next u ∧ u.rd (cnt 10) = s.rd (cnt 10) + 1 ∧ u.net.hostq = s.net.hostq ∧
        u.net.line = s.net.line ∧ (beAt f 0 5 = 0x01154E0001 → u.rdB Reg.NET_STATUS 3 = false ∧ u.net.supAt = max s.time.now (q / 4))) ∧
    (∀ n, 64 ≤ f.length + 4 → f.length + 4 ≤ 9222 → s.rdB Reg.NET_STATUS 4 = true → (ethHead f).seq = some n → slice f 6 6 ≠ s.hostMac →
      (s.upTo (q / 4)).dupHeld (beAt f 6 6) n = true →
      ∃ u, exec (.ringFrameReceive p f true q r) s = .next u ∧ u.rd (cnt 9) = s.rd (cnt 9) + 1 ∧ State.regsKept [cnt 0, cnt 9] s u ∧
        u.net = { s.net with nodes := u.net.nodes }) ∧
    (∀ n, 64 ≤ f.length + 4 → f.length + 4 ≤ 9222 → s.rdB Reg.NET_STATUS 4 = true → (ethHead f).seq = some n → slice f 6 6 ≠ s.hostMac →
      (s.upTo (q / 4)).dupHeld (beAt f 6 6) n = false → isLldp f = false → f.take 6 ≠ s.hostMac → groupAddr f = false → ptpAt f = none →
      s.linked (1 - p.val) = true → s.rdB Reg.NET_CTRL (1 - p.val) = true → s.egressBytes (1 - p.val) + f.length ≤ 262144 → s.net.line.length = 3 →
      ∃ u, exec (.ringFrameReceive p f true q r) s = .next u ∧ u.net.hostq = s.net.hostq ∧
        u.dupHeld (beAt f 6 6) n = decide (0 < s.rdF Reg.NET_HSR_CFG 31 24) ∧
        ((∀ e ∈ s.net.egress, e.port ≠ 1 - p.val) → u.net.line.getD (1 - p.val) [] = f ∧ u.net.egress = s.net.egress) ∧
        ((∃ e ∈ s.net.egress, e.port = 1 - p.val ∧ ethClass f ≤ e.cls) →
          u.net.line = s.net.line ∧ ∃ e, u.net.egress = s.net.egress ++ [e] ∧ e.port = 1 - p.val ∧ e.bytes = f ∧ e.cls = ethClass f)) ∧
    (∀ n, 64 ≤ f.length + 4 → f.length + 4 ≤ 9222 → s.rdB Reg.NET_STATUS 4 = true → (ethHead f).seq = some n → slice f 6 6 ≠ s.hostMac →
      (s.upTo (q / 4)).dupHeld (beAt f 6 6) n = false → isLldp f = false → f.take 6 = s.hostMac →
      s.rxChannel (s.hostChannel p.val (ethHead (untag f)).etype) p.val = true → s.hostBytes + (untag f).length + 4 ≤ 524288 →
      (untag f).length + 4 ≤ 9216 →
      ∃ u e, exec (.ringFrameReceive p f true q r) s = .next u ∧ u.net.hostq = s.net.hostq ++ [e] ∧
        e.bytes = untag f ++ toLE 4 (crc32 (untag f)) ∧ e.port = p.val ∧ e.q = s.adjusted p.val false q ∧ u.net.line = s.net.line)) ∧
  (∀ (t : Nat) (s : State),
    (∃ u, exec (.duplicateForget t) s = .next u ∧ u = { s.upTo t with net := u.net } ∧
      ∀ e, e ∈ u.net.dups ↔ e ∈ s.net.dups ∧ max s.time.now t < e.2.2 + s.rdF Reg.NET_HSR_CFG 31 24 * 10000000) ∧
    (∃ u, exec (.addressAgeOut t) s = .next u ∧ u = { s.upTo t with net := u.net } ∧
      ∀ e, e ∈ u.net.addrs ↔ e ∈ s.net.addrs ∧ max s.time.now t < e.2.2 + 300000000000)) ∧
  (∀ s : State, s.rdB Reg.NET_STATUS 4 = true → s.linked 0 = true → s.linked 1 = true → s.net.line.length = 3 →
    let f := Config.hsrSupervision (beAt s.hostMac 0 6) (s.rdF Reg.NET_HSR_CFG 7 0) s.net.supSeq
    ∃ u, exec .supervisionFrame s = .next u ∧ u.net.hsrSeq = (s.net.hsrSeq + 1) % 2 ^ 16 ∧ u.net.line.getD 0 [] = hsrTag f 0 s.net.hsrSeq ∧
      u.net.line.getD 1 [] = hsrTag f 1 s.net.hsrSeq ∧ u.net.supSeq = (s.net.supSeq + 1) % 2 ^ 16 ∧ u.objs = s.objs ∧ u.mem = s.mem) ∧
  (∀ (t : Nat) (s : State), s.rdB Reg.NET_STATUS 4 = true → s.rdB Reg.NET_STATUS 3 = false →
    (s.net.supAt + 3 * s.rdF Reg.NET_HSR_CFG 23 8 * 1000000 ≤ max s.time.now t →
      ∃ u, exec (.ringOpen t) s = .next u ∧ u.rdB Reg.NET_STATUS 3 = true ∧ u.rdB Reg.NET_INT_STAT 1 = true ∧ u.rdB Reg.SUP_HOIST 29 = true ∧
        (s.linked 0 = true → u.objN 0x2800 0x0B = 2)) ∧
    (max s.time.now t < s.net.supAt + 3 * s.rdF Reg.NET_HSR_CFG 23 8 * 1000000 → exec (.ringOpen t) s = .next (s.upTo t))) ∧
  (∀ (p : Fin 3) (s : State),
    (s.linked p.val = true → s.coresRun = true → s.net.line.length = 3 →
      ∃ u, exec (.lldpSend p) s = .next u ∧
        u.net.line.getD p.val [] = (if s.rdB Reg.NET_STATUS 4 = true ∧ p.val < 2 then hsrTag (s.lldpFrame p.val) p.val s.net.hsrSeq else s.lldpFrame p.val) ∧
        u.rd (0x400E0110 + 0x40 * p.val) = s.rd (0x400E0110 + 0x40 * p.val) + 1 ∧ State.regsKept [0x400E0110 + 0x40 * p.val] s u ∧
        u = { s with regs := u.regs, net := u.net }) ∧
    ((s.linked p.val = false ∨ s.coresRun = false) → exec (.lldpSend p) s = .next s)) ∧
  (∀ (p : Fin 3) (t h : Nat) (s : State), s.net.neighbourAt.getD p.val none = some h →
    (h + leAt (s.obj (0x2810 + p.val) 5) 32 2 * 1000000000 ≤ max s.time.now t →
      ∃ u, exec (.lldpNeighbourExpire p t) s = .next u ∧ u.obj (0x2810 + p.val) 5 = List.replicate 40 0 ∧
        u.net.neighbourAt.getD p.val none = none ∧ u.rdB Reg.NET_INT_STAT 3 = true ∧ State.regsKept [Reg.NET_INT_STAT] s u) ∧
    (max s.time.now t < h + leAt (s.obj (0x2810 + p.val) 5) 32 2 * 1000000000 → exec (.lldpNeighbourExpire p t) s = .next (s.upTo t)))

/-- From R128, R351, R352, R353, R354, R355, R356, R358, R359. An owned descriptor of an enabled, running channel is held, or, failing a check, halts
the channel with its status, TAIL advancing and no byte outside it changing; else a fetch does nothing. A finished copy advances TAIL and the count,
its one admitted pair's bytes moved, no byte outside its pairs and descriptor changing. A beat's error halts with status 1 and the erring pair in
the descriptor. RESUME of a halted channel lets it go on; of another it changes nothing. CHANNEL_ENABLE shows a receive ring too small for a frame;
CHANNEL_DISABLE drops the descriptor and the channel's host frames. A received frame larger than the ring is dropped and counted; without owned
descriptors the channel waits; of one buffer it returns its descriptor with status 0. A wait of 1 ms drops and counts the frame, not sooner. A
port's next unstamped frame goes out on the line and counts, or without a link is dropped and counted; with none nothing happens. Each completes. -/
def Obligations.DmaDescriptors : Prop :=
  (∀ (c : Fin 16) (d : List Byte) (s : State), s.shaped → s.rdB (Reg.DMA_CH_CFG c.val) 0 = true → s.dmaHalted c.val = false →
    s.aon.flushing = false → s.dmaKind c.val ≠ 2 → (s.dmaCh c.val).desc = none → s.descOwned c.val 0 = some d →
    ((s.descCheck c.val d).1 = 0 →
      ∃ u, exec (.descriptorFetch c) s = .next u ∧ (u.dmaCh c.val).desc = some { bytes := d, pairs := s.descList d } ∧ u = { s with dma := u.dma }) ∧
    ((s.descCheck c.val d).1 ≠ 0 →
      ∃ u, exec (.descriptorFetch c) s = .next u ∧ u.dmaHalted c.val = true ∧ u.rdB Reg.DMA_STATUS (16 + c.val) = true ∧
        u.rdB Reg.DMA_INT_STAT (16 + c.val) = true ∧ u.rdF (Reg.DMA_CH_STAT c.val) 15 8 = (s.descCheck c.val d).1 ∧
        u.rd (Reg.DMA_CH_TAIL c.val) = s.rd (Reg.DMA_CH_TAIL c.val) + 1 ∧ u.rd (Reg.DMA_CH_BYTES c.val) = s.rd (Reg.DMA_CH_BYTES c.val) ∧
        (∀ a, a < s.descAddr c.val (s.dmaTail c.val) ∨ s.descAddr c.val (s.dmaTail c.val) + 32 ≤ a → u.rdMem a = s.rdMem a))) ∧
  (∀ (c : Fin 16) (s : State), (s.rdB (Reg.DMA_CH_CFG c.val) 0 = false ∨ s.dmaHalted c.val = true ∨ s.aon.flushing = true ∨ s.descOwned c.val 0 = none) →
    exec (.descriptorFetch c) s = .next s) ∧
  (∀ (c : Fin 16) (d : DmaDesc) (s : State), s.shaped → (s.dmaCh c.val).desc = some d → d.waits = false → s.dmaKind c.val = 0 →
    s.fault.errorAddr = none →
    ∃ u, exec (.descriptorReturn c) s = .next u ∧ (u.dmaCh c.val).desc = none ∧ u.rdF (Reg.DMA_CH_STAT c.val) 15 8 = 0 ∧
      u.dmaHalted c.val = s.dmaHalted c.val ∧ u.rd (Reg.DMA_CH_TAIL c.val) = s.rd (Reg.DMA_CH_TAIL c.val) + 1 ∧
      u.rd (Reg.DMA_CH_DESCS c.val) = s.rd (Reg.DMA_CH_DESCS c.val) + 1 ∧
      (∀ a, (a < s.descAddr c.val (s.dmaTail c.val) ∨ s.descAddr c.val (s.dmaTail c.val) + 32 ≤ a) →
        (∀ p ∈ d.pairs, a < p.2.2 ∨ p.2.2 + p.2.1 ≤ a) → u.rdMem a = s.rdMem a) ∧
      (∀ src n dst, d.pairs = [(src, n, dst)] → admits false .dma (s.dmaGranted c.val) src n = true →
        admits true .dma (s.dmaGranted c.val) dst n = true →
        (dst + n ≤ s.descAddr c.val (s.dmaTail c.val) ∨ s.descAddr c.val (s.dmaTail c.val) + 32 ≤ dst) →
        ∀ k, k < n → u.rdMem (dst + k) = s.memByte (src + k))) ∧
  (∀ (c : Fin 16) (offset count : Nat) (d : DmaDesc) (s : State), s.shaped → s.fault.errorAddr = none → (s.dmaCh c.val).desc = some d → s.dmaKind c.val = 0 →
    admits true .dma (s.dmaGranted c.val) (s.descAddr c.val (s.dmaTail c.val)) 32 = true → d.bytes.length = 32 →
    ∃ u, exec (.beatError c offset count) s = .next u ∧ u.dmaHalted c.val = true ∧ u.rdF (Reg.DMA_CH_STAT c.val) 15 8 = 1 ∧
      (u.dmaCh c.val).desc = none ∧ u.rdMem (s.descAddr c.val (s.dmaTail c.val) + 7) = 1 ∧
      (u.rdMem (s.descAddr c.val (s.dmaTail c.val) + 15)).toNat = pairAt d.pairs (min offset (pairTotal d.pairs - 1)) 0 % 256 ∧
      u.rd (Reg.DMA_CH_BYTES c.val) = s.rd (Reg.DMA_CH_BYTES c.val) + BitVec.ofNat 32 (min (pairTotal d.pairs) count) ∧
      (∀ a, (a < s.descAddr c.val (s.dmaTail c.val) ∨ s.descAddr c.val (s.dmaTail c.val) + 32 ≤ a) →
        (∀ p ∈ d.pairs, a < p.2.2 ∨ p.2.2 + p.2.1 ≤ a) → u.rdMem a = s.rdMem a)) ∧
  (∀ (ini : Initiator) (c : Fin 16) (s : State), ini.resident = true →
    (s.dmaHalted c.val = true →
      ∃ u, exec (.dmaResume ini c) s = .next u ∧ u.dmaHalted c.val = false ∧ u.rdB Reg.DMA_STATUS c.val = s.rdB (Reg.DMA_CH_CFG c.val) 0 ∧
        State.regsKept [Reg.DMA_CH_STAT c.val, Reg.DMA_STATUS] s u ∧ u = { s with regs := u.regs, bus := u.bus }) ∧
    (s.dmaHalted c.val = false → ∃ u, exec (.dmaResume ini c) s = .next u ∧ u = { s with bus := u.bus }) ∧
    (s.rdB (Reg.DMA_CH_CFG c.val) 0 = false →
      ∃ u, exec (.channelEnable ini c) s = .next u ∧ u.rdB (Reg.DMA_CH_CFG c.val) 0 = true ∧ u.rdB Reg.DMA_STATUS c.val = true ∧
        u.rdB (Reg.DMA_CH_STAT c.val) 3 = (Nat.beq (s.dmaKind c.val) 2 &&
          decide (s.rdF (Reg.DMA_CH_RING_SIZE c.val) 12 0 * s.dmaBuf c.val < (if s.rdB (Reg.DMA_CH_CFG c.val) 3 then 1522 else 9216))) ∧
        State.regsKept [Reg.DMA_CH_CFG c.val, Reg.DMA_CH_STAT c.val, Reg.DMA_STATUS, Reg.DMA_WARN] s u) ∧
    (s.shaped → s.rdB (Reg.DMA_CH_CFG c.val) 0 = true →
      ∃ u, exec (.channelDisable ini c) s = .next u ∧ u.rdB (Reg.DMA_CH_CFG c.val) 0 = false ∧ u.rdB Reg.DMA_STATUS c.val = false ∧
        (u.dmaCh c.val).desc = none ∧ u.rd (Reg.DMA_CH_TAIL c.val) = s.rd (Reg.DMA_CH_TAIL c.val) ∧
        u.rd (Reg.DMA_CH_DESCS c.val) = s.rd (Reg.DMA_CH_DESCS c.val) ∧ (∀ e ∈ u.net.hostq, e.chan ≠ c.val) ∧
        (∀ a, (∀ d p, (s.dmaCh c.val).desc = some d → p ∈ d.pairs → a < p.2.2 ∨ p.2.2 + p.2.1 ≤ a) → u.rdMem a = s.rdMem a))) ∧
  (∀ (c : Fin 16) (f : HostFrame) (s : State), s.shaped → s.rdB (Reg.DMA_CH_CFG c.val) 0 = true → s.dmaKind c.val = 2 → s.dmaHalted c.val = false →
    s.aon.flushing = false → s.fault.errorAddr = none → s.hostHead c.val = some f → 0 < s.dmaBuf c.val →
    let k := (f.bytes.length + s.dmaBuf c.val - 1) / s.dmaBuf c.val
    (s.rdF (Reg.DMA_CH_RING_SIZE c.val) 12 0 < k →
      ∃ u, exec (.dmaRxFrame c) s = .next u ∧ u.net.hostq.length + 1 = s.net.hostq.length ∧ u.mem = s.mem ∧
        u.rdF (Reg.DMA_CH_RX_DROPS c.val) 15 0 = min 0xFFFF (s.rdF (Reg.DMA_CH_RX_DROPS c.val) 15 0 + 1)) ∧
    (k ≤ s.rdF (Reg.DMA_CH_RING_SIZE c.val) 12 0 → (∃ i, i < k ∧ s.descOwned c.val i = none) →
      ∃ u, exec (.dmaRxFrame c) s = .next u ∧ u.rdB (Reg.DMA_CH_STAT c.val) 4 = true ∧ State.regsKept [Reg.DMA_CH_STAT c.val] s u ∧
        u = { s with regs := u.regs }) ∧
    (∀ d, k = 1 → 1 ≤ s.rdF (Reg.DMA_CH_RING_SIZE c.val) 12 0 → s.descOwned c.val 0 = some d → (s.descCheck c.val d).1 = 0 →
      ∃ u, exec (.dmaRxFrame c) s = .next u ∧ u.net.hostq.length + 1 = s.net.hostq.length ∧
        u.rd (Reg.DMA_CH_TAIL c.val) = s.rd (Reg.DMA_CH_TAIL c.val) + 1 ∧ u.rdF (Reg.DMA_CH_STAT c.val) 15 8 = 0 ∧
        u.rdB (Reg.DMA_CH_STAT c.val) 4 = false ∧ (u.dmaCh c.val).frames = (s.dmaCh c.val).frames + 1)) ∧
  (∀ (c : Fin 16) (t a : Nat) (f : HostFrame) (s : State), s.hostHead c.val = some f → f.headAt = some a → s.rdB (Reg.DMA_CH_STAT c.val) 4 = true →
    (a + 1000000 ≤ max s.time.now t →
      ∃ u, exec (.rxWaitTimeout c t) s = .next u ∧ u.net.hostq.length + 1 = s.net.hostq.length ∧
        u.rdF (Reg.DMA_CH_RX_DROPS c.val) 31 16 = min 0xFFFF (s.rdF (Reg.DMA_CH_RX_DROPS c.val) 31 16 + 1) ∧
        u.rdB Reg.NET_INT_STAT 4 = true ∧ u.rdB (Reg.DMA_CH_STAT c.val) 4 = false ∧ u.mem = s.mem) ∧
    (max s.time.now t < a + 1000000 → exec (.rxWaitTimeout c t) s = .next (s.upTo t))) ∧
  (∀ (p : Fin 3) (q : Nat) (s : State), s.egressNext p.val = none → exec (.dmaTxFrame p q) s = .next (s.upTo (q / 4))) ∧
  (∀ (p : Fin 3) (q : Nat) (e : TxEntry) (s : State), s.egressNext p.val = some e → e.stamp = false → s.net.line.length = 3 →
    (s.linked p.val = true →
      ∃ u, exec (.dmaTxFrame p q) s = .next u ∧ u.net.line.getD p.val [] = e.bytes ∧ u.net.egress = s.net.egress.erase e ∧
        u.rd (0x400E0110 + 0x40 * p.val) = s.rd (0x400E0110 + 0x40 * p.val) + 1 ∧ u.dma = s.dma) ∧
    (s.linked p.val = false →
      ∃ u, exec (.dmaTxFrame p q) s = .next u ∧ u.net.line = s.net.line ∧ u.net.egress = s.net.egress.erase e ∧
        u.rd (0x400E0120 + 0x40 * p.val) = s.rd (0x400E0120 + 0x40 * p.val) + 1 ∧ u.dma = s.dma))

/-! ## Local lighting (chapter 12) -/

/-- From R366, R367, R369, R372, R398. With APP_OFF a loop tick changes nothing. Else every channel's settings and the scale are applied unless HOLD is
1; MEAS shows the current, corrected by its sense chain, and the headroom; a cut channel stays cut only while OC is set or its EN is 0; FB and its
fraction keep their value without a lowest headroom or with the loop off, and else move by gain times the error, clamped to the limits; RUNNING
shows the sink on with VLED present. No register but SNK_STATUS, SNK_HDRM_STAT and the channels' STAT and MEAS, and nothing else outside the sink,
changes. It completes. -/
def Obligations.LoopTicksApplySettingsAndSteerTheSupply : Prop :=
  ∀ (t : Nat) (vled : Bool) (meas : List (Nat × Nat)) (s : State), s.snk.chans.length = 24 →
    (s.aon.appOff = true → exec (.loopTick t vled meas) s = .next (s.upTo t)) ∧
    (s.aon.appOff = false →
      ∃ u, exec (.loopTick t vled meas) s = .next u ∧
        (∀ c, c < 24 →
          (s.rdB Reg.SNK_CTRL 1 = true → (u.snkCh c).cfg = (s.snkCh c).cfg ∧ (u.snkCh c).trim = (s.snkCh c).trim) ∧
          (s.rdB Reg.SNK_CTRL 1 = false → (u.snkCh c).cfg = s.rd (Reg.SNK_CH_CFG c) ∧ (u.snkCh c).trim = s.rd (Reg.SNK_CH_TRIM c)) ∧
          u.rdF (Reg.SNK_CH_MEAS c) 15 0 = senseFixed (sx 16 (s.rdF (Reg.CAL_SINK_REF (c / 8)) 15 0)) (meas.getD c (0, 0)).1 ∧
          u.rdF (Reg.SNK_CH_MEAS c) 31 16 = (meas.getD c (0, 0)).2 % 65536 ∧
          u.rdB (Reg.SNK_CH_STAT c) 0 = (s.rdB (Reg.SNK_CH_STAT c) 0 && (s.rdB (Reg.SNK_CH_STAT c) 1 || !bit (u.snkCh c).cfg 16)) ∧
          (∀ i, 1 ≤ i → i < 32 → u.rdB (Reg.SNK_CH_STAT c) i = s.rdB (Reg.SNK_CH_STAT c) i)) ∧
        u.snk.scale = (if s.rdB Reg.SNK_CTRL 1 then s.snk.scale else s.rdF Reg.SNK_SCALE 7 0) ∧ u.snk.factors = s.snk.factors ∧
        (u.snkLowest = none → u.rdF Reg.SNK_HDRM_STAT 11 0 = s.rdF Reg.SNK_HDRM_STAT 11 0 ∧ u.snk.frac = s.snk.frac) ∧
        (∀ h, u.snkLowest = some h → u.rdF Reg.SNK_HDRM_STAT 31 16 = h ∧
          (s.rdB Reg.SNK_HDRM_CFG 21 = false → u.rdF Reg.SNK_HDRM_STAT 11 0 = s.rdF Reg.SNK_HDRM_STAT 11 0 ∧ u.snk.frac = s.snk.frac) ∧
          (s.rdB Reg.SNK_HDRM_CFG 21 = true →
            let e : Int := 10 * h - s.rdF Reg.SNK_HDRM_CFG 11 0
            let move : Int := e * s.rdF Reg.SNK_HDRM_CFG 19 12
            ((u.rdF Reg.SNK_HDRM_STAT 11 0 * 4096 + u.snk.frac : Nat) : Int) =
              clampI (s.rdF Reg.SNK_HDRM_FB_LIM 11 0 * 4096 : Nat) (s.rdF Reg.SNK_HDRM_FB_LIM 27 16 * 4096 : Nat)
                ((s.rdF Reg.SNK_HDRM_STAT 11 0 * 4096 + s.snk.frac : Nat) + if s.rdB Reg.SNK_HDRM_CFG 20 then -move else move))) ∧
        u.rdB Reg.SNK_STATUS 0 = (u.snkOn && vled) ∧
        State.regsKept (Reg.SNK_STATUS :: Reg.SNK_HDRM_STAT :: (upFrom 0 24).flatMap (fun c => [Reg.SNK_CH_STAT c, Reg.SNK_CH_MEAS c])) s u ∧
        u = { s.upTo t with regs := u.regs, snk := u.snk })

/-- From R366, R369, R370, R371, R372. An overcurrent of a channel that is on cuts it with OC, its interrupt and the hoist, target 0, other channels
unchanged; of another it changes nothing. OC_CLEAR clears OC alone, leaving CUT, and the hoist's condition when none is left. A bank's temperature
sets its factor: 1 up to the knee, 0 from 140 °C, linear between, shown rounded; no channel's settings change. An open or short condition that has
lasted 10 ms sets its flag, one that has ended for 10 ms clears it, and one that does not stand changes nothing. HDRM_LIMIT is set after 100 ms at a
clamp, not sooner. Each completes. -/
def Obligations.SinkChannelsAreCutDeratedAndFlagged : Prop :=
  (∀ (c : Fin 24) (s : State), s.snk.chans.length = 24 →
    (s.snkOn = true ∧ bit (s.snkCh c.val).cfg 16 = true ∧ s.snkCut c.val = false →
      ∃ u, exec (.sinkOvercurrent c) s = .next u ∧ u.rdB (Reg.SNK_CH_STAT c.val) 0 = true ∧ u.rdB (Reg.SNK_CH_STAT c.val) 1 = true ∧
        u.rdB Reg.SNK_INT_STAT 0 = true ∧ u.rdB Reg.SNK_STATUS 2 = true ∧ u.rdB Reg.SUP_HOIST 23 = true ∧ (u.snkTarget c.val).1 = 0 ∧
        (∀ d, d < 24 → d ≠ c.val → u.snkTarget d = s.snkTarget d ∧ u.rd (Reg.SNK_CH_STAT d) = s.rd (Reg.SNK_CH_STAT d)) ∧
        u.mem = s.mem ∧ u.hal = s.hal) ∧
    (¬(s.snkOn = true ∧ bit (s.snkCh c.val).cfg 16 = true ∧ s.snkCut c.val = false) → exec (.sinkOvercurrent c) s = .next s)) ∧
  (∀ (ini : Initiator) (c : Fin 24) (s : State), (ini = .app3 → s.permAdmits 0x10 true = true) →
    ∃ u, exec (.ocClear ini c) s = .next u ∧ u.rdB (Reg.SNK_CH_STAT c.val) 1 = false ∧
      u.rdB (Reg.SNK_CH_STAT c.val) 0 = s.rdB (Reg.SNK_CH_STAT c.val) 0 ∧
      u.rdB Reg.SUP_ACTIVE 23 = (s.rdB Reg.SUP_ACTIVE 23 && (upFrom 0 24).any (fun k => u.rdB (Reg.SNK_CH_STAT k) 1)) ∧
      State.regsKept [Reg.SNK_CH_STAT c.val, Reg.SUP_ACTIVE] s u ∧ u = { s with regs := u.regs, bus := { readData := 0 } }) ∧
  (∀ (b : Fin 3) (temp : BitVec 16) (s : State), s.aon.appOff = false → s.snk.factors.length = 3 →
    let knee := s.rdF Reg.SNK_KNEE 7 0
    let num : Int := if temp.toInt ≤ 100 * knee then 1 else if 14000 ≤ temp.toInt then 0 else 14000 - temp.toInt
    let den : Int := if temp.toInt ≤ 100 * knee ∨ 14000 ≤ temp.toInt then 1 else 14000 - 100 * knee
    ∃ u, exec (.bankTempRead b temp) s = .next u ∧ ((u.snkFactor b.val).1 : Int) = num ∧ ((u.snkFactor b.val).2 : Int) = den ∧
      u.rdF (Reg.SNK_TEMP b.val) 15 0 = temp.toNat ∧
      ((u.rdF (Reg.SNK_TEMP b.val) 23 16 : Int) * den - 255 * num).natAbs < den ∧
      u.rdB Reg.SNK_STATUS 1 = (upFrom 0 3).any (fun k => Nat.blt (u.snkFactor k).1 (u.snkFactor k).2) ∧
      (s.snkFactor b.val = (1, 1) → num < den → u.rdB Reg.SNK_INT_STAT 3 = true) ∧
      (0 < (s.snkFactor b.val).1 → num = 0 → u.rdB Reg.SNK_INT_STAT 4 = true) ∧
      (∀ k, k < 3 → k ≠ b.val → u.snkFactor k = s.snkFactor k) ∧
      (-4500 ≤ temp.toInt → temp.toInt ≤ 15000 → State.regsKept [Reg.SNK_TEMP b.val, Reg.SNK_STATUS, Reg.SNK_INT_STAT] s u) ∧
      u.snk.chans = s.snk.chans) ∧
  (∀ (c : Fin 24) (short : Bool) (t a : Nat) (s : State),
    let i := if short then 3 else 2
    (((if short then (s.snkCh c.val).shortOn else (s.snkCh c.val).openOn) = some a → a + 10000000 ≤ max s.time.now t →
      s.rdB (Reg.SNK_CH_STAT c.val) i = false →
      ∃ u, exec (.stringFaultSet c short t) s = .next u ∧ u.rdB (Reg.SNK_CH_STAT c.val) i = true ∧ u.rdB Reg.SNK_INT_STAT (i - 1) = true ∧
        u.rdB (Reg.SNK_CH_STAT c.val) 0 = s.rdB (Reg.SNK_CH_STAT c.val) 0 ∧
        State.regsKept [Reg.SNK_CH_STAT c.val, Reg.SNK_INT_STAT] s u ∧ u = { s.upTo t with regs := u.regs }) ∧
     ((if short then (s.snkCh c.val).shortOff else (s.snkCh c.val).openOff) = some a → a + 10000000 ≤ max s.time.now t →
      ∃ u, exec (.stringFaultClear c short t) s = .next u ∧ u.rdB (Reg.SNK_CH_STAT c.val) i = false ∧
        State.regsKept [Reg.SNK_CH_STAT c.val] s u ∧ u = { s.upTo t with regs := u.regs })) ∧
    ((if short then (s.snkCh c.val).shortOn else (s.snkCh c.val).openOn) = none → exec (.stringFaultSet c short t) s = .next (s.upTo t))) ∧
  (∀ (t a : Nat) (s : State),
    (s.snk.clampSince = some a → a + 100000000 ≤ max s.time.now t →
      ∃ u, exec (.hdrmLimit t) s = .next u ∧ u.rdB Reg.SNK_INT_STAT 5 = true ∧ u.rdB Reg.SNK_STATUS 3 = true ∧
        State.regsKept [Reg.SNK_INT_STAT, Reg.SNK_STATUS] s u ∧ u = { s.upTo t with regs := u.regs }) ∧
    (s.snk.clampSince = some a → max s.time.now t < a + 100000000 → exec (.hdrmLimit t) s = .next (s.upTo t)))

/-- From R373, R374, R375, R376. HAL_COMMIT makes a commit pending, an earlier one keeping its time. On an enabled, idle halyard past its gap and not
under override, a frame begins by CONTINUOUS or for a commit at least 5 µs old, which is applied whole, all 512 pennants, and ends; a younger one
waits; configuration at least 5 µs old is taken, a younger one not; with neither nothing begins. A frame ends 48 µs for each pennant after its
start, counted, or, where EN was cleared, at its stop; not sooner. Clearing EN stops a frame in progress at the end of a whole pennant, within 48
µs. Each completes, and the registers it may change are named. -/
def Obligations.HalyardFramesCarryWholeCommits : Prop :=
  (∀ (ini : Initiator) (x : Fin 2) (s : State), s.hal.length = 2 → (ini = .app3 → s.permAdmits 0x11 true = true) →
    ∃ u, exec (.halCommit ini x) s = .next u ∧ u.rdB (Reg.HAL_CTRL x.val) 2 = true ∧ u.rdB (Reg.HAL_STATUS x.val) 1 = true ∧
      (u.halyard x.val).commit = some ((s.halyard x.val).commit.getD s.time.now) ∧ (u.halyard x.val).sent = (s.halyard x.val).sent ∧
      State.regsKept [Reg.HAL_CTRL x.val, Reg.HAL_STATUS x.val] s u ∧ u = { s with regs := u.regs, hal := u.hal, bus := { readData := 0 } }) ∧
  (∀ (x : Fin 2) (t : Nat) (s : State), s.hal.length = 2 → s.rdB (Reg.HAL_CTRL x.val) 0 = true → s.rdB (Reg.HAL_CTRL x.val) 3 = false →
    s.aon.flushing = false → s.aon.appOff = false → s.rdB (Reg.HAL_STATUS x.val) 0 = false →
    (∀ e, (s.halyard x.val).endedAt = some e → e + 1000 * (s.halyard x.val).gap ≤ max s.time.now t) →
    let due := decide (∃ a, (s.halyard x.val).commit = some a ∧ a + 5000 ≤ max s.time.now t)
    (s.rdB (Reg.HAL_CTRL x.val) 1 = true ∨ due = true →
      ∃ u, exec (.halFrameStart x t) s = .next u ∧ u.rdB (Reg.HAL_STATUS x.val) 0 = true ∧ (u.halyard x.val).frameAt = some (max s.time.now t) ∧
        ((s.halyard x.val).cfgAt = none ∨ heldFor (max s.time.now t) 5000 (s.halyard x.val).cfgAt = true →
          (u.halyard x.val).count = s.rdF (Reg.HAL_CFG x.val) 9 0 ∧ (u.halyard x.val).gap = s.rdF (Reg.HAL_CFG x.val) 31 16) ∧
        (∀ e, (s.halyard x.val).cfgAt = some e → max s.time.now t < e + 5000 →
          (u.halyard x.val).count = (s.halyard x.val).count ∧ (u.halyard x.val).gap = (s.halyard x.val).gap) ∧
        (due = true → (∀ d, d < 512 → (u.halyard x.val).sent.getD d (0, 0, 0) = (s.rdF (Reg.HAL_PEN_LO x.val d) 15 0,
            s.rdF (Reg.HAL_PEN_LO x.val d) 31 16, s.rdF (Reg.HAL_PEN_HI x.val d) 15 0)) ∧ (u.halyard x.val).commit = none ∧
          u.rdB (Reg.HAL_CTRL x.val) 2 = false ∧ u.rdB (Reg.HAL_STATUS x.val) 1 = false ∧ u.rdB (Reg.HAL_INT_STAT x.val) 1 = true) ∧
        (due = false → (u.halyard x.val).sent = (s.halyard x.val).sent ∧ (u.halyard x.val).commit = (s.halyard x.val).commit ∧
          State.regsKept [Reg.HAL_STATUS x.val] s u) ∧
        State.regsKept [Reg.HAL_CTRL x.val, Reg.HAL_STATUS x.val, Reg.HAL_INT_STAT x.val] s u ∧
        u = { s.upTo t with regs := u.regs, hal := u.hal }) ∧
    (s.rdB (Reg.HAL_CTRL x.val) 1 = false ∧ due = false → exec (.halFrameStart x t) s = .next (s.upTo t))) ∧
  (∀ (x : Fin 2) (t a : Nat) (s : State), s.hal.length = 2 → (s.halyard x.val).frameAt = some a →
    let full := a + 48000 * (s.halyard x.val).count
    (full ≤ max s.time.now t → (∀ e, (s.halyard x.val).stopsAt = some e → full ≤ e) →
      ∃ u, exec (.frameDone x t) s = .next u ∧ u.rdB (Reg.HAL_STATUS x.val) 0 = false ∧ u.rdB (Reg.HAL_INT_STAT x.val) 0 = true ∧
        u.rd (Reg.HAL_FRAMES x.val) = s.rd (Reg.HAL_FRAMES x.val) + 1 ∧ (u.halyard x.val).frameAt = none ∧
        (u.halyard x.val).endedAt = some full ∧
        State.regsKept [Reg.HAL_STATUS x.val, Reg.HAL_INT_STAT x.val, Reg.HAL_FRAMES x.val] s u ∧ u = { s.upTo t with regs := u.regs, hal := u.hal }) ∧
    (∀ e, (s.halyard x.val).stopsAt = some e → e < full → e ≤ max s.time.now t →
      ∃ u, exec (.frameDone x t) s = .next u ∧ u.rdB (Reg.HAL_STATUS x.val) 0 = false ∧ (u.halyard x.val).frameAt = none ∧
        State.regsKept [Reg.HAL_STATUS x.val] s u ∧ u = { s.upTo t with regs := u.regs, hal := u.hal }) ∧
    (max s.time.now t < full → (s.halyard x.val).stopsAt = none → exec (.frameDone x t) s = .next (s.upTo t))) ∧
  (∀ (ini : Initiator) (x : Fin 2) (s : State), s.hal.length = 2 → (ini = .app3 → s.permAdmits 0x11 true = true) →
    ∃ u, exec (.halDisable ini x) s = .next u ∧ u.rdB (Reg.HAL_CTRL x.val) 0 = false ∧
      (∀ a, (s.halyard x.val).frameAt = some a → (s.halyard x.val).stopsAt = none → a ≤ s.time.now →
        ∃ k, (u.halyard x.val).stopsAt = some (a + 48000 * k) ∧ s.time.now < a + 48000 * k ∧ a + 48000 * k ≤ s.time.now + 48000) ∧
      ((s.halyard x.val).frameAt = none → u.hal = s.hal) ∧ State.regsKept [Reg.HAL_CTRL x.val] s u ∧
      u = { s with regs := u.regs, hal := u.hal, bus := { readData := 0 } })

/-! ## Live calibration (chapter 13) -/

/-- From R384, R386, R387, R388, R389. A rotation due while one runs is counted as missed; else, the reference good and the first position neither
skipped nor left, it queues the eight positions and begins SUB_REF at 0 V with 250 ms to settle. Settling over, the measurement begins with the
step's inputs, not sooner. CAL_ACC starts as written. A finished accumulation without a measurement shows its results and flags. In steps 2 and 5 a
first comparison within the accept limits stages the incoming input at the position for the next cycle and goes on, no correction moving; in step 2
a ratio beyond the fault limit goes back to SUB_REF with the mismatch flagged; a ratio between the limits begins a slew with the route unchanged.
The reference check is off with CAL off; within 50 it is shown; a second failure clears REF_OK and raises the hoist; the tenth good one restores it.
Each completes. -/
def Obligations.CalibrationStepsMeasureAndSwap : Prop :=
  (∀ (t : Nat) (s : State), s.objN 0x2A10 1 = 1 → t % (s.objN 0x2A10 2 * 1000000000) = 0 → s.calRuns = true →
    (s.cal.remaining ≠ [] → ∃ u, exec (.rotationStart t) s = .next u ∧ leAt (u.obj 0x2A00 3) 24 4 = (leAt (s.obj 0x2A00 3) 24 4 + 1) % 2 ^ 32 ∧
      State.objsKept [(0x2A00, 3)] s u ∧ u = { s.upTo t with objs := u.objs }) ∧
    (s.cal.remaining = [] → s.calStep = 0 → s.refOk = true → s.rdB Reg.CAL_CTRL 2 = false → s.chainSkips 0 = false → s.chainLeft 0 = none →
      ∃ u, exec (.rotationStart t) s = .next u ∧ u.cal.remaining = [0, 4, 1, 5, 2, 6, 3, 7] ∧ u.calStep = 1 ∧ u.calPos = 0 ∧
        u.rdF Reg.CAL_SEL 3 0 = 0 ∧ u.rdB Reg.CAL_CTRL 1 = true ∧ u.rdF Reg.CAL_REF_CTRL 1 0 = 0 ∧
        u.cal.settle = some (max s.time.now t + 250000000) ∧ State.regsKept [Reg.CAL_STATUS, Reg.CAL_SEL, Reg.CAL_CTRL, Reg.CAL_REF_CTRL] s u)) ∧
  (∀ (t : Nat) (s : State), s.calGoes = true →
    (∀ e, s.cal.settle = some e → max s.time.now t < e → exec (.calSettle t) s = .next (s.upTo t)) ∧
    (∀ e, s.cal.settle = some e → e ≤ max s.time.now t →
      ∃ u, exec (.calSettle t) s = .next u ∧ u.cal.settle = none ∧ u.cal.measuring = true ∧ u.rdB (Reg.CAL_ACC_CTRL 0) 16 = true ∧
        u.rd (Reg.CAL_ACC_STAT 0) = 0 ∧ u.rdF (Reg.CAL_ACC_CTRL 0) 3 0 = (s.calInputs.1) % 16 ∧ u.rdF (Reg.CAL_ACC_CTRL 0) 7 4 = s.calInputs.2 % 16 ∧
        (s.calInputs.2 = 15 → u.rdF (Reg.CAL_ACC_CTRL 0) 15 8 = 50) ∧ State.regsKept [Reg.CAL_ACC_CTRL 0, Reg.CAL_ACC_STAT 0] s u)) ∧
  (∀ (ini : Initiator) (k : Fin 2) (v : Word) (s : State), ini.resident = true →
    ∃ u, exec (.calAccStart ini k v) s = .next u ∧ u.rdF (Reg.CAL_ACC_CTRL k.val) 7 0 = fld v 7 0 ∧
      u.rdF (Reg.CAL_ACC_CTRL k.val) 15 8 = max 1 (fld v 15 8) ∧
      u.rdB (Reg.CAL_ACC_CTRL k.val) 16 = (s.rdB (Reg.CAL_ACC_CTRL k.val) 16 || (bit v 16 && s.rdB Reg.CAL_CTRL 0)) ∧
      State.regsKept [Reg.CAL_ACC_CTRL k.val, Reg.CAL_ACC_STAT k.val] s u ∧ u = { s with regs := u.regs, bus := { readData := 0 } }) ∧
  (∀ (k : Fin 2) (ratio delay mean : Int) (rms : Nat) (s : State), s.rdB (Reg.CAL_ACC_CTRL k.val) 16 = true →
    s.rdF (Reg.CAL_ACC_CTRL k.val) 15 8 ≤ s.rdF (Reg.CAL_ACC_STAT k.val) 15 0 → (k.val = 1 ∨ s.cal.measuring = false) →
    ∃ u, exec (.accReady k ratio delay mean rms) s = .next u ∧ u.rdB (Reg.CAL_ACC_CTRL k.val) 16 = false ∧
      u.rdB (Reg.CAL_ACC_STAT k.val) 16 = true ∧ u.rdB (Reg.CAL_ACC_STAT k.val) 18 = false ∧
      u.rdB (Reg.CAL_ACC_STAT k.val) 17 = decide (100 * rms < s.objN 0x2A10 8 * 2 ^ 31) ∧ u.rdB Reg.CAL_INT_STAT 5 = true ∧
      (u.rd (Reg.CAL_ACC_RATIO k.val)).toNat = (ratio % 2 ^ 32).toNat ∧ (u.rd (Reg.CAL_ACC_DELAY k.val)).toNat = (delay % 2 ^ 32).toNat ∧
      (u.rd (Reg.CAL_ACC_MEAN k.val)).toNat = (mean % 2 ^ 32).toNat ∧
      State.regsKept [Reg.CAL_ACC_CTRL k.val, Reg.CAL_ACC_STAT k.val, Reg.CAL_INT_STAT, Reg.CAL_ACC_RATIO k.val, Reg.CAL_ACC_DELAY k.val,
        Reg.CAL_ACC_MEAN k.val, Reg.CAL_ACC_RMS k.val] s u ∧ u = { s with regs := u.regs }) ∧
  (∀ (ratio delay mean : Int) (rms : Nat) (s : State), s.rdB (Reg.CAL_ACC_CTRL 0) 16 = true →
    s.rdF (Reg.CAL_ACC_CTRL 0) 15 8 ≤ s.rdF (Reg.CAL_ACC_STAT 0) 15 0 → s.cal.measuring = true → s.calGoes = true → s.lowSignal ratio rms = false →
    s.calPos < 8 → s.time.trig.length = 16 →
    (s.calStep = 2 ∨ s.calStep = 5 → ratio.natAbs ≤ 100 * s.objN 0x2A10 4 → delay.natAbs ≤ 5000 → s.objN 0x2A10 4 ≤ s.objN 0x2A10 6 →
      s.cal.repeated = false → s.cal.faulty = false → s.rdB Reg.MTR_EVENT_STAT 5 = false → s.cal.synthetic = false → s.phasePresent s.calPos = true →
      ∃ u, exec (.accReady 0 ratio delay mean rms) s = .next u ∧ u.calStep = s.calStep + 1 ∧ u.rdB Reg.MTR_ROUTE_STAT 0 = true ∧
        u.rdF Reg.MTR_ROUTE_NEXT (4 * s.calPos + 3) (4 * s.calPos) = s.calInputs.2 ∧ u.trigArmed 9 = true ∧ u.rd Reg.MTR_ROUTE = s.rd Reg.MTR_ROUTE ∧
        State.corrKept s u) ∧
    (s.calStep = 2 → s.cal.repeated = false → 100 * s.objN 0x2A10 6 < ratio.natAbs → s.refOk = true →
      ∃ u, exec (.accReady 0 ratio delay mean rms) s = .next u ∧ u.calStep = 1 ∧ u.cal.repeated = true ∧ u.cal.first = some (ratio, delay) ∧
        u.rdB Reg.CAL_INT_STAT 1 = true ∧ u.rd Reg.MTR_ROUTE = s.rd Reg.MTR_ROUTE ∧ u.rd Reg.MTR_ROUTE_NEXT = s.rd Reg.MTR_ROUTE_NEXT ∧
        State.corrKept s u) ∧
    (s.calStep = 2 ∨ s.calStep = 5 → 100 * s.objN 0x2A10 4 < ratio.natAbs → ratio.natAbs ≤ 100 * s.objN 0x2A10 6 → delay.natAbs ≤ 200000 →
      s.cal.repeated = false → s.cal.faulty = false →
      ∃ u, exec (.accReady 0 ratio delay mean rms) s = .next u ∧ u.calStep = s.calStep ∧ u.cal.slewing = true ∧
        u.rd (Reg.MTR_CORR_GAIN s.calInputs.2) = s.rd (Reg.MTR_CORR_GAIN s.calInputs.2) ∧
        u.rd (Reg.MTR_CORR_DELAY s.calInputs.2) = s.rd (Reg.MTR_CORR_DELAY s.calInputs.2) ∧
        u.rd Reg.MTR_ROUTE_NEXT = s.rd Reg.MTR_ROUTE_NEXT)) ∧
  (∀ (diff : Int) (s : State),
    (s.rdB Reg.CAL_CTRL 0 = false → exec (.refCheck diff) s = .next s) ∧
    (s.rdB Reg.CAL_CTRL 0 = true → diff.natAbs ≤ 50 → s.refOk = true →
      ∃ u, exec (.refCheck diff) s = .next u ∧ u.refOk = true ∧ u.rdF Reg.CAL_REF_CHECK 15 0 = (diff % 65536).toNat ∧
        State.regsKept [Reg.CAL_REF_CHECK] s u) ∧
    (s.rdB Reg.CAL_CTRL 0 = true → 50 < diff.natAbs → s.cal.refBad = 1 → s.calStep ≠ 1 → s.calStep ≠ 4 →
      ∃ u, exec (.refCheck diff) s = .next u ∧ u.refOk = false ∧ u.rdB Reg.CAL_INT_STAT 2 = true ∧ u.calBit 2 = true ∧
        u.rdB Reg.SUP_HOIST 21 = true ∧ u.rdB Reg.SUP_ACTIVE 21 = true ∧ State.corrKept s u) ∧
    (s.rdB Reg.CAL_CTRL 0 = true → diff.natAbs ≤ 50 → s.refOk = false → s.cal.refGood = 9 → s.cal.remaining = [] →
      ∃ u, exec (.refCheck diff) s = .next u ∧ u.refOk = true ∧ u.calBit 2 = false ∧ u.rdB Reg.SUP_ACTIVE 21 = false))

/-- From R391, R396, R397, R398, R399, R400. CHANNEL_CLEAR of inputs 0 to 3 in COMMISSION returns one FAULTY input to service, no correction or route
changing; in NIGHT_SCHEDULED it is refused. The sink references are stored while their function runs on a good reference, else nothing changes.
SINK_TRIM keeps every qualifying trim within its limits and half a percent of the last, and no other field. A transceiver's estimate within 10,000
is stored. A finished curve interval under a locked servo with temperatures within 100 updates its two points' counts, each refit staying within the
limit of the factory curve; otherwise it is dropped. An efficiency window that is over begins the next, later events kept, no object outside the
cards changing; not sooner. A function that is off changes nothing. Each completes. -/
def Obligations.SlowEstimatesFollowTheirMeasurements : Prop :=
  (∀ (n : Nat) (s : State), n < 4 → s.coresRun = true → s.mode.mode = .commission → s.objN (0x2A20 + n) 3 = 1 → s.cal.remaining = [] →
    ∃ u, exec (.channelClear 1 (toLE 2 (2 ^ n))) s = .next u ∧ u.dict.status = 0 ∧ u.objN (0x2A20 + n) 3 = 0 ∧ u.calBit 3 = false ∧
      State.corrKept s u ∧ u.rd Reg.MTR_ROUTE = s.rd Reg.MTR_ROUTE ∧ u.mem = s.mem) ∧
  (∀ s : State, s.coresRun = true → s.mode.mode = .nightScheduled →
    ∃ u, exec (.channelClear 1 [1, 0]) s = .next u ∧ u.dict.status = 8 ∧ u.cal = s.cal ∧ u.regs = s.regs) ∧
  (∀ (e0 e1 e2 : BitVec 16) (s : State),
    (s.calGoes = true ∧ s.calFunction 2 = true ∧ s.calBit 2 = false → s.cal.initial = none →
      ∃ u, exec (.sinkRefCalibration e0 e1 e2) s = .next u ∧ u.rdF (Reg.CAL_SINK_REF 0) 15 0 = e0.toNat ∧ u.rdF (Reg.CAL_SINK_REF 1) 15 0 = e1.toNat ∧
        u.rdF (Reg.CAL_SINK_REF 2) 15 0 = e2.toNat ∧ State.regsKept [Reg.CAL_SINK_REF 0, Reg.CAL_SINK_REF 1, Reg.CAL_SINK_REF 2] s u ∧
        u = { s with regs := u.regs }) ∧
    (¬(s.calGoes = true ∧ s.calFunction 2 = true ∧ s.calBit 2 = false) → exec (.sinkRefCalibration e0 e1 e2) s = .next s)) ∧
  (∀ (t : Nat) (s : State), s.calGoes = true → s.calFunction 2 = true → s.cal.initial = none →
    ∃ u, exec (.sinkTrim t) s = .next u ∧
      (∀ c, c < 24 → s.trimQualifies c = true → 0x7333 ≤ u.rdF (Reg.SNK_CH_TRIM c) 15 0 ∧ u.rdF (Reg.SNK_CH_TRIM c) 15 0 ≤ 0x8CCC ∧
        (0x7333 ≤ s.rdF (Reg.SNK_CH_TRIM c) 15 0 → s.rdF (Reg.SNK_CH_TRIM c) 15 0 ≤ 0x8CCC →
          200 * u.rdF (Reg.SNK_CH_TRIM c) 15 0 ≤ 201 * s.rdF (Reg.SNK_CH_TRIM c) 15 0 + 200 ∧
          199 * s.rdF (Reg.SNK_CH_TRIM c) 15 0 ≤ 200 * u.rdF (Reg.SNK_CH_TRIM c) 15 0 + 200)) ∧
      (∀ c, c < 24 → u.rdF (Reg.SNK_CH_TRIM c) 31 16 = s.rdF (Reg.SNK_CH_TRIM c) 31 16 ∧ (u.snkCh c).trim = (s.snkCh c).trim ∧
        u.rd (Reg.SNK_CH_CFG c) = s.rd (Reg.SNK_CH_CFG c) ∧ (s.trimQualifies c = false → u.rd (Reg.SNK_CH_TRIM c) = s.rd (Reg.SNK_CH_TRIM c))) ∧
      u.mem = s.mem) ∧
  (∀ (n : Fin 4) (cycles : Nat) (s : State), s.calFunction 3 = true → s.cal.initial = none → (radPpm cycles).natAbs ≤ 10000 →
    (s.obj 0x2A40 2).length = 16 →
    ∃ u, exec (.radPpmEstimate n cycles) s = .next u ∧ (u.rd (Reg.CAL_RAD_PPM n.val)).toNat = (radPpm cycles % 2 ^ 32).toNat ∧
      leAt (u.obj 0x2A40 2) (4 * n.val) 4 = (radPpm cycles % 2 ^ 32).toNat ∧ State.regsKept [Reg.CAL_RAD_PPM n.val] s u ∧ State.objsKept [(0x2A40, 2)] s u ∧
      u = { s with regs := u.regs, objs := u.objs }) ∧
  (∀ (n : Fin 4) (cycles : Nat) (s : State), s.calFunction 3 = false → exec (.radPpmEstimate n cycles) s = .next s) ∧
  (∀ (r : CurveRun) (s : State), s.cal.curveDone = some r →
    (s.time.servoState = 2 → s.calFunction 1 = true → r.most - r.least ≤ 100 → r.start < r.last → s.calGoes = true → s.aonTakes = false →
      (s.obj 0x2A30 2).length = 66 →
      let k := min 31 (clampI 0 16384000 (r.temp + 4096000) / 512000).toNat
      ∃ u, exec .rtcCurveInterval s = .next u ∧ u.cal.curveDone = none ∧
        leAt (u.obj 0x2A30 2) (2 * k) 2 = min 0xFFFF (leAt (s.obj 0x2A30 2) (2 * k) 2 + 1) ∧
        leAt (u.obj 0x2A30 2) (2 * k + 2) 2 = min 0xFFFF (leAt (s.obj 0x2A30 2) (2 * k + 2) 2 + 1) ∧
        (u.refitPoint k - curveFactory k * 1000).natAbs ≤ 1000 * s.objN 0x2A30 1 ∧
        (u.refitPoint (k + 1) - curveFactory (k + 1) * 1000).natAbs ≤ 1000 * s.objN 0x2A30 1 ∧
        State.objsKept [(0x2A30, 2), (0x2D00, 9)] s u ∧ u.mem = s.mem) ∧
    ((s.time.servoState ≠ 2 ∨ s.calFunction 1 = false ∨ 100 < r.most - r.least) →
      exec .rtcCurveInterval s = .next { s with cal := { s.cal with curveDone := none } })) ∧
  (∀ s : State, s.cal.curveDone = none → exec .rtcCurveInterval s = .next s) ∧
  (∀ (t : Nat) (s : State), s.calFunction 4 = true → s.cal.windowStart + s.objN 0x2A50 1 * 3600000000000 ≤ t →
    ∃ u, exec (.efficiencyWindow t) s = .next u ∧ u.cal.windowStart = t ∧ (∀ e ∈ u.cal.events, t ≤ e.time) ∧ u.regs = s.regs ∧ u.mem = s.mem ∧
      (∀ i j, (i < 0x6000 ∨ 0x7000 ≤ i) → i < 65536 → j < 256 → u.obj i j = s.obj i j)) ∧
  (∀ (t : Nat) (s : State), (s.calFunction 4 = false ∨ t < s.cal.windowStart + s.objN 0x2A50 1 * 3600000000000) →
    exec (.efficiencyWindow t) s = .next (s.upTo t))

/-! ## Key store and crypto engine (chapter 14) -/

/-- From R404, R405, R408, R409, R410. A key command by resident firmware under a tamper latch has status 2, of slot 0 or 4 status 3. A refused one
shows its status, sets CMD_DONE and counts, no slot changing. An accepted one shows status 0 and the slot's GEN, no other slot and no memory
changing: GENERATE, DERIVE, IMPORT_PUBLIC and AGREE write the slot VALID one level below its parent with the next GEN; DERIVE of an AES-128 key
gives the KDF's key; IMPORT_WRAPPED takes the GEN and key it unwraps; INVALIDATE keeps the material, its good children being orphaned; ERASE leaves
an empty record. The scrub of a slot whose tag fails makes it TAG_FAIL with its flag, count and hoist, and goes on; else it only goes on. Each
completes. -/
def Obligations.KeyCommandsWriteInvalidateAndErase : Prop :=
  (∀ p ∈ [(Instr.keyGenerate, 1), (Instr.keyDerive, 2), (Instr.importPublic, 3), (Instr.importWrapped, 4), (Instr.keyAgree, 5),
      (Instr.keyInvalidate, 6), (Instr.keyErase, 7)],
    ∀ (ini : Initiator) (c : KeyCmd) (s : State), ini.resident = true →
      (s.tamperLatched = true → s.keyCheck p.2 c = 2) ∧
      (s.tamperLatched = false → c.slot = 0 ∨ c.slot = 4 → s.keyCheck p.2 c = 3) ∧
      (s.keyCheck p.2 c ≠ 0 →
        ∃ u, exec (p.1 ini c) s = .next u ∧ u.rdF Reg.KEY_CMD_RESULT 3 0 = s.keyCheck p.2 c ∧ u.rdB Reg.KEY_INT_STAT 0 = true ∧ u.key = s.key ∧
          leAt (u.obj 0x2B00 2) 12 4 = (leAt (s.obj 0x2B00 2) 12 4 + 1) % 2 ^ 32 ∧ State.objsKept [(0x2B00, 2)] s u ∧
          State.regsKept [Reg.KEY_CMD_RESULT, Reg.KEY_INT_STAT] s u ∧ u = { s with regs := u.regs, objs := u.objs, bus := { readData := 0 } }) ∧
      (s.keyCheck p.2 c = 0 →
        ∃ u, exec (p.1 ini c) s = .next u ∧ u.rdF Reg.KEY_CMD_RESULT 3 0 = 0 ∧ u.rdF Reg.KEY_CMD_RESULT 31 16 = (u.slot c.slot).gen % 65536 ∧
          u.rdB Reg.KEY_INT_STAT 0 = true ∧ (∀ i, i ≠ c.slot → u.slot i = s.slot i) ∧ u.mem = s.mem ∧
          (p.2 = 1 ∨ p.2 = 2 ∨ p.2 = 3 ∨ p.2 = 5 →
            let par := if p.2 = 5 then 3 else c.parent
            (u.slot c.slot).state = 1 ∧ (u.slot c.slot).kind = (if p.2 = 5 then 1 else c.kind) ∧ (u.slot c.slot).parent = par ∧
            (u.slot c.slot).parentGen = (s.slot par).gen ∧ (u.slot c.slot).depth = (s.slot par).depth + 1 ∧
            (u.slot c.slot).gen = (if max (s.slot c.slot).gen (s.slot c.twin).gen < 65535 then max (s.slot c.slot).gen (s.slot c.twin).gen + 1 else 1) ∧
            (u.slot c.slot).attr = c.attr % 512 ∧ (p.2 = 2 → (u.slot c.slot).origin = 1 ∧
              (c.kind = 1 → (u.slot c.slot).key = kdf (s.slot c.parent).key c.label c.g c.context 16))) ∧
          (p.2 = 4 → ∀ b, s.keyPlain c = some b → (u.slot c.slot).gen = leAt b 2 2 ∧ (u.slot c.slot).key = fit 16 (slice b 8 16)) ∧
          (p.2 = 6 → u.slot c.slot = { s.slot c.slot with state := 2 } ∧ u.chainCheck c.slot = .invalid ∧
            (∀ i, i ≠ 0 → i ≠ c.slot → (s.slot i).parent = c.slot → s.chainCheck i = .ok → u.chainCheck i = .orphaned)) ∧
          (p.2 = 7 → u.slot c.slot = {}))) ∧
  (∀ (fails : Bool) (s : State),
    let i := s.key.scrubNext % 256
    (fails = true → s.tagged i = true →
      ∃ u, exec (.keyScrub fails) s = .next u ∧ u.slot i = { s.slot i with state := 3 } ∧ u.chainCheck i = .tag ∧ u.rdB Reg.KEY_INT_STAT 1 = true ∧
        u.rd Reg.KEY_TAG_FAILS = s.rd Reg.KEY_TAG_FAILS + 1 ∧ u.rdB Reg.SUP_HOIST 24 = true ∧ (∀ k, k ≠ i → u.slot k = s.slot k) ∧
        u.key.scrubNext = (i + 1) % 256) ∧
    (fails = false ∨ s.tagged i = false → ∃ u, exec (.keyScrub fails) s = .next u ∧ u.key.slots = s.key.slots ∧ u.key.scrubNext = (i + 1) % 256 ∧
      u.rdF Reg.KEY_SCRUB 7 0 = (i + 1) % 256 ∧ State.regsKept [Reg.KEY_SCRUB] s u ∧ u = { s with regs := u.regs, key := u.key }))

/-- From R413, R414, R417. In COMMISSION a partner's public key that is a point, slot 3 being good, is stored and agreed into slot 5; else it is refused
with nothing changed. KEY_IMPORT is refused in DAY and, in STANDBY, where it is not acceptable; an accepted one of one entry writes that slot alone
with its GEN and key. The active module of a pair with a ring session shares its cohort slots as a write of 0x2B02:01; else it shares nothing. A
failed health test clears TRNG_OK, counts and raises TRNG; the DRBG then does not reseed, and resumes, with TRNG_OK, when the samples pass; in
health it reseeds and has nothing to resume. Each completes. -/
def Obligations.KeysAreSharedAndEntropyIsWatched : Prop :=
  (∀ (v : List (BitVec 8)) (s : State), s.coresRun = true → s.mode.mode = .commission → v.length = 97 → s.tamperLatched = false →
    s.held 0x2B01 1 = false →
    ∃ u, exec (.partnerAgreePub v) s = .next u ∧ (if Config.pointValid 0x22 v = true ∧ s.chainCheck 3 = .ok then
      u.dict.status = 0 ∧ u.obj 0x2B01 1 = v ∧ (u.slot 5).state = 1 ∧ (u.slot 5).parent = 3 ∧ (u.slot 5).kind = 1 ∧ (u.slot 5).origin = 4 ∧
        (u.slot 5).attr = 0x41 ∧ (∀ i, i ≠ 5 → u.slot i = s.slot i)
      else u.dict.status = 0x0A ∧ u.obj 0x2B01 1 = s.obj 0x2B01 1 ∧ u.key = s.key)) ∧
  (∀ (v : List (BitVec 8)) (s : State), s.coresRun = true → 1 ≤ leAt v 8 1 → leAt v 8 1 ≤ 9 → v.length = 12 + 32 * leAt v 8 1 → s.tamperLatched = false → s.held 0x2B02 1 = false →
    (s.mode.mode = .day → ∃ u, exec (.keyImport v) s = .next u ∧ u.dict.status = 8 ∧ u.key = s.key) ∧
    (s.mode.mode = .standby → s.importAccepts v = false → ∃ u, exec (.keyImport v) s = .next u ∧ u.dict.status = 0x0A ∧ u.key = s.key) ∧
    (s.mode.mode = .standby → leAt v 8 1 = 1 →
      let e := s.importPlain v 0
      ∃ u, exec (.keyImport v) s = .next u ∧ (if s.importAccepts v = true then
        u.dict.status = 0 ∧ (u.slot (leAt e 0 1)).gen = leAt e 2 2 ∧ (u.slot (leAt e 0 1)).key = slice e 8 16 ∧
        (∀ i, i ≠ leAt e 0 1 → u.slot i = s.slot i) ∧ ((s.slot (leAt e 0 1)).gen ≠ leAt e 2 2 → (u.slot (leAt e 0 1)).parent = 8 ∧
          (u.slot (leAt e 0 1)).origin = 3 ∧ (u.slot (leAt e 0 1)).state = 1)
        else u.dict.status = 0x0A ∧ u.key = s.key))) ∧
  (∀ (linked : Bool) (s : State), (linked = true → s.pairState = 1 → s.chainCheck 5 = .ok → s.shareEntries ≠ [] →
      ∃ u, exec (.keyShare linked) s = .next u ∧ (∃ tid, u.key.shared =
          [writeRequest tid 0x2B02 1 (s.eui ++ toLE 1 s.shareEntries.length ++ [0, 0, 0] ++ s.shareEntries.flatten)]) ∧
        u.key.slots = s.key.slots ∧ u.key.shareDue = false ∧ u = { s with key := u.key, freeIx := u.freeIx }) ∧
    (linked = false ∨ s.pairState ≠ 1 ∨ s.chainCheck 5 ≠ .ok → exec (.keyShare linked) s = .next s)) ∧
  (∀ (apt : Bool) (s : State),
    ∃ u, exec (.trngHealthFail apt) s = .next u ∧ u.rdB Reg.CRY_STATUS 4 = false ∧ u.rdB Reg.CRY_INT_STAT 4 = true ∧ u.rdB Reg.SUP_HOIST 25 = true ∧
      u.rdF Reg.CRY_TRNG_STAT 15 0 = (if apt then s.rdF Reg.CRY_TRNG_STAT 15 0 else min 65535 (s.rdF Reg.CRY_TRNG_STAT 15 0 + 1)) ∧
      u.rdF Reg.CRY_TRNG_STAT 31 16 = (if apt then min 65535 (s.rdF Reg.CRY_TRNG_STAT 31 16 + 1) else s.rdF Reg.CRY_TRNG_STAT 31 16) ∧
      u.cry.trngFailed = true ∧ u.key = s.key ∧ u.mem = s.mem) ∧
  (∀ s : State, (s.cry.trngFailed = true → exec .drbgReseed s = .next s ∧
      ∃ u, exec .drbgResume s = .next u ∧ u.cry.trngFailed = false ∧ u.rdB Reg.CRY_STATUS 4 = true ∧ u.rdB Reg.CRY_STATUS 5 = true ∧
        u.rd Reg.CRY_DRBG_STAT = s.rd Reg.CRY_DRBG_STAT + 1 ∧ u.rdB Reg.SUP_ACTIVE 25 = false ∧
        State.regsKept [Reg.CRY_STATUS, Reg.CRY_DRBG_STAT, Reg.SUP_ACTIVE] s u ∧ u = { s with regs := u.regs, cry := u.cry }) ∧
    (s.cry.trngFailed = false → exec .drbgResume s = .next s ∧
      ∃ u, exec .drbgReseed s = .next u ∧ u.cry.requests = 0 ∧ u.rdB Reg.CRY_STATUS 5 = true ∧ u.rd Reg.CRY_DRBG_STAT = s.rd Reg.CRY_DRBG_STAT + 1 ∧
        State.regsKept [Reg.CRY_STATUS, Reg.CRY_DRBG_STAT] s u ∧ u = { s with regs := u.regs, cry := u.cry }))

/-- From R405, R411, R415, R416. For each of the twelve operations and a queue whose next descriptor is owned and in turn: held, the job stands with its
computed result, memory unchanged; not held, its result and then its descriptor with its status are in memory, no other byte changed, TAIL and JOBS
advance and DONE is set where IRQ asks. A job whose slot fails its chain check ends with that status and no result; one whose verification fails
(status 1) has a result of zeros; SHA_256 of readable data gives the digest; an ECDSA verification that its slot permits, over readable data, has
status 0 where the signature verifies, else 1; a slot whose tag fails at the use becomes TAG_FAIL and the job ends with status 4. Each completes. -/
def Obligations.CryptoJobsReturnInOrder : Prop :=
  ∀ p ∈ [(Instr.aesCcm, 1), (Instr.aesGcm, 2), (Instr.aesCmac, 3), (Instr.sha256, 4), (Instr.sha384, 5), (Instr.ecdsa, 6), (Instr.ecdh, 7),
      (Instr.randomJob, 8), (Instr.wrapLink, 0x10), (Instr.wrapCb, 0x11), (Instr.wrapSlot, 0x12), (Instr.storeCode, 0x13)],
    ∀ (q : Fin 4) (d : Desc) (s : State), s.jobReady q p.2 d →
      let r := s.cryCompute q.val d p.2
      let at_ := s.cryDesc q.val
      let out := (d.buf 36).1
      let n := r.1.result.length
      ((r.1.written = true → admits true .cry (Nat.beq q.val 3) out n = true ∧ (out + n ≤ at_ ∨ at_ + 64 ≤ out)) → r.2.fault.errorAddr = none →
        (∃ u, exec (p.1 q [] false) s = .next u ∧ u.rd (Reg.CRY_Q_TAIL q.val) = s.rd (Reg.CRY_Q_TAIL q.val) + 1 ∧
          u.rd (Reg.CRY_Q_JOBS q.val) = s.rd (Reg.CRY_Q_JOBS q.val) + 1 ∧ u.memBytes at_ 64 = d.returned r.1.status n ∧
          (r.1.written = true → u.memBytes out n = r.1.result) ∧
          (∀ a, (a < at_ ∨ at_ + 64 ≤ a) → (r.1.written = false ∨ a < out ∨ out + n ≤ a) → u.rdMem a = s.rdMem a) ∧
          (Nat.testBit (leAt d 1 1) 1 = true → u.rdB Reg.CRY_INT_STAT q.val = true) ∧ u.key = s.key ∧ u.cry.jobs = s.cry.jobs) ∧
        (∃ u, exec (p.1 q [] true) s = .next u ∧ u.cry.jobs = s.cry.jobs ++ [r.1] ∧ u.mem = s.mem ∧
          u.rd (Reg.CRY_Q_TAIL q.val) = s.rd (Reg.CRY_Q_TAIL q.val))) ∧
        (cryKeyed p.2 = true → s.chainCheck d.slot ≠ .ok → r.1.written = false ∧ n = 0 ∧
          r.1.status = (match s.chainCheck d.slot with | .ok => 0 | .invalid => 3 | .tag => 4 | .orphaned => 2)) ∧
        (p.2 = 4 → s.fault.errorAddr = none → 0 < (d.buf 20).2 → admits false .cry (Nat.beq q.val 3) (d.buf 20).1 (d.buf 20).2 = true →
          q.val < 3 → d.mode = 0 → 32 ≤ (d.buf 36).2 →
          r.1.status = 0 ∧ r.1.result = fit 32 (Config.sha256 (s.memBytes (d.buf 20).1 (d.buf 20).2))) ∧
        (p.2 = 6 → d.opens = true → d.mode = 0 → s.fault.errorAddr = none → 0 < (d.buf 20).2 →
          admits false .cry (Nat.beq q.val 3) (d.buf 20).1 (d.buf 20).2 = true → s.cryChain d 6 = 0 → s.cryPermitted q.val d 6 = true →
          d.limits 6 (d.buf 20).2 (s.slot d.slot).kind = true →
          let k := s.slot d.slot
          let m := s.memBytes (d.buf 20).1 (d.buf 20).2
          let sig := if k.kind = 0x22 then 96 else 64
          r.1.result = [] ∧
            r.1.status = (if Config.ecdsaVerify (k.key.take (kindBytes k.kind)) (m.drop sig) (m.take sig) = true then 0 else 1)) ∧
        (r.1.status ≠ 1 ∨ r.1.result = List.replicate n 0) ∧
        (cryKeyed p.2 = true → ∀ i : Fin 256, i.val = d.slot → s.tagged i.val = true →
          ∃ u, exec (p.1 q [i] true) s = .next u ∧ u.chainCheck d.slot = .tag ∧ u.rdB Reg.KEY_INT_STAT 1 = true ∧
            ∃ j ∈ u.cry.jobs, j.queue = q.val ∧ j.status = 4 ∧ j.result = [])

/-! ## Field update (chapter 15) -/

/-- From R422, R423, R424, R425, R426, R427, R428. In DAY: a MANIFEST under a tamper latch has reason 2, while OWNER_LOCK is 1 reason 3, unsigned with
no reason before it reason 6. A refused MANIFEST answers its reason's status, shows and counts it, staging unchanged. A signed one that no other
reason refuses opens staging with every part empty, the running set unchanged. STAGE_BLOCK with no staging is reason 10; of bytes already held it
has no effect; not at RECEIVED, or beyond the part, reason 11; at RECEIVED it is appended to its part alone. ABORT of a staging discards it; during
a probation without the owner it is refused. SEAL_OPEN in COMMISSION opens the seal for its minutes, 0 closing it; SEAL_CLOSE closes it at its time,
not sooner. Each completes. -/
def Obligations.UpdatesAreStagedBlockByBlock : Prop :=
  (∀ (m : List (BitVec 8)) (s : State), s.coresRun = true → s.mode.mode = .day → 672 ≤ m.length → m.length ≤ 2720 →
    s.held 0x2C00 2 = false → s.upd.banks.length = 2 →
    (s.tamperLatched = true → s.manifestReason m = 2) ∧
    (s.tamperLatched = false → s.objN 0x1010 2 = 1 → s.manifestReason m = 3) ∧
    (s.updReasons true = 0 → s.manifestSigned m = false → s.manifestReason m = 6) ∧
    (s.manifestReason m ≠ 0 → s.manifestReason m < 256 →
      ∃ u, exec (.manifestWrite m) s = .next u ∧ u.dict.status = (if s.manifestReason m = 2 then 9 else 0x0A) ∧
        u.objN 0x2C00 0x0D = s.manifestReason m ∧ u.rdF Reg.UPD_REFUSE 7 0 = s.manifestReason m ∧
        u.rdF Reg.UPD_REFUSE 31 16 = min 0xFFFF (s.rdF Reg.UPD_REFUSE 31 16 + 1) ∧ u.rdB Reg.UPD_INT_STAT 4 = true ∧
        State.regsKept [Reg.UPD_REFUSE, Reg.UPD_INT_STAT] s u ∧ State.objsKept [(0x2C00, 0x0D), (0x2C00, 0x10)] s u ∧ u.upd = s.upd ∧ u.mem = s.mem) ∧
    (s.updReasons true = 0 → s.chainCheck 4 = .ok → s.manifestFormed m = true → manifestSeq s.activeSet.manifest < manifestSeq m →
      manifestSeq m ≠ s.objN 0x2C00 0x0F → (s.metrologyChange m = false ∨ s.sealOpen = true) →
      if s.manifestSigned m = false then s.manifestReason m = 6 else
      ∃ u, exec (.manifestWrite m) s = .next u ∧ u.dict.status = 0 ∧ u.updState = 1 ∧ u.rdF Reg.UPD_STATUS 2 0 = 1 ∧
        (u.rd Reg.UPD_STAGED_SEQ).toNat = manifestSeq m ∧ u.obj 0x2C00 2 = m ∧
        u.bankSet s.spareBank = { manifest := m, parts := List.replicate (manifestParts m) [] } ∧ u.activeSet = s.activeSet ∧
        State.regsKept [Reg.UPD_STATUS, Reg.UPD_STAGED_SEQ] s u ∧
        State.objsKept [(0x2C00, 1), (0x2C00, 2), (0x2C00, 4), (0x2C00, 0x10)] s u ∧ u.mem = s.mem)) ∧
  (∀ (v : List (BitVec 8)) (s : State), s.coresRun = true → s.mode.mode = .day → 9 ≤ v.length → v.length ≤ 65536 → s.held 0x2C00 3 = false →
    s.updReasons false = 0 → s.upd.banks.length = 2 →
    let k := leAt v 0 1
    let set := s.bankSet s.spareBank
    let got := (set.parts.getD k []).length
    let off := leAt v 4 4
    let n := v.length - 8
    (s.updState = 0 → ∃ u, exec (.stageBlock v) s = .next u ∧ u.dict.status = 0x0A ∧ u.objN 0x2C00 0x0D = 10 ∧ u.upd = s.upd) ∧
    (s.updState = 1 → k < manifestParts set.manifest → off + n ≤ got →
      ∃ u, exec (.stageBlock v) s = .next u ∧ u.dict.status = 0 ∧ u.upd = s.upd ∧ u.objs = s.objs ∧ u.regs = s.regs) ∧
    (s.updState = 1 → k < manifestParts set.manifest → got < off + n → off ≠ got ∨ partLength set.manifest k < off + n →
      ∃ u, exec (.stageBlock v) s = .next u ∧ u.dict.status = 0x0A ∧ u.objN 0x2C00 0x0D = 11 ∧ u.upd = s.upd) ∧
    (s.updState = 1 → k < manifestParts set.manifest → k < set.parts.length → off = got → off + n < partLength set.manifest k →
      ∃ u, exec (.stageBlock v) s = .next u ∧ u.dict.status = 0 ∧ u.updState = 1 ∧
        ((u.bankSet s.spareBank).parts.getD k []) = set.parts.getD k [] ++ v.drop 8 ∧ (u.bankSet s.spareBank).manifest = set.manifest ∧
        (∀ j, j ≠ k → (u.bankSet s.spareBank).parts.getD j [] = set.parts.getD j []) ∧ u.activeSet = s.activeSet ∧ u.regs = s.regs ∧
        State.objsKept [(0x2C00, 4)] s u)) ∧
  (∀ (owner : Bool) (s : State), s.coresRun = true → s.mode.mode = .day → s.held 0x2C00 6 = false → s.upd.banks.length = 2 →
    (s.updState = 1 ∨ s.updState = 2 → ∃ u, exec (.abortUpdate [1] owner) s = .next u ∧ u.dict.status = 0 ∧ u.updState = 0 ∧
      u.bankSet s.spareBank = {} ∧ u.activeSet = s.activeSet ∧ u.rd Reg.UPD_STAGED_SEQ = 0)) ∧
  (∀ s : State, s.coresRun = true → s.updState = 4 →
    ∃ u, exec (.abortUpdate [1] false) s = .next u ∧ u.dict.status = 6 ∧ u.upd = s.upd ∧ u.regs = s.regs) ∧
  (∀ (n : Nat) (s : State), s.coresRun = true → s.mode.mode = .commission → n ≤ 1440 → s.held 0x2C00 0x0C = false →
    ∃ u, exec (.sealOpen (toLE 2 n)) s = .next u ∧ u.dict.status = 0 ∧ u.sealOpen = decide (n ≠ 0) ∧
      u.upd.sealUntil = (if n = 0 then none else some (s.eventTime + n * 60000000000)) ∧ State.regsKept [Reg.UPD_STATUS] s u ∧ u.mem = s.mem) ∧
  (∀ (t e : Nat) (s : State), s.upd.sealUntil = some e → s.time.loaded = true →
    (e ≤ max s.time.now t → ∃ u, exec (.sealClose t) s = .next u ∧ u.sealOpen = false ∧ u.upd.sealUntil = none ∧ State.regsKept [Reg.UPD_STATUS] s u ∧
      u = { s.upTo t with regs := u.regs, upd := u.upd }) ∧
    (max s.time.now t < e → exec (.sealClose t) s = .next (s.upTo t)))

/-- From R429, R432, R433, R434, R435. ACTIVATE in DAY with no reason against it resets the module with cause 4 and reason 0x11, STATE ACTIVATING and
the new SEQUENCE, banks and keys unchanged; with nothing staged it is refused with reason 10. CONFIRM of a healthy set on probation by its SEQUENCE
makes its bank active, with its flag and the seal closed; on no probation or with another value it changes nothing. INTEGRATOR_HEALTH from core 3's
mailbox notes its health. The probation's count is saved with the seconds run. At its limit the module falls back with cause 5 and reason 0x13, the
sequence rejected; not sooner. Each completes. -/
def Obligations.SetsActivateConfirmOrFallBack : Prop :=
  (∀ s : State, s.coresRun = true → s.mode.mode = .day → s.held 0x2C00 5 = false →
    (s.activateReason = 0 →
      ∃ u, exec (.activateUpdate [1]) s = .next u ∧ u.dict.status = 0 ∧ u.updState = 3 ∧ u.aon.inReset = true ∧ u.aon.resetCause = 4 ∧
        u.mode.reason = 0x11 ∧ u.mode.mode = .starting ∧ (u.rd Reg.UPD_ACTIVE_SEQ).toNat = manifestSeq (s.bankSet s.spareBank).manifest ∧
        u.upd.banks = s.upd.banks ∧ u.rdB Reg.UPD_STATUS 3 = s.rdB Reg.UPD_STATUS 3 ∧ u.key.slots = s.key.slots) ∧
    (s.updReasons true = 0 → s.updState = 0 → ∃ u, exec (.activateUpdate [1]) s = .next u ∧ u.dict.status = 0x0A ∧ u.objN 0x2C00 0x0D = 10 ∧
      u.upd = s.upd ∧ u.mode = s.mode)) ∧
  (∀ (ini : Initiator) (v : Word) (s : State), ini.resident = true → s.upd.banks.length = 2 →
    (s.healthy = true → s.updState = 4 → v = s.rd Reg.UPD_ACTIVE_SEQ →
      ∃ u, exec (.confirmSet ini v) s = .next u ∧ u.updState = 0 ∧ u.rdB Reg.UPD_STATUS 3 = decide (s.spareBank = 1) ∧ u.rdB Reg.UPD_INT_STAT 2 = true ∧
        u.sealOpen = false ∧ u.upd.banks = s.upd.banks ∧ leAt (u.obj 0x2C00 0x0E) 0 4 = manifestSeq (s.bankSet s.spareBank).manifest ∧
        u.mode = s.mode ∧ u.mem = s.mem) ∧
    (s.updState ≠ 4 ∨ v ≠ s.rd Reg.UPD_ACTIVE_SEQ → exec (.confirmSet ini v) s = .next { s with bus := { readData := 0 } })) ∧
  (∀ (sess : Nat) (s : State), s.coresRun = true → s.mode.mode = .day → s.held 0x2C00 9 = false →
    ∃ u, exec (.integratorHealth sess [1]) s = .next u ∧ u.dict.status = 0 ∧ u.upd.integratorOk = (s.upd.integratorOk || decide (sess = 0)) ∧
      u.objs = s.objs ∧ u.regs = s.regs) ∧
  (∀ (t a : Nat) (s : State), s.updState = 4 → s.upd.countingSince = some a → a ≤ s.time.now →
    ∃ u, exec (.probationSave t) s = .next u ∧ u.upd.elapsedSaved = s.upd.elapsedSaved + (max s.time.now t - a) / 1000000000 ∧
      u.probElapsed = (s.upTo t).probElapsed ∧ u.rdF Reg.UPD_PROB_ELAPSED 15 0 = u.upd.elapsedSaved % 65536 ∧
      State.regsKept [Reg.UPD_PROB_ELAPSED] s u ∧ u = { s.upTo t with regs := u.regs, upd := u.upd }) ∧
  (∀ (t : Nat) (s : State),
    (s.updState = 4 → s.rdF Reg.UPD_PROB_LIMIT 15 0 ≤ (s.upTo t).probElapsed →
      ∃ u, exec (.probationExpiry t) s = .next u ∧ u.updState = 0 ∧ u.objN 0x2C00 0x0F = manifestSeq (s.bankSet s.spareBank).manifest ∧
        u.aon.inReset = true ∧ u.aon.resetCause = 5 ∧ u.mode.reason = 0x13 ∧ u.rdB Reg.UPD_INT_STAT 3 = true ∧
        (u.rd Reg.UPD_ACTIVE_SEQ).toNat = manifestSeq s.activeSet.manifest ∧ u.activeSet = s.activeSet ∧ u.key.slots = s.key.slots) ∧
    (s.updState ≠ 4 ∨ (s.upTo t).probElapsed < s.rdF Reg.UPD_PROB_LIMIT 15 0 → exec (.probationExpiry t) s = .next (s.upTo t)))

/-- From R437, R438, R439. A PROGRESS of 12 bytes with the card's tag, of a member in transfer, shows the blocks it holds and its state: 0 refused, 3
verified, else 2, no other object changing; one of another length or tag, or of no transfer, changes nothing. LANTERN_ACTIVATE in DAY releases its
class. An activation without a JOIN past its time makes the card FAILED, not sooner. Each completes. -/
def Obligations.LanternImagesAreTrackedByTheirCards : Prop :=
  (∀ (l : Fin 4096) (body : List (BitVec 8)) (s : State), body.length = 12 → leAt body 0 1 = 2 → leAt body 1 4 = s.card l.val 0x51 →
    1 ≤ s.card l.val 0x50 → s.card l.val 0x50 ≤ 3 → s.card l.val 3 = 4 → (s.upd.transfers.find? (fun e => Nat.beq e.lantern l.val)) = none →
    ∃ u, exec (.imageProgress l body) s = .next u ∧ u.card l.val 0x52 = leAt body 5 3 ∧
      u.card l.val 0x50 = (if Nat.testBit (leAt body 11 1) 1 then 0 else if Nat.testBit (leAt body 11 1) 0 then 3 else 2) ∧
      State.objsKept [(0x6000 + l.val, 0x50), (0x6000 + l.val, 0x52)] s u ∧ u.regs = s.regs ∧ u.mem = s.mem) ∧
  (∀ (l : Fin 4096) (body : List (BitVec 8)) (s : State), (body.length ≠ 12 ∨ leAt body 1 4 ≠ s.card l.val 0x51 ∨ s.card l.val 0x50 = 0) →
    exec (.imageProgress l body) s = .next s) ∧
  (∀ (c : Nat) (s : State), s.coresRun = true → s.mode.mode = .day → c < 65536 → s.held 0x2C10 5 = false →
    ∃ u, exec (.lanternActivate (toLE 2 c)) s = .next u ∧ u.dict.status = 0 ∧ c ∈ u.upd.released ∧ u.objs = s.objs ∧ u.regs = s.regs) ∧
  (∀ (l : Fin 4096) (e : Nat × Nat) (s : State), s.upd.activating.find? (fun (x : Nat × Nat) => Nat.beq x.1 l.val) = some e → s.card l.val 0x50 = 4 →
    let late := e.2 + 60000 + 2 * (s.mac (s.card l.val 5)).len < s.asn (s.card l.val 5)
    (late → ∃ u, exec (.imageActivationTimeout l) s = .next u ∧ u.card l.val 0x50 = 6 ∧ (∀ x ∈ u.upd.activating, x.1 ≠ l.val) ∧ u.mem = s.mem) ∧
    (¬late → exec (.imageActivationTimeout l) s = .next s))

/-! ## Event recorder (chapter 16) -/

/-- From R444, R445, R446, R447, R449, R451, R452, R453, R456. A record submitted by resident firmware with the recorder on and not DIRECT takes the
next SEQ, its fields as staged (the time where none is staged), and joins a buffer below 4,032; at 4,096 it is dropped and counted. A flush that is
due moves the buffer to the log while ordinary indices last; beyond them one ordinary record is dropped with LOG_FULL and one of reserve class is
stored; not due it does nothing. FLUSH_REQUEST makes one due. LOG_CLEAR in DAY flushes, and with the last SEQ leaves CLEARED alone, else refuses. An
integrator event from another than the mailbox is refused; from it, it is recorded while fewer than 100 were in the last second, else counted. A
READ of RECORDS answers up to 2,048 records from the index, after a flush where it reaches the log's end. Each completes. -/
def Obligations.RecordsAreBufferedFlushedReadAndCleared : Prop :=
  (∀ (ini : Initiator) (v : Word) (s : State), ini.resident = true → s.rdB Reg.EVR_CTRL 0 = true → s.rdB Reg.EVR_CTRL 2 = false →
    ∃ t, exec (.evrSubmit ini v) s = .next t ∧ t.evr.nextSeq = (s.evr.nextSeq + 1) % 2 ^ 32 ∧ t.evr.log = s.evr.log ∧ t.evrStage ini.number 6 = v ∧
      (s.evr.buffer.length < 4032 → ∃ r : Rec, t.evr.buffer = s.evr.buffer ++ [r] ∧ r.seq = s.evr.nextSeq ∧ r.p2 = v.toNat ∧
        r.p1 = (s.evrStage ini.number 5).toNat ∧ r.source = (s.evrStage ini.number 2).toNat / 65536 % 256 ∧
        r.code = (s.evrStage ini.number 3).toNat % 65536 ∧
        r.time = (if (s.evrStage ini.number 0).toNat = 0 ∧ (s.evrStage ini.number 1).toNat = 0 ∧ (s.evrStage ini.number 2).toNat % 65536 = 0
          then fromLE (time80 s.eventTime)
          else (s.evrStage ini.number 0).toNat + (s.evrStage ini.number 1).toNat * 2 ^ 32 + (s.evrStage ini.number 2).toNat % 65536 * 2 ^ 64) ∧
        t.regs = s.regs ∧ t = { s with evr := t.evr, bus := { readData := 0 } }) ∧
      (4096 ≤ s.evr.buffer.length → t.evr.buffer = s.evr.buffer ∧ t.evr.bufDrops = (s.evr.bufDrops + 1) % 2 ^ 32 ∧
        t.rdB Reg.EVR_INT_STAT 4 = true ∧ State.regsKept [Reg.EVR_INT_STAT] s t ∧ State.objsKept [(0x2D00, 9)] s t ∧
        t = { s with evr := t.evr, regs := t.regs, objs := t.objs, bus := { readData := 0 } })) ∧
  (∀ s : State,
    (s.evr.flushDue = false → exec .evrFlush s = .next s) ∧
    (s.evr.flushDue = true → s.evr.log.length + s.evr.buffer.length ≤ 262080 →
      ∃ t, exec .evrFlush s = .next t ∧ t.evr.log = s.evr.log ++ s.evr.buffer ∧ t.evr.buffer = [] ∧ t.evr.dropped = s.evr.dropped ∧
        t.evr.flushDue = false ∧ t.rdB Reg.EVR_CTRL 1 = false ∧ t.rdB Reg.EVR_INT_STAT 0 = true ∧
        State.regsKept [Reg.EVR_CTRL, Reg.EVR_INT_STAT] s t ∧ State.objsKept [(0x2D00, 9)] s t ∧
        t = { s with evr := t.evr, regs := t.regs, objs := t.objs }) ∧
    (∀ r : Rec, s.evr.flushDue = true → s.evr.buffer = [r] → r.reserve = false → 262080 ≤ s.evr.log.length →
      ∃ t, exec .evrFlush s = .next t ∧ t.evr.log = s.evr.log ∧ t.evr.buffer = [] ∧ t.evr.dropped = (s.evr.dropped + 1) % 2 ^ 32 ∧
        t.evr.logFull = true ∧ t.rdB Reg.EVR_INT_STAT 3 = true ∧ t = { s with evr := t.evr, regs := t.regs, objs := t.objs }) ∧
    (∀ r : Rec, s.evr.flushDue = true → s.evr.buffer = [r] → r.reserve = true → 262080 ≤ s.evr.log.length → s.evr.log.length < 262144 →
      ∃ t, exec .evrFlush s = .next t ∧ t.evr.log = s.evr.log ++ [r] ∧ t.evr.lastSeq = r.seq ∧ t.evr.reserveUsed = s.evr.reserveUsed + 1 ∧
        t.evr.dropped = s.evr.dropped)) ∧
  (∀ s : State, ∃ t, exec .flushRequest s = .next t ∧ t.rdB Reg.EVR_CTRL 1 = true ∧ t.evr.flushDue = true ∧ t.evr.buffer = s.evr.buffer ∧
    State.regsKept [Reg.EVR_CTRL] s t ∧ t = { s with regs := t.regs, evr := t.evr }) ∧
  (∀ (v : List Byte) (s : State), s.coresRun = true → s.mode.mode = .day → v.length = 4 → s.held 0x2D00 5 = false →
    let f := s.flushLog
    (fromLE v ≠ f.evr.lastSeq → ∃ t, exec (.logClear v) s = .next t ∧ t.dict.status = 0x0A ∧ t.evr = f.evr ∧ t.regs = f.regs) ∧
    (fromLE v = f.evr.lastSeq →
      ∃ t, exec (.logClear v) s = .next t ∧ t.dict.status = 0 ∧ t.evr.nextSeq = (f.evr.nextSeq + 1) % 2 ^ 32 ∧
        (∃ r : Rec, t.evr.log = [r] ∧ r.source = 0x14 ∧ r.code = 1 ∧ r.seq = f.evr.nextSeq ∧ r.p0 = f.evr.reserveUsed ∧ r.p1 = fromLE v ∧
          r.p2 = f.evr.dropped) ∧
        t.evr.lastSeq = f.evr.nextSeq ∧ t.evr.dropped = 0 ∧ t.evr.reserveUsed = 0 ∧ t.evr.logHigh = false ∧ t.evr.logFull = false ∧
        t.evr.reserveFull = false ∧ t.evr.buffer = [] ∧ t.rdB Reg.EVR_INT_STAT 5 = true)) ∧
  (∀ (n : Nat) (v : List Byte) (s : State), s.coresRun = true → s.mode.mode = .day → v.length = 12 → s.held 0x2D01 1 = false →
    let recent := s.evr.integratorTimes.filter (fun t => decide (s.time.now < t + 1000000000))
    (n ≠ 0 → ∃ t, exec (.integratorEvent n v) s = .next t ∧ t.dict.status = 0x0A ∧ t.evr = s.evr ∧ t.regs = s.regs ∧ t.objs = s.objs) ∧
    (recent.length < 100 → s.rdB Reg.EVR_CTRL 0 = true → s.rdB Reg.EVR_CTRL 2 = false → s.evr.buffer.length < 4032 →
      ∃ t, exec (.integratorEvent 0 v) s = .next t ∧ t.dict.status = 0 ∧ t.evr.integratorTimes = recent ++ [s.time.now] ∧
        ∃ r : Rec, t.evr.buffer = s.evr.buffer ++ [r] ∧ r.source = 0x40 ∧ r.code = leAt v 0 2 ∧ r.p0 = leAt v 2 2 ∧ r.p1 = leAt v 4 4 ∧
          r.p2 = leAt v 8 4 ∧ r.seq = s.evr.nextSeq ∧ r.time = fromLE (time80 s.eventTime) ∧ r.reserve = false) ∧
    (100 ≤ recent.length → ∃ t, exec (.integratorEvent 0 v) s = .next t ∧ t.dict.status = 0 ∧ t.evr = s.evr ∧
      leAt (t.obj 0x2D00 9) 4 4 = (leAt (s.obj 0x2D00 9) 4 4 + 1) % 2 ^ 32 ∧ t.regs = s.regs)) ∧
  (∀ (e : Sess) (m : Msg) (s : State), s.hears e 0x10 { m with idx := 0x2D00, sub := 8 } →
    let f := if s.evr.log.length ≤ e.readIndex + 2048 then s.flushLog else s
    let v := ((f.evr.log.drop e.readIndex).take 2048).flatMap Rec.bytes
    v.length + 16 ≤ e.buf →
      ∃ t, exec (.readRecords e.id m) s = .next t ∧ t.evr = f.evr ∧ t.mem = s.mem ∧ t.regs = f.regs ∧
        t.dict.response = some (e.id, credited 8 (responseBytes 0x10 { m with idx := 0x2D00, sub := 8 } 0 v.length v)))

/-! ## Fault coverage and drills (chapter 17) -/

/-- From R459, R460, R462, R464, R467, R469. A lockstep mismatch, register parity error, rail fault and time check mismatch raise their flag and reset
the module with cause 7, the hoist's other flags, the channels' settings, the log and memory kept, its raising to be recorded, and the contactors in
fallback. A retirement mismatch or a stall of cores 0 to 2 does so with cause 7 or 3; of core 3 it raises CORE3_FAULT and restarts it alone. A
watchdog's expiry resets with cause 3. A kick of the other value in its window restarts its count; the supervisor's too early expires; a repeated
value changes nothing. A one-bit RAM error is corrected and counted; outside DRILL a two-bit error raises ECC_UNCORR, holding the first address in
core 3's region without a reset, and in the supervisor's it resets the module. Each completes. -/
def Obligations.DetectionsResetOrRestart : Prop :=
  (∀ p ∈ [(Instr.lockstepMismatch, 0), (.registerParityError, 6), (.railFault, 11), (.timeCheckMismatch, 13)], ∀ s : State, s.aon.inReset = false →
    ∃ t, exec p.1 s = .next t ∧ t.aon.inReset = true ∧ t.aon.resetCause = 7 ∧ t.mode.mode = .starting ∧ t.rdB Reg.SUP_HOIST p.2 = true ∧
      (∀ f, f ≠ p.2 → t.rdB Reg.SUP_HOIST f = s.rdB Reg.SUP_HOIST f) ∧ t.rd Reg.SUP_CONT_FORCE = s.rd Reg.SUP_CONT_FORCE ∧
      t.rd Reg.SUP_RESET_HIST = s.rd Reg.SUP_RESET_HIST ∧ t.rdF Reg.SUP_STATUS 15 8 = s.rdF Reg.SUP_STATUS 15 8 ∧ t.rd Reg.SUP_ACTIVE = 0 ∧
      (∀ c, c < 24 → t.rd (Reg.SNK_CH_CFG c) = s.rd (Reg.SNK_CH_CFG c)) ∧ t.evr.buffer = s.evr.buffer ∧ t.evr.log = s.evr.log ∧ t.mem = s.mem ∧
      (s.rdB Reg.SUP_HOIST p.2 = false → t.fault.raisedDue = s.fault.raisedDue ++ [p.2]) ∧
      (s.aonTakes = true → t.rdB Reg.AON_STATUS 0 = true → t.rdF Reg.AON_CONT_STAT 3 0 = if t.rdB Reg.AON_STATUS 2 then 15 else 0)) ∧
  (∀ (c : Fin 4) (s : State), s.coreRuns c.val = true →
    ∃ t u, exec (.retirementMismatch c) s = .next t ∧ exec (.coreStall c) s = .next u ∧
      leAt (u.obj 0x2E00 7) 12 4 = (leAt (s.obj 0x2E00 7) 12 4 + 1) % 2 ^ 32 ∧
      (if c.val < 3 then t.rdB Reg.SUP_HOIST 3 = true ∧ t.aon.inReset = true ∧ t.aon.resetCause = 7 ∧ u.rdB Reg.SUP_HOIST 3 = true ∧
          u.aon.inReset = true ∧ u.aon.resetCause = 3
        else t.rdB Reg.SUP_HOIST 4 = true ∧ t.aon = s.aon ∧ t.rdB Reg.SYS_CORE3_CTRL 0 = (s.mode.mode.core3Runs && !s.aon.inReset) ∧
          u.rdB Reg.SUP_HOIST 4 = true ∧ u.aon = s.aon)) ∧
  (∀ (w : Fin 4) (s : State), (if w.val = 0 then s.aon.supRunning else s.coresRun) = true →
    ∃ t, exec (.watchdogExpiry w) s = .next t ∧ t.rdB Reg.SUP_HOIST (if w.val = 0 then 1 else 2) = true ∧ t.aon.inReset = true ∧
      t.aon.resetCause = 3 ∧ leAt (t.obj 0x2E00 7) 12 4 = (leAt (s.obj 0x2E00 7) 12 4 + 1) % 2 ^ 32) ∧
  (∀ (c : Fin 4) (v : Word) (cycles : Nat) (s : State), v.toNat % 256 = 0x5A ∨ v.toNat % 256 = 0xA5 → c.val < s.fault.kicks.length →
    let last := (s.fault.kicks.getD c.val none).map Prod.fst
    (last ≠ some (BitVec.ofNat 8 v.toNat) → (last = none ∨ ((c.val ≠ 0 ∨ 1600000 ≤ cycles) ∧ cycles ≤ 8000000)) →
      ∃ t, exec (.watchdogKick (kicker c.val) c v cycles) s = .next t ∧
        t.fault.kicks.getD c.val none = some (BitVec.ofNat 8 v.toNat, s.eventTime) ∧ t = { s with fault := t.fault, bus := { readData := 0 } }) ∧
    (last ≠ some (BitVec.ofNat 8 v.toNat) → last ≠ none → c.val = 0 → cycles < 1600000 →
      ∃ t, exec (.watchdogKick (kicker c.val) c v cycles) s = .next t ∧ t.rdB Reg.SUP_HOIST 1 = true ∧ t.aon.resetCause = 3 ∧ t.aon.inReset = true) ∧
    (last = some (BitVec.ofNat 8 v.toNat) → exec (.watchdogKick (kicker c.val) c v cycles) s = .next { s with bus := { readData := 0 } })) ∧
  (∀ (ini : Initiator) (addr : Nat) (l2 : Option (Fin 16)) (desc : Option (Fin 16 × Nat × Nat)) (s : State), s.aon.asleep = false →
    (∃ t, exec (.eccError ini addr l2 false desc) s = .next t ∧ t.rd Reg.SUP_ECC_CORR = s.rd Reg.SUP_ECC_CORR + 1 ∧
      leAt (t.obj 0x2E00 7) 0 4 = (leAt (s.obj 0x2E00 7) 0 4 + 1) % 2 ^ 32 ∧ State.regsKept [Reg.SUP_ECC_CORR] s t ∧
      State.objsKept [(0x2E00, 7)] s t ∧
      t = { s with regs := t.regs, objs := t.objs, fault := t.fault, dict := { s.dict with older := t.dict.older, backupDue := t.dict.backupDue } }) ∧
    (s.mode.mode ≠ .drill → l2 = none → regionOf addr = .integrator →
      ∃ t, exec (.eccError ini addr l2 true desc) s = .next t ∧ t.rdB Reg.SUP_HOIST 5 = true ∧ t.aon = s.aon ∧
        (s.rdB Reg.SUP_ECC_ADDR_HI 31 = false → (t.rd Reg.SUP_ECC_ADDR_LO).toNat = addr % 2 ^ 32 ∧
          t.rdF Reg.SUP_ECC_ADDR_HI 7 0 = addr / 2 ^ 32 % 256 ∧ t.rdB Reg.SUP_ECC_ADDR_HI 31 = true) ∧
        leAt (t.obj 0x2E00 7) 4 4 = (leAt (s.obj 0x2E00 7) 4 4 + 1) % 2 ^ 32) ∧
    (s.mode.mode ≠ .drill → l2 = none → regionOf addr = .supervisor →
      ∃ t, exec (.eccError ini addr l2 true desc) s = .next t ∧ t.rdB Reg.SUP_HOIST 5 = true ∧ t.aon.inReset = true ∧ t.aon.resetCause = 7))

/-- From R459, R461, R465, R466, R470, R476. TRIG_READBACK, OVERTEMP (above 125 °C) and CLOCK_RATE (beyond 100 ppm) raise and hold their flag, and no
longer hold it when the condition ends. The contactors' readings, from 20 mA and below 2 mA, are compared with what is driven or forced; a
difference raises its flag, the outputs unchanged. A residue abandons the sample in progress as a miss; with none it does nothing. A fabric ECC
error raises its flag and answers its initiator an error or abort. A scrub shows its progress, a full pass counting. HOIST_CLEAR in DAY is refused
while a named flag is active, or for a bit beyond the flags, and else clears them. DEBUG_UNLOCK is refused in DAY, and in COMMISSION takes this
module's value alone. The debug port identifies itself, reaches nothing while locked, and acts as its initiator once unlocked. Each completes. -/
def Obligations.FlagsFollowTheirConditions : Prop :=
  (∀ p ∈ [(fun (b : Bool) => Instr.trigReadbackMismatch (if b then 1 else 0), 14), (fun b => .overtemp (if b then 12501 else 11500) 2500, 12),
      (fun b => .clockRateError (if b then -101 else 100), 9)],
    ∀ s : State, s.aon.inReset = false → s.aonTakes = true →
      (∃ t, exec (p.1 true) s = .next t ∧ t.rdB Reg.SUP_HOIST p.2 = true ∧ t.rdB Reg.SUP_ACTIVE p.2 = true ∧ t.aon = s.aon ∧
        State.regsKept [Reg.SUP_HOIST, Reg.SUP_ACTIVE, Reg.SUP_INT_STAT, Reg.EVR_INT_STAT] s t ∧ State.objsKept [(0x2D00, 9)] s t ∧
        t = { s with regs := t.regs, objs := t.objs, evr := t.evr, fault := t.fault }) ∧
      (∃ t, exec (p.1 false) s = .next t ∧ t.rdB Reg.SUP_ACTIVE p.2 = false ∧ State.regsKept [Reg.SUP_ACTIVE] s t ∧
        t = { s with regs := t.regs, fault := t.fault })) ∧
  (∀ (m0 m1 m2 m3 : Nat) (s : State), s.aon.inReset = false → (∀ m ∈ [m0, m1, m2, m3], m < 2 ∨ 20 ≤ m) →
    let sensed := (if 20 ≤ m0 then 1 else 0) + (if 20 ≤ m1 then 2 else 0) + (if 20 ≤ m2 then 4 else 0) + (if 20 ≤ m3 then 8 else 0)
    let want := if s.rdB Reg.SUP_CONT_FORCE 0 then (if s.aon.comparator then 15 else 0) else s.rdF Reg.AON_CONT_STAT 3 0
    ∃ t, exec (.contReadback m0 m1 m2 m3) s = .next t ∧ t.aon.sensed = sensed ∧ t.rd Reg.AON_CONT_STAT = s.rd Reg.AON_CONT_STAT ∧
      t.rdB Reg.SUP_ACTIVE 7 = decide (sensed ≠ want) ∧ (sensed ≠ want → t.rdB Reg.SUP_HOIST 7 = true) ∧
      (sensed = want → t.rd Reg.SUP_HOIST = s.rd Reg.SUP_HOIST)) ∧
  (∀ s : State, s.ctl.sample ≠ none → s.rdB Reg.DRL_INJECT 31 = false →
    ∃ t, exec .ctlResidueMismatch s = .next t ∧ t.ctl.sample = none ∧ t.rd Reg.CTL_MISS_COUNT = s.rd Reg.CTL_MISS_COUNT + 1 ∧
      t.rdB Reg.SUP_HOIST 16 = true ∧ t.rdF Reg.CTL_STATUS 15 8 = min 255 (s.rdF Reg.CTL_STATUS 15 8 + 1) ∧ t.mem = s.mem ∧ t.aon = s.aon) ∧
  (∀ s : State, s.ctl.sample = none → exec .ctlResidueMismatch s = .next s) ∧
  (∀ (ini : Initiator) (s : State), s.aon.inReset = false →
    ∃ t, exec (.fabricEccError ini) s = .next t ∧ t.rdB Reg.SUP_HOIST 30 = true ∧ t.bus.readData = 0 ∧ t.bus.errorResponse = !ini.isCore ∧
      t.bus.abort = (if ini.isCore then some ini else none)) ∧
  (∀ (m : Fin 3) (k : Fin 101) (s : State), s.aon.asleep = false →
    ∃ t, exec (.scrubPass m k) s = .next t ∧ t.rdF (Reg.SUP_SCRUB m.val) 22 16 = k.val % 100 ∧
      t.rdF (Reg.SUP_SCRUB m.val) 15 0 = (if k.val = 100 then min 65535 (s.rdF (Reg.SUP_SCRUB m.val) 15 0 + 1) else s.rdF (Reg.SUP_SCRUB m.val) 15 0) ∧
      State.regsKept [Reg.SUP_SCRUB m.val] s t ∧ t = { s with regs := t.regs }) ∧
  (∀ (v : List Byte) (s : State), s.coresRun = true → s.mode.mode = .day → v.length = 4 → s.held 0x2E00 2 = false →
    let mask := BitVec.ofNat 32 (fromLE v)
    (mask &&& s.rd Reg.SUP_ACTIVE ≠ 0 → ∃ t, exec (.hoistClear v) s = .next t ∧ t.dict.status = 0x0A ∧ t.regs = s.regs ∧ t.fault = s.fault) ∧
    (mask &&& s.rd Reg.SUP_ACTIVE = 0 → 2 ^ 31 ≤ fromLE v → ∃ t, exec (.hoistClear v) s = .next t ∧ t.dict.status = 0x0C ∧ t.regs = s.regs) ∧
    (mask &&& s.rd Reg.SUP_ACTIVE = 0 → fromLE v < 2 ^ 31 →
      ∃ t, exec (.hoistClear v) s = .next t ∧ t.dict.status = 0 ∧ t.rd Reg.SUP_HOIST = s.rd Reg.SUP_HOIST &&& ~~~mask ∧
        (bit mask 5 = true → t.rdB Reg.SUP_ECC_ADDR_HI 31 = false) ∧
        State.regsKept [Reg.SUP_HOIST, Reg.SUP_DRILLMARK, Reg.SUP_ECC_ADDR_HI] s t)) ∧
  (∀ (v : List Byte) (s : State), s.coresRun = true → v.length = 16 → s.held 0x2E00 8 = false →
    (s.mode.mode = .day → ∃ t, exec (.debugUnlock v) s = .next t ∧ t.dict.status = 8 ∧ t.fault = s.fault) ∧
    (s.mode.mode = .commission → v ≠ s.eui ++ List.replicate 8 0 → ∃ t, exec (.debugUnlock v) s = .next t ∧ t.dict.status = 0x0C ∧ t.fault = s.fault) ∧
    (s.mode.mode = .commission → v = s.eui ++ List.replicate 8 0 →
      ∃ t, exec (.debugUnlock v) s = .next t ∧ t.dict.status = 0 ∧ t.fault.debugUnlocked = true ∧ t.regs = s.regs)) ∧
  (∀ (ini : Initiator) (a w : Nat) (d : Option Word) (s : State),
    (∃ t, exec (.debugPortRequest none) s = .next t ∧ t.fault.debugAnswer ≠ none ∧ t.regs = s.regs ∧ t.mem = s.mem) ∧
    (s.fault.debugUnlocked = false → exec (.debugPortRequest (some (ini, a, w, d))) s = .next s) ∧
    (s.fault.debugUnlocked = true → exec (.debugPortRequest (some (ini, a, w, d))) s = exec (.registerWrite ini a w d) s))

/-- From R471, R472, R473, R504. Outside DRILL and DAY, or with EN 0, each of the twelve injections only sets REFUSED. In DRILL with EN 1, of a target
in its range, nine raise and mark their flag and count, with no reaction; a clock's bit is cleared, a channel is cut with OC; an ECC injection
corrupts its word and an error response its address with no flag; a residue without a sample waits. A queue stall stalls its side alone; its end
ends both, a held push completing where there is room. A fallback check needs the AON clock, and shows the outputs and cycles when done. DRILL_CLEAR
zeroes every setting. A proof step that fails is noted and the next follows; the first that passes marks LOCKSTEP; the last, none having failed,
writes the verdict passed and enters DAY with reason 0x18 unless a trigger of higher rank holds. Each completes. -/
def Obligations.DrillsPerturbWithinTheirLimits : Prop :=
  (∀ c ∈ [Instr.injectOneBitEcc, .injectTwoBitEcc, .injectLockstep, .injectClockMonitor, .injectGrayParity, .injectErrorResponse,
      .injectRetirementChecker, .injectCtlResidue, .injectWatchdogExpiry, .injectSinkOvercurrent, .injectTrngStuck, .injectLocalClockCounter],
    ∀ (ini : Initiator) (g : BitVec 8) (s : State), ini.resident = true →
      ((s.mode.mode ≠ .drill ∧ s.mode.mode ≠ .day) ∨ s.rdB Reg.DRL_CTRL 0 = false) →
      ∃ t, exec (c ini g) s = .next t ∧ t.rdB Reg.DRL_STATUS 3 = true ∧ State.regsKept [Reg.DRL_STATUS] s t ∧
        t = { s with regs := t.regs, bus := { readData := 0 } }) ∧
  (∀ (ini : Initiator) (g : BitVec 8) (s : State), ini.resident = true → s.mode.mode = .drill → s.rdB Reg.DRL_CTRL 0 = true →
    (∀ p ∈ [(Instr.injectLockstep, 0, decide (g.toNat = 0)), (.injectLocalClockCounter, 13, decide (g.toNat = 0)),
        (.injectRetirementChecker, if g.toNat = 3 then 4 else 3, decide (g.toNat ≤ 3) && s.coreRuns g.toNat),
        (.injectWatchdogExpiry, if g.toNat = 0 then 1 else if g.toNat ≤ 3 then 2 else if g.toNat ≤ 6 then 3 else 4,
          decide (g.toNat ≤ 7) && s.watchdogArmed g.toNat),
        (.injectTrngStuck, 25, decide (g.toNat = 0)), (.injectSinkOvercurrent, 23, decide (g.toNat ≤ 23)),
        (.injectGrayParity, 10, decide (g.toNat ≤ 33) && s.queueExists g.toNat),
        (.injectClockMonitor, 8, decide (g.toNat ≤ 18) && s.rdB Reg.SYS_CLKMON g.toNat),
        (.injectCtlResidue, 16, decide (g.toNat = 0) && s.ctl.sample.isSome)],
      p.2.2 = true →
        ∃ t, exec (p.1 ini g) s = .next t ∧ t.rdB Reg.SUP_HOIST p.2.1 = true ∧ t.rdB Reg.SUP_DRILLMARK p.2.1 = true ∧
          t.rd Reg.DRL_COUNT = s.rd Reg.DRL_COUNT + 1 ∧ t.rdB Reg.DRL_INJECT 31 = false ∧ t.aon = s.aon ∧ t.mode = s.mode ∧ t.sys = s.sys ∧
          t.mem = s.mem ∧ t.rd Reg.AON_CONT_STAT = s.rd Reg.AON_CONT_STAT ∧ t.rd Reg.SYS_CORE3_CTRL = s.rd Reg.SYS_CORE3_CTRL) ∧
    (g.toNat ≤ 18 → s.rdB Reg.SYS_CLKMON g.toNat = true →
      ∃ t, exec (.injectClockMonitor ini g) s = .next t ∧ t.rdB Reg.SYS_CLKMON g.toNat = false) ∧
    (g.toNat ≤ 23 → ∃ t, exec (.injectSinkOvercurrent ini g) s = .next t ∧ t.rdB (Reg.SNK_CH_STAT g.toNat) 0 = true ∧
      t.rdB (Reg.SNK_CH_STAT g.toNat) 1 = true) ∧
    (g.toNat ≤ 1 → ∀ p ∈ [(Instr.injectOneBitEcc, false), (.injectTwoBitEcc, true)],
      ∃ t, exec (p.1 ini g) s = .next t ∧ t.rd Reg.DRL_COUNT = s.rd Reg.DRL_COUNT + 1 ∧
        t.fault.corruptWords = s.fault.corruptWords ++ [(s.injectAddr / 16 * 16, decide (g.toNat = 1), p.2)] ∧ t.rd Reg.SUP_HOIST = s.rd Reg.SUP_HOIST) ∧
    (g.toNat = 0 → ∃ t, exec (.injectErrorResponse ini g) s = .next t ∧ t.fault.errorAddr = some (s.injectAddr / 16 * 16) ∧
      t.rd Reg.SUP_HOIST = s.rd Reg.SUP_HOIST) ∧
    (g.toNat = 0 → s.ctl.sample = none → ∃ t, exec (.injectCtlResidue ini g) s = .next t ∧ t.rdB Reg.DRL_INJECT 31 = true ∧
      t.rd Reg.DRL_COUNT = s.rd Reg.DRL_COUNT)) ∧
  (∀ (ini : Initiator) (v : Word) (s : State), ini.resident = true → s.mode.mode = .drill → s.rdB Reg.DRL_CTRL 0 = true → bit v 31 = true →
    fld v 5 0 ≤ 33 → 1 ≤ fld v 23 8 → fld v 5 0 < s.sys.queues.length → s.rdB Reg.DRL_QSTALL 31 = false →
    ∃ t, exec (.queueStall ini v) s = .next t ∧ t.rd Reg.DRL_QSTALL = v &&& 0x80FFFF7F ∧
      (if fld v 6 6 = 0 then (t.queue (fld v 5 0)).stallWrite = true else (t.queue (fld v 5 0)).stallRead = true) ∧
      (∀ q, q ≠ fld v 5 0 → t.queue q = s.queue q) ∧ State.regsKept [Reg.DRL_QSTALL] s t ∧ t = { s with regs := t.regs, sys := t.sys, bus := { readData := 0 } }) ∧
  (∀ s : State, s.rdB Reg.DRL_QSTALL 31 = true → (s.ctl_ 0).held = [] → (s.ctl_ 1).held = [] →
    ∃ t, exec .queueStallEnd s = .next t ∧ t.rdB Reg.DRL_QSTALL 31 = false ∧
      (∀ q, (t.queue q).stallWrite = false ∧ (t.queue q).stallRead = false ∧
        ((s.queue q).offered = none ∨ (s.queue q).stallWrite = false → (t.queue q).entries = (s.queue q).entries) ∧
        (∀ e, (s.queue q).offered = some e → (s.queue q).stallWrite = true → (s.queue q).hold = false →
          (s.queue q).wcount (queueLog q) < 2 ^ queueLog q → (t.queue q).entries = (s.queue q).entries ++ [e] ∧ (t.queue q).offered = none)) ∧
      State.regsKept [Reg.DRL_QSTALL] s t ∧ t = { s with regs := t.regs, sys := t.sys }) ∧
  (∀ (ini : Initiator) (s : State), ini.resident = true → s.mode.mode = .drill → s.rdB Reg.DRL_CTRL 0 = true →
    (s.rdB Reg.SYS_CLKMON 18 = false → ∃ t, exec (.fallbackCheck ini) s = .next t ∧ t.rdB Reg.DRL_STATUS 3 = true ∧ State.regsKept [Reg.DRL_STATUS] s t) ∧
    (s.rdB Reg.SYS_CLKMON 18 = true → ∃ t, exec (.fallbackCheck ini) s = .next t ∧ t.rdB Reg.DRL_AON_TEST 0 = true ∧ t.rdB Reg.DRL_AON_TEST 5 = false ∧
      State.regsKept [Reg.DRL_AON_TEST] s t)) ∧
  (∀ (n : BitVec 16) (s : State), s.rdB Reg.DRL_AON_TEST 0 = true → s.aonTakes = true →
    ∃ t, exec (.fallbackCheckDone n) s = .next t ∧ t.rdB Reg.DRL_AON_TEST 0 = false ∧ t.rdB Reg.DRL_AON_TEST 5 = true ∧
      t.rdF Reg.DRL_AON_TEST 31 16 = n.toNat ∧ t.rdF Reg.DRL_AON_TEST 4 1 = (if s.rdB Reg.AON_STATUS 0 then 15 else 0) ∧
      State.regsKept [Reg.DRL_AON_TEST] s t ∧ t = { s with regs := t.regs }) ∧
  (∀ (ini : Initiator) (v : Word) (s : State), ini.resident = true → s.rdB Reg.DRL_QSTALL 31 = false →
    ∃ t, exec (.drillClear ini v) s = .next t ∧ (∀ a ∈ [Reg.DRL_QSTALL, Reg.DRL_SYNC, Reg.DRL_RADIO 0, Reg.DRL_RADIO 1, Reg.DRL_RADIO 2, Reg.DRL_RADIO 3,
        Reg.DRL_INJECT, Reg.DRL_INJECT_ADDR_LO, Reg.DRL_INJECT_ADDR_HI, Reg.DRL_DMA], t.rd a = 0) ∧ t.rdB Reg.DRL_AON_TEST 0 = false ∧
      t.rdB Reg.DRL_CTRL 0 = (bit v 0 && (s.drillFull || s.drillLive)) ∧ t.rd Reg.DRL_STATUS = s.rd Reg.DRL_STATUS ∧ t.sys = s.sys ∧
      t.fault.errorAddr = none ∧ t.objs = s.objs ∧ t.mem = s.mem) ∧
  (∀ (p : Proof) (s : State), s.mode.mode = .drill → s.fault.proof = some p →
    (p.step < 13 → ∃ t, exec (.proofStep false) s = .next t ∧
      t.fault.proof = some { p with step := p.step + 1, firstFailed := some (p.firstFailed.getD p.step) } ∧ t = { s with fault := t.fault }) ∧
    (p.step = 0 → ∃ t, exec (.proofStep true) s = .next t ∧ t.fault.proof = some { p with step := 1, passed := p.passed + 1 } ∧
      t.rdB Reg.SUP_DRILLMARK 0 = true ∧ t.rdB Reg.SUP_HOIST 0 = true ∧ t.mode = s.mode ∧ t.aon = s.aon) ∧
    (p.step = 13 → p.firstFailed = none →
      ∃ t, exec (.proofStep true) s = .next t ∧ (if s.outranked = true then t.mode = s.mode else t.mode.mode = .day ∧ t.mode.reason = 0x18) ∧
        t.fault.proof = none ∧
        t.fault.lastPassedEnd = some s.eventTime ∧ t.fault.lastVerdict = 1 ∧ leAt (t.obj 0x2E00 5) 10 2 = 0xFF01))
end

