-- ==== Sys2Proof/Laws/Sparse.lean ====
section
/-! SUPPORT. The sparse stores: a read after a write, and the canonical form that every write keeps. -/

namespace Sys2Proof.Machine

/-! ## A read after a write -/

theorem Sparse.find?_insert_same {α : Type} (k : Nat) (v : α) (l : List (Nat × α)) :
    Sparse.find? k (Sparse.insert k v l) = some v := by
  induction l with
  | nil => simp [Sparse.insert, Sparse.find?]
  | cons e t ih =>
    obtain ⟨a, w⟩ := e
    simp only [Sparse.insert]
    split
    · simp [Sparse.find?]
    · split
      · simp [Sparse.find?]
      · simp [Sparse.find?, *]

theorem Sparse.find?_insert_ne {α : Type} {j k : Nat} (v : α) (l : List (Nat × α)) (h : j ≠ k) :
    Sparse.find? j (Sparse.insert k v l) = Sparse.find? j l := by
  induction l with
  | nil => simp [Sparse.insert, Sparse.find?, Ne.symm h]
  | cons e t ih =>
    obtain ⟨a, w⟩ := e
    simp only [Sparse.insert]
    split
    · simp [Sparse.find?, Ne.symm h]
    · split
      · rename_i _ ha
        subst ha
        simp [Sparse.find?, Ne.symm h]
      · simp [Sparse.find?, ih]

theorem Sparse.find?_erase_same {α : Type} (k : Nat) (l : List (Nat × α)) : Sparse.find? k (Sparse.erase k l) = none := by
  induction l with
  | nil => rfl
  | cons e t ih =>
    obtain ⟨a, w⟩ := e
    simp only [Sparse.erase]
    split
    · exact ih
    · simp [Sparse.find?, *]

theorem Sparse.find?_erase_ne {α : Type} {j k : Nat} (l : List (Nat × α)) (h : j ≠ k) :
    Sparse.find? j (Sparse.erase k l) = Sparse.find? j l := by
  induction l with
  | nil => rfl
  | cons e t ih =>
    obtain ⟨a, w⟩ := e
    simp only [Sparse.erase]
    split
    · rename_i ha
      subst ha
      simp [Sparse.find?, Ne.symm h, ih]
    · simp [Sparse.find?, ih]

@[simp] theorem Sparse.get_set_same {α : Type} [DecidableEq α] (d : Nat → α) (l : List (Nat × α)) (k : Nat) (v : α) :
    Sparse.get d (Sparse.set d l k v) k = v := by
  unfold Sparse.get Sparse.set
  split
  · rename_i w h
    split at h
    · simp [Sparse.find?_erase_same] at h
    · rw [Sparse.find?_insert_same] at h
      exact (Option.some.inj h).symm
  · rename_i h
    split at h
    · simp [*]
    · simp [Sparse.find?_insert_same] at h

theorem Sparse.get_set_ne {α : Type} [DecidableEq α] (d : Nat → α) (l : List (Nat × α)) {j k : Nat} (v : α) (h : j ≠ k) :
    Sparse.get d (Sparse.set d l k v) j = Sparse.get d l j := by
  have e : Sparse.find? j (Sparse.set d l k v) = Sparse.find? j l := by
    unfold Sparse.set
    split
    · exact Sparse.find?_erase_ne l h
    · exact Sparse.find?_insert_ne v l h
  simp [Sparse.get, e]

theorem Sparse.get_set {α : Type} [DecidableEq α] (d : Nat → α) (l : List (Nat × α)) (j k : Nat) (v : α) :
    Sparse.get d (Sparse.set d l k v) j = if j = k then v else Sparse.get d l j := by
  split
  · subst_vars; simp
  · exact Sparse.get_set_ne d l v ‹_›

/-- A byte outside the bytes written reads as before. -/
theorem Sparse.get_setMany_out {α : Type} [DecidableEq α] (d : Nat → α) (vs : List α) :
    ∀ (l : List (Nat × α)) (k j : Nat), (j < k ∨ k + vs.length ≤ j) → Sparse.get d (Sparse.setMany d l k vs) j = Sparse.get d l j := by
  induction vs with
  | nil => intros; rfl
  | cons v t ih =>
    intro l k j h
    simp only [List.length_cons] at h
    rw [Sparse.setMany, ih _ _ _ (by omega), Sparse.get_set_ne _ _ _ (by omega)]

/-- A byte among the bytes written reads as it was written. -/
theorem Sparse.get_setMany_in {α : Type} [DecidableEq α] (d : Nat → α) (vs : List α) :
    ∀ (l : List (Nat × α)) (k i : Nat) (h : i < vs.length), Sparse.get d (Sparse.setMany d l k vs) (k + i) = vs[i] := by
  induction vs with
  | nil => intro _ _ _ h; simp at h
  | cons v t ih =>
    intro l k i h
    rw [Sparse.setMany]
    cases i with
    | zero => rw [Sparse.get_setMany_out _ _ _ _ _ (by omega)]; simp
    | succ i =>
      have := ih (Sparse.set d l k v) (k + 1) i (by simpa using h)
      rw [show k + (i + 1) = k + 1 + i by omega, this]
      simp

/-! ## The canonical form -/

/-- Every key lies above a bound. -/
def Sparse.above {α : Type} (b : Nat) (l : List (Nat × α)) : Prop := ∀ e ∈ l, b < e.1

theorem Sparse.rising_cons {α : Type} (a : Nat) (w : α) (t : List (Nat × α)) :
    Sparse.rising ((a, w) :: t) = true ↔ Sparse.above a t ∧ Sparse.rising t = true := by
  induction t generalizing a w with
  | nil => simp [Sparse.rising, Sparse.above]
  | cons e u ih =>
    obtain ⟨b, x⟩ := e
    have hb := ih b x
    simp only [Sparse.rising, Bool.and_eq_true] at hb ⊢
    rw [hb]
    simp only [Sparse.above, List.mem_cons, forall_eq_or_imp]
    constructor
    · rintro ⟨h1, h2, h3⟩
      have h1 : a < b := by simpa [Nat.blt_eq] using h1
      exact ⟨⟨h1, fun e he => Nat.lt_trans h1 (h2 e he)⟩, h2, h3⟩
    · rintro ⟨⟨h1, _⟩, h2, h3⟩
      exact ⟨by simpa [Nat.blt_eq] using h1, h2, h3⟩

theorem Sparse.mem_insert {α : Type} (k : Nat) (v : α) (l : List (Nat × α)) :
    ∀ e ∈ Sparse.insert k v l, e = (k, v) ∨ e ∈ l := by
  induction l with
  | nil => intro e he; simpa [Sparse.insert] using he
  | cons x t ih =>
    obtain ⟨a, w⟩ := x
    intro e he
    simp only [Sparse.insert] at he
    split at he
    · simpa using he
    · split at he
      · simp only [List.mem_cons] at he ⊢
        rcases he with h | h
        · exact .inl h
        · exact .inr (.inr h)
      · simp only [List.mem_cons] at he ⊢
        rcases he with h | h
        · exact .inr (.inl h)
        · rcases ih e h with h | h
          · exact .inl h
          · exact .inr (.inr h)

theorem Sparse.mem_erase {α : Type} (k : Nat) (l : List (Nat × α)) : ∀ e ∈ Sparse.erase k l, e ∈ l := by
  induction l with
  | nil => intro e he; simp [Sparse.erase] at he
  | cons x t ih =>
    obtain ⟨a, w⟩ := x
    intro e he
    simp only [Sparse.erase] at he
    split at he
    · exact List.mem_cons_of_mem _ (ih e he)
    · simp only [List.mem_cons] at he ⊢
      exact he.imp id (ih e)

theorem Sparse.rising_insert {α : Type} (k : Nat) (v : α) (l : List (Nat × α)) (h : Sparse.rising l = true) :
    Sparse.rising (Sparse.insert k v l) = true := by
  induction l with
  | nil => rfl
  | cons x t ih =>
    obtain ⟨a, w⟩ := x
    have hh := (Sparse.rising_cons a w t).1 h
    simp only [Sparse.insert]
    split
    · rename_i hk
      rw [Sparse.rising_cons]
      refine ⟨fun e he => ?_, h⟩
      rcases List.mem_cons.1 he with h1 | h1
      · subst h1; exact hk
      · exact Nat.lt_trans hk (hh.1 e h1)
    · split
      · rename_i hk ha
        subst ha
        rw [Sparse.rising_cons]
        exact hh
      · rename_i hk ha
        rw [Sparse.rising_cons]
        refine ⟨fun e he => ?_, ih hh.2⟩
        rcases Sparse.mem_insert k v t e he with h1 | h1
        · subst h1; simp only; omega
        · exact hh.1 e h1

theorem Sparse.rising_erase {α : Type} (k : Nat) (l : List (Nat × α)) (h : Sparse.rising l = true) :
    Sparse.rising (Sparse.erase k l) = true := by
  induction l with
  | nil => rfl
  | cons x t ih =>
    obtain ⟨a, w⟩ := x
    have hh := (Sparse.rising_cons a w t).1 h
    simp only [Sparse.erase]
    split
    · exact ih hh.2
    · rw [Sparse.rising_cons]
      exact ⟨fun e he => hh.1 e (Sparse.mem_erase k t e he), ih hh.2⟩

/-- A write keeps the canonical form. -/
theorem Sparse.wf_set {α : Type} [DecidableEq α] (d : Nat → α) (l : List (Nat × α)) (k : Nat) (v : α) (h : Sparse.wf d l = true) :
    Sparse.wf d (Sparse.set d l k v) = true := by
  simp only [Sparse.wf, Bool.and_eq_true, List.all_eq_true] at h ⊢
  unfold Sparse.set
  split
  · exact ⟨Sparse.rising_erase k l h.1, fun e he => h.2 e (Sparse.mem_erase k l e he)⟩
  · refine ⟨Sparse.rising_insert k v l h.1, fun e he => ?_⟩
    rcases Sparse.mem_insert k v l e he with h1 | h1
    · subst h1; simpa using ‹¬ v = d k›
    · exact h.2 e h1

theorem Sparse.wf_setMany {α : Type} [DecidableEq α] (d : Nat → α) (vs : List α) :
    ∀ (l : List (Nat × α)) (k : Nat), Sparse.wf d l = true → Sparse.wf d (Sparse.setMany d l k vs) = true := by
  induction vs with
  | nil => intro l _ h; exact h
  | cons v t ih => intro l k h; exact ih _ _ (Sparse.wf_set d l k v h)

/-- Leaving out entries keeps the canonical form. -/
theorem Sparse.wf_filter {α : Type} [DecidableEq α] (d : Nat → α) (p : Nat × α → Bool) (l : List (Nat × α)) (h : Sparse.wf d l = true) :
    Sparse.wf d (l.filter p) = true := by
  simp only [Sparse.wf, Bool.and_eq_true, List.all_eq_true] at h ⊢
  refine ⟨?_, fun e he => h.2 e ((List.mem_filter.1 he).1)⟩
  have hr := h.1
  clear h
  induction l with
  | nil => rfl
  | cons x t ih =>
    obtain ⟨a, w⟩ := x
    have hh := (Sparse.rising_cons a w t).1 hr
    rw [List.filter_cons]
    split
    · rw [Sparse.rising_cons]
      exact ⟨fun e he => hh.1 e ((List.mem_filter.1 he).1), ih hh.2⟩
    · exact ih hh.2

end Sys2Proof.Machine
end

