-- ==== Sys2Proof/Laws/State.lean ====
section
/-! SUPPORT. One lemma per field of the state per update: what an update leaves, and what it stores. -/

namespace Sys2Proof.Machine

/-! ### wr -/

@[simp] theorem State.wr_pending (s : State) (a : Nat) (v : Word) : (s.wr a v).pending = s.pending := rfl
@[simp] theorem State.wr_objs (s : State) (a : Nat) (v : Word) : (s.wr a v).objs = s.objs := rfl
@[simp] theorem State.wr_mem (s : State) (a : Nat) (v : Word) : (s.wr a v).mem = s.mem := rfl
@[simp] theorem State.wr_bus (s : State) (a : Nat) (v : Word) : (s.wr a v).bus = s.bus := rfl
@[simp] theorem State.wr_sys (s : State) (a : Nat) (v : Word) : (s.wr a v).sys = s.sys := rfl
@[simp] theorem State.wr_mode (s : State) (a : Nat) (v : Word) : (s.wr a v).mode = s.mode := rfl
@[simp] theorem State.wr_aon (s : State) (a : Nat) (v : Word) : (s.wr a v).aon = s.aon := rfl
@[simp] theorem State.wr_evr (s : State) (a : Nat) (v : Word) : (s.wr a v).evr = s.evr := rfl
@[simp] theorem State.wr_fault (s : State) (a : Nat) (v : Word) : (s.wr a v).fault = s.fault := rfl
@[simp] theorem State.wr_time (s : State) (a : Nat) (v : Word) : (s.wr a v).time = s.time := rfl
@[simp] theorem State.wr_rtc (s : State) (a : Nat) (v : Word) : (s.wr a v).rtc = s.rtc := rfl
@[simp] theorem State.wr_dict (s : State) (a : Nat) (v : Word) : (s.wr a v).dict = s.dict := rfl
@[simp] theorem State.wr_key (s : State) (a : Nat) (v : Word) : (s.wr a v).key = s.key := rfl
@[simp] theorem State.wr_cry (s : State) (a : Nat) (v : Word) : (s.wr a v).cry = s.cry := rfl
@[simp] theorem State.wr_macs (s : State) (a : Nat) (v : Word) : (s.wr a v).macs = s.macs := rfl
@[simp] theorem State.wr_member (s : State) (a : Nat) (v : Word) : (s.wr a v).member = s.member := rfl
@[simp] theorem State.wr_traffic (s : State) (a : Nat) (v : Word) : (s.wr a v).traffic = s.traffic := rfl
@[simp] theorem State.wr_ctl (s : State) (a : Nat) (v : Word) : (s.wr a v).ctl = s.ctl := rfl
@[simp] theorem State.wr_mtr (s : State) (a : Nat) (v : Word) : (s.wr a v).mtr = s.mtr := rfl
@[simp] theorem State.wr_cal (s : State) (a : Nat) (v : Word) : (s.wr a v).cal = s.cal := rfl
@[simp] theorem State.wr_can (s : State) (a : Nat) (v : Word) : (s.wr a v).can = s.can := rfl
@[simp] theorem State.wr_net (s : State) (a : Nat) (v : Word) : (s.wr a v).net = s.net := rfl
@[simp] theorem State.wr_dma (s : State) (a : Nat) (v : Word) : (s.wr a v).dma = s.dma := rfl
@[simp] theorem State.wr_snk (s : State) (a : Nat) (v : Word) : (s.wr a v).snk = s.snk := rfl
@[simp] theorem State.wr_hal (s : State) (a : Nat) (v : Word) : (s.wr a v).hal = s.hal := rfl
@[simp] theorem State.wr_upd (s : State) (a : Nat) (v : Word) : (s.wr a v).upd = s.upd := rfl
@[simp] theorem State.wr_freeIx (s : State) (a : Nat) (v : Word) : (s.wr a v).freeIx = s.freeIx := rfl

/-! ### wrF -/

@[simp] theorem State.wrF_pending (s : State) (a hi lo v : Nat) : (s.wrF a hi lo v).pending = s.pending := State.wr_pending s a _
@[simp] theorem State.wrF_objs (s : State) (a hi lo v : Nat) : (s.wrF a hi lo v).objs = s.objs := State.wr_objs s a _
@[simp] theorem State.wrF_mem (s : State) (a hi lo v : Nat) : (s.wrF a hi lo v).mem = s.mem := State.wr_mem s a _
@[simp] theorem State.wrF_bus (s : State) (a hi lo v : Nat) : (s.wrF a hi lo v).bus = s.bus := State.wr_bus s a _
@[simp] theorem State.wrF_sys (s : State) (a hi lo v : Nat) : (s.wrF a hi lo v).sys = s.sys := State.wr_sys s a _
@[simp] theorem State.wrF_mode (s : State) (a hi lo v : Nat) : (s.wrF a hi lo v).mode = s.mode := State.wr_mode s a _
@[simp] theorem State.wrF_aon (s : State) (a hi lo v : Nat) : (s.wrF a hi lo v).aon = s.aon := State.wr_aon s a _
@[simp] theorem State.wrF_evr (s : State) (a hi lo v : Nat) : (s.wrF a hi lo v).evr = s.evr := State.wr_evr s a _
@[simp] theorem State.wrF_fault (s : State) (a hi lo v : Nat) : (s.wrF a hi lo v).fault = s.fault := State.wr_fault s a _
@[simp] theorem State.wrF_time (s : State) (a hi lo v : Nat) : (s.wrF a hi lo v).time = s.time := State.wr_time s a _
@[simp] theorem State.wrF_rtc (s : State) (a hi lo v : Nat) : (s.wrF a hi lo v).rtc = s.rtc := State.wr_rtc s a _
@[simp] theorem State.wrF_dict (s : State) (a hi lo v : Nat) : (s.wrF a hi lo v).dict = s.dict := State.wr_dict s a _
@[simp] theorem State.wrF_key (s : State) (a hi lo v : Nat) : (s.wrF a hi lo v).key = s.key := State.wr_key s a _
@[simp] theorem State.wrF_cry (s : State) (a hi lo v : Nat) : (s.wrF a hi lo v).cry = s.cry := State.wr_cry s a _
@[simp] theorem State.wrF_macs (s : State) (a hi lo v : Nat) : (s.wrF a hi lo v).macs = s.macs := State.wr_macs s a _
@[simp] theorem State.wrF_member (s : State) (a hi lo v : Nat) : (s.wrF a hi lo v).member = s.member := State.wr_member s a _
@[simp] theorem State.wrF_traffic (s : State) (a hi lo v : Nat) : (s.wrF a hi lo v).traffic = s.traffic := State.wr_traffic s a _
@[simp] theorem State.wrF_ctl (s : State) (a hi lo v : Nat) : (s.wrF a hi lo v).ctl = s.ctl := State.wr_ctl s a _
@[simp] theorem State.wrF_mtr (s : State) (a hi lo v : Nat) : (s.wrF a hi lo v).mtr = s.mtr := State.wr_mtr s a _
@[simp] theorem State.wrF_cal (s : State) (a hi lo v : Nat) : (s.wrF a hi lo v).cal = s.cal := State.wr_cal s a _
@[simp] theorem State.wrF_can (s : State) (a hi lo v : Nat) : (s.wrF a hi lo v).can = s.can := State.wr_can s a _
@[simp] theorem State.wrF_net (s : State) (a hi lo v : Nat) : (s.wrF a hi lo v).net = s.net := State.wr_net s a _
@[simp] theorem State.wrF_dma (s : State) (a hi lo v : Nat) : (s.wrF a hi lo v).dma = s.dma := State.wr_dma s a _
@[simp] theorem State.wrF_snk (s : State) (a hi lo v : Nat) : (s.wrF a hi lo v).snk = s.snk := State.wr_snk s a _
@[simp] theorem State.wrF_hal (s : State) (a hi lo v : Nat) : (s.wrF a hi lo v).hal = s.hal := State.wr_hal s a _
@[simp] theorem State.wrF_upd (s : State) (a hi lo v : Nat) : (s.wrF a hi lo v).upd = s.upd := State.wr_upd s a _
@[simp] theorem State.wrF_freeIx (s : State) (a hi lo v : Nat) : (s.wrF a hi lo v).freeIx = s.freeIx := State.wr_freeIx s a _

/-! ### wrB -/

@[simp] theorem State.wrB_pending (s : State) (a i : Nat) (b : Bool) : (s.wrB a i b).pending = s.pending := State.wr_pending s a _
@[simp] theorem State.wrB_objs (s : State) (a i : Nat) (b : Bool) : (s.wrB a i b).objs = s.objs := State.wr_objs s a _
@[simp] theorem State.wrB_mem (s : State) (a i : Nat) (b : Bool) : (s.wrB a i b).mem = s.mem := State.wr_mem s a _
@[simp] theorem State.wrB_bus (s : State) (a i : Nat) (b : Bool) : (s.wrB a i b).bus = s.bus := State.wr_bus s a _
@[simp] theorem State.wrB_sys (s : State) (a i : Nat) (b : Bool) : (s.wrB a i b).sys = s.sys := State.wr_sys s a _
@[simp] theorem State.wrB_mode (s : State) (a i : Nat) (b : Bool) : (s.wrB a i b).mode = s.mode := State.wr_mode s a _
@[simp] theorem State.wrB_aon (s : State) (a i : Nat) (b : Bool) : (s.wrB a i b).aon = s.aon := State.wr_aon s a _
@[simp] theorem State.wrB_evr (s : State) (a i : Nat) (b : Bool) : (s.wrB a i b).evr = s.evr := State.wr_evr s a _
@[simp] theorem State.wrB_fault (s : State) (a i : Nat) (b : Bool) : (s.wrB a i b).fault = s.fault := State.wr_fault s a _
@[simp] theorem State.wrB_time (s : State) (a i : Nat) (b : Bool) : (s.wrB a i b).time = s.time := State.wr_time s a _
@[simp] theorem State.wrB_rtc (s : State) (a i : Nat) (b : Bool) : (s.wrB a i b).rtc = s.rtc := State.wr_rtc s a _
@[simp] theorem State.wrB_dict (s : State) (a i : Nat) (b : Bool) : (s.wrB a i b).dict = s.dict := State.wr_dict s a _
@[simp] theorem State.wrB_key (s : State) (a i : Nat) (b : Bool) : (s.wrB a i b).key = s.key := State.wr_key s a _
@[simp] theorem State.wrB_cry (s : State) (a i : Nat) (b : Bool) : (s.wrB a i b).cry = s.cry := State.wr_cry s a _
@[simp] theorem State.wrB_macs (s : State) (a i : Nat) (b : Bool) : (s.wrB a i b).macs = s.macs := State.wr_macs s a _
@[simp] theorem State.wrB_member (s : State) (a i : Nat) (b : Bool) : (s.wrB a i b).member = s.member := State.wr_member s a _
@[simp] theorem State.wrB_traffic (s : State) (a i : Nat) (b : Bool) : (s.wrB a i b).traffic = s.traffic := State.wr_traffic s a _
@[simp] theorem State.wrB_ctl (s : State) (a i : Nat) (b : Bool) : (s.wrB a i b).ctl = s.ctl := State.wr_ctl s a _
@[simp] theorem State.wrB_mtr (s : State) (a i : Nat) (b : Bool) : (s.wrB a i b).mtr = s.mtr := State.wr_mtr s a _
@[simp] theorem State.wrB_cal (s : State) (a i : Nat) (b : Bool) : (s.wrB a i b).cal = s.cal := State.wr_cal s a _
@[simp] theorem State.wrB_can (s : State) (a i : Nat) (b : Bool) : (s.wrB a i b).can = s.can := State.wr_can s a _
@[simp] theorem State.wrB_net (s : State) (a i : Nat) (b : Bool) : (s.wrB a i b).net = s.net := State.wr_net s a _
@[simp] theorem State.wrB_dma (s : State) (a i : Nat) (b : Bool) : (s.wrB a i b).dma = s.dma := State.wr_dma s a _
@[simp] theorem State.wrB_snk (s : State) (a i : Nat) (b : Bool) : (s.wrB a i b).snk = s.snk := State.wr_snk s a _
@[simp] theorem State.wrB_hal (s : State) (a i : Nat) (b : Bool) : (s.wrB a i b).hal = s.hal := State.wr_hal s a _
@[simp] theorem State.wrB_upd (s : State) (a i : Nat) (b : Bool) : (s.wrB a i b).upd = s.upd := State.wr_upd s a _
@[simp] theorem State.wrB_freeIx (s : State) (a i : Nat) (b : Bool) : (s.wrB a i b).freeIx = s.freeIx := State.wr_freeIx s a _

/-! ### wrN -/

@[simp] theorem State.wrN_pending (s : State) (a v : Nat) : (s.wrN a v).pending = s.pending := State.wr_pending s a _
@[simp] theorem State.wrN_objs (s : State) (a v : Nat) : (s.wrN a v).objs = s.objs := State.wr_objs s a _
@[simp] theorem State.wrN_mem (s : State) (a v : Nat) : (s.wrN a v).mem = s.mem := State.wr_mem s a _
@[simp] theorem State.wrN_bus (s : State) (a v : Nat) : (s.wrN a v).bus = s.bus := State.wr_bus s a _
@[simp] theorem State.wrN_sys (s : State) (a v : Nat) : (s.wrN a v).sys = s.sys := State.wr_sys s a _
@[simp] theorem State.wrN_mode (s : State) (a v : Nat) : (s.wrN a v).mode = s.mode := State.wr_mode s a _
@[simp] theorem State.wrN_aon (s : State) (a v : Nat) : (s.wrN a v).aon = s.aon := State.wr_aon s a _
@[simp] theorem State.wrN_evr (s : State) (a v : Nat) : (s.wrN a v).evr = s.evr := State.wr_evr s a _
@[simp] theorem State.wrN_fault (s : State) (a v : Nat) : (s.wrN a v).fault = s.fault := State.wr_fault s a _
@[simp] theorem State.wrN_time (s : State) (a v : Nat) : (s.wrN a v).time = s.time := State.wr_time s a _
@[simp] theorem State.wrN_rtc (s : State) (a v : Nat) : (s.wrN a v).rtc = s.rtc := State.wr_rtc s a _
@[simp] theorem State.wrN_dict (s : State) (a v : Nat) : (s.wrN a v).dict = s.dict := State.wr_dict s a _
@[simp] theorem State.wrN_key (s : State) (a v : Nat) : (s.wrN a v).key = s.key := State.wr_key s a _
@[simp] theorem State.wrN_cry (s : State) (a v : Nat) : (s.wrN a v).cry = s.cry := State.wr_cry s a _
@[simp] theorem State.wrN_macs (s : State) (a v : Nat) : (s.wrN a v).macs = s.macs := State.wr_macs s a _
@[simp] theorem State.wrN_member (s : State) (a v : Nat) : (s.wrN a v).member = s.member := State.wr_member s a _
@[simp] theorem State.wrN_traffic (s : State) (a v : Nat) : (s.wrN a v).traffic = s.traffic := State.wr_traffic s a _
@[simp] theorem State.wrN_ctl (s : State) (a v : Nat) : (s.wrN a v).ctl = s.ctl := State.wr_ctl s a _
@[simp] theorem State.wrN_mtr (s : State) (a v : Nat) : (s.wrN a v).mtr = s.mtr := State.wr_mtr s a _
@[simp] theorem State.wrN_cal (s : State) (a v : Nat) : (s.wrN a v).cal = s.cal := State.wr_cal s a _
@[simp] theorem State.wrN_can (s : State) (a v : Nat) : (s.wrN a v).can = s.can := State.wr_can s a _
@[simp] theorem State.wrN_net (s : State) (a v : Nat) : (s.wrN a v).net = s.net := State.wr_net s a _
@[simp] theorem State.wrN_dma (s : State) (a v : Nat) : (s.wrN a v).dma = s.dma := State.wr_dma s a _
@[simp] theorem State.wrN_snk (s : State) (a v : Nat) : (s.wrN a v).snk = s.snk := State.wr_snk s a _
@[simp] theorem State.wrN_hal (s : State) (a v : Nat) : (s.wrN a v).hal = s.hal := State.wr_hal s a _
@[simp] theorem State.wrN_upd (s : State) (a v : Nat) : (s.wrN a v).upd = s.upd := State.wr_upd s a _
@[simp] theorem State.wrN_freeIx (s : State) (a v : Nat) : (s.wrN a v).freeIx = s.freeIx := State.wr_freeIx s a _

/-! ### bump -/

@[simp] theorem State.bump_pending (s : State) (a n : Nat) : (s.bump a n).pending = s.pending := State.wr_pending s a _
@[simp] theorem State.bump_objs (s : State) (a n : Nat) : (s.bump a n).objs = s.objs := State.wr_objs s a _
@[simp] theorem State.bump_mem (s : State) (a n : Nat) : (s.bump a n).mem = s.mem := State.wr_mem s a _
@[simp] theorem State.bump_bus (s : State) (a n : Nat) : (s.bump a n).bus = s.bus := State.wr_bus s a _
@[simp] theorem State.bump_sys (s : State) (a n : Nat) : (s.bump a n).sys = s.sys := State.wr_sys s a _
@[simp] theorem State.bump_mode (s : State) (a n : Nat) : (s.bump a n).mode = s.mode := State.wr_mode s a _
@[simp] theorem State.bump_aon (s : State) (a n : Nat) : (s.bump a n).aon = s.aon := State.wr_aon s a _
@[simp] theorem State.bump_evr (s : State) (a n : Nat) : (s.bump a n).evr = s.evr := State.wr_evr s a _
@[simp] theorem State.bump_fault (s : State) (a n : Nat) : (s.bump a n).fault = s.fault := State.wr_fault s a _
@[simp] theorem State.bump_time (s : State) (a n : Nat) : (s.bump a n).time = s.time := State.wr_time s a _
@[simp] theorem State.bump_rtc (s : State) (a n : Nat) : (s.bump a n).rtc = s.rtc := State.wr_rtc s a _
@[simp] theorem State.bump_dict (s : State) (a n : Nat) : (s.bump a n).dict = s.dict := State.wr_dict s a _
@[simp] theorem State.bump_key (s : State) (a n : Nat) : (s.bump a n).key = s.key := State.wr_key s a _
@[simp] theorem State.bump_cry (s : State) (a n : Nat) : (s.bump a n).cry = s.cry := State.wr_cry s a _
@[simp] theorem State.bump_macs (s : State) (a n : Nat) : (s.bump a n).macs = s.macs := State.wr_macs s a _
@[simp] theorem State.bump_member (s : State) (a n : Nat) : (s.bump a n).member = s.member := State.wr_member s a _
@[simp] theorem State.bump_traffic (s : State) (a n : Nat) : (s.bump a n).traffic = s.traffic := State.wr_traffic s a _
@[simp] theorem State.bump_ctl (s : State) (a n : Nat) : (s.bump a n).ctl = s.ctl := State.wr_ctl s a _
@[simp] theorem State.bump_mtr (s : State) (a n : Nat) : (s.bump a n).mtr = s.mtr := State.wr_mtr s a _
@[simp] theorem State.bump_cal (s : State) (a n : Nat) : (s.bump a n).cal = s.cal := State.wr_cal s a _
@[simp] theorem State.bump_can (s : State) (a n : Nat) : (s.bump a n).can = s.can := State.wr_can s a _
@[simp] theorem State.bump_net (s : State) (a n : Nat) : (s.bump a n).net = s.net := State.wr_net s a _
@[simp] theorem State.bump_dma (s : State) (a n : Nat) : (s.bump a n).dma = s.dma := State.wr_dma s a _
@[simp] theorem State.bump_snk (s : State) (a n : Nat) : (s.bump a n).snk = s.snk := State.wr_snk s a _
@[simp] theorem State.bump_hal (s : State) (a n : Nat) : (s.bump a n).hal = s.hal := State.wr_hal s a _
@[simp] theorem State.bump_upd (s : State) (a n : Nat) : (s.bump a n).upd = s.upd := State.wr_upd s a _
@[simp] theorem State.bump_freeIx (s : State) (a n : Nat) : (s.bump a n).freeIx = s.freeIx := State.wr_freeIx s a _

/-! ### setObj -/

@[simp] theorem State.setObj_pending (s : State) (idx sub : Nat) (v : List Byte) : (s.setObj idx sub v).pending = s.pending := rfl
@[simp] theorem State.setObj_regs (s : State) (idx sub : Nat) (v : List Byte) : (s.setObj idx sub v).regs = s.regs := rfl
@[simp] theorem State.setObj_mem (s : State) (idx sub : Nat) (v : List Byte) : (s.setObj idx sub v).mem = s.mem := rfl
@[simp] theorem State.setObj_bus (s : State) (idx sub : Nat) (v : List Byte) : (s.setObj idx sub v).bus = s.bus := rfl
@[simp] theorem State.setObj_sys (s : State) (idx sub : Nat) (v : List Byte) : (s.setObj idx sub v).sys = s.sys := rfl
@[simp] theorem State.setObj_mode (s : State) (idx sub : Nat) (v : List Byte) : (s.setObj idx sub v).mode = s.mode := rfl
@[simp] theorem State.setObj_aon (s : State) (idx sub : Nat) (v : List Byte) : (s.setObj idx sub v).aon = s.aon := rfl
@[simp] theorem State.setObj_evr (s : State) (idx sub : Nat) (v : List Byte) : (s.setObj idx sub v).evr = s.evr := rfl
@[simp] theorem State.setObj_fault (s : State) (idx sub : Nat) (v : List Byte) : (s.setObj idx sub v).fault = s.fault := rfl
@[simp] theorem State.setObj_time (s : State) (idx sub : Nat) (v : List Byte) : (s.setObj idx sub v).time = s.time := rfl
@[simp] theorem State.setObj_rtc (s : State) (idx sub : Nat) (v : List Byte) : (s.setObj idx sub v).rtc = s.rtc := rfl
@[simp] theorem State.setObj_key (s : State) (idx sub : Nat) (v : List Byte) : (s.setObj idx sub v).key = s.key := rfl
@[simp] theorem State.setObj_cry (s : State) (idx sub : Nat) (v : List Byte) : (s.setObj idx sub v).cry = s.cry := rfl
@[simp] theorem State.setObj_macs (s : State) (idx sub : Nat) (v : List Byte) : (s.setObj idx sub v).macs = s.macs := rfl
@[simp] theorem State.setObj_member (s : State) (idx sub : Nat) (v : List Byte) : (s.setObj idx sub v).member = s.member := rfl
@[simp] theorem State.setObj_traffic (s : State) (idx sub : Nat) (v : List Byte) : (s.setObj idx sub v).traffic = s.traffic := rfl
@[simp] theorem State.setObj_ctl (s : State) (idx sub : Nat) (v : List Byte) : (s.setObj idx sub v).ctl = s.ctl := rfl
@[simp] theorem State.setObj_mtr (s : State) (idx sub : Nat) (v : List Byte) : (s.setObj idx sub v).mtr = s.mtr := rfl
@[simp] theorem State.setObj_cal (s : State) (idx sub : Nat) (v : List Byte) : (s.setObj idx sub v).cal = s.cal := rfl
@[simp] theorem State.setObj_can (s : State) (idx sub : Nat) (v : List Byte) : (s.setObj idx sub v).can = s.can := rfl
@[simp] theorem State.setObj_net (s : State) (idx sub : Nat) (v : List Byte) : (s.setObj idx sub v).net = s.net := rfl
@[simp] theorem State.setObj_dma (s : State) (idx sub : Nat) (v : List Byte) : (s.setObj idx sub v).dma = s.dma := rfl
@[simp] theorem State.setObj_snk (s : State) (idx sub : Nat) (v : List Byte) : (s.setObj idx sub v).snk = s.snk := rfl
@[simp] theorem State.setObj_hal (s : State) (idx sub : Nat) (v : List Byte) : (s.setObj idx sub v).hal = s.hal := rfl
@[simp] theorem State.setObj_upd (s : State) (idx sub : Nat) (v : List Byte) : (s.setObj idx sub v).upd = s.upd := rfl
@[simp] theorem State.setObj_freeIx (s : State) (idx sub : Nat) (v : List Byte) : (s.setObj idx sub v).freeIx = s.freeIx := rfl

/-! ### setObjN -/

@[simp] theorem State.setObjN_pending (s : State) (idx sub n v : Nat) : (s.setObjN idx sub n v).pending = s.pending := State.setObj_pending s idx sub _
@[simp] theorem State.setObjN_regs (s : State) (idx sub n v : Nat) : (s.setObjN idx sub n v).regs = s.regs := State.setObj_regs s idx sub _
@[simp] theorem State.setObjN_mem (s : State) (idx sub n v : Nat) : (s.setObjN idx sub n v).mem = s.mem := State.setObj_mem s idx sub _
@[simp] theorem State.setObjN_bus (s : State) (idx sub n v : Nat) : (s.setObjN idx sub n v).bus = s.bus := State.setObj_bus s idx sub _
@[simp] theorem State.setObjN_sys (s : State) (idx sub n v : Nat) : (s.setObjN idx sub n v).sys = s.sys := State.setObj_sys s idx sub _
@[simp] theorem State.setObjN_mode (s : State) (idx sub n v : Nat) : (s.setObjN idx sub n v).mode = s.mode := State.setObj_mode s idx sub _
@[simp] theorem State.setObjN_aon (s : State) (idx sub n v : Nat) : (s.setObjN idx sub n v).aon = s.aon := State.setObj_aon s idx sub _
@[simp] theorem State.setObjN_evr (s : State) (idx sub n v : Nat) : (s.setObjN idx sub n v).evr = s.evr := State.setObj_evr s idx sub _
@[simp] theorem State.setObjN_fault (s : State) (idx sub n v : Nat) : (s.setObjN idx sub n v).fault = s.fault := State.setObj_fault s idx sub _
@[simp] theorem State.setObjN_time (s : State) (idx sub n v : Nat) : (s.setObjN idx sub n v).time = s.time := State.setObj_time s idx sub _
@[simp] theorem State.setObjN_rtc (s : State) (idx sub n v : Nat) : (s.setObjN idx sub n v).rtc = s.rtc := State.setObj_rtc s idx sub _
@[simp] theorem State.setObjN_key (s : State) (idx sub n v : Nat) : (s.setObjN idx sub n v).key = s.key := State.setObj_key s idx sub _
@[simp] theorem State.setObjN_cry (s : State) (idx sub n v : Nat) : (s.setObjN idx sub n v).cry = s.cry := State.setObj_cry s idx sub _
@[simp] theorem State.setObjN_macs (s : State) (idx sub n v : Nat) : (s.setObjN idx sub n v).macs = s.macs := State.setObj_macs s idx sub _
@[simp] theorem State.setObjN_member (s : State) (idx sub n v : Nat) : (s.setObjN idx sub n v).member = s.member := State.setObj_member s idx sub _
@[simp] theorem State.setObjN_traffic (s : State) (idx sub n v : Nat) : (s.setObjN idx sub n v).traffic = s.traffic := State.setObj_traffic s idx sub _
@[simp] theorem State.setObjN_ctl (s : State) (idx sub n v : Nat) : (s.setObjN idx sub n v).ctl = s.ctl := State.setObj_ctl s idx sub _
@[simp] theorem State.setObjN_mtr (s : State) (idx sub n v : Nat) : (s.setObjN idx sub n v).mtr = s.mtr := State.setObj_mtr s idx sub _
@[simp] theorem State.setObjN_cal (s : State) (idx sub n v : Nat) : (s.setObjN idx sub n v).cal = s.cal := State.setObj_cal s idx sub _
@[simp] theorem State.setObjN_can (s : State) (idx sub n v : Nat) : (s.setObjN idx sub n v).can = s.can := State.setObj_can s idx sub _
@[simp] theorem State.setObjN_net (s : State) (idx sub n v : Nat) : (s.setObjN idx sub n v).net = s.net := State.setObj_net s idx sub _
@[simp] theorem State.setObjN_dma (s : State) (idx sub n v : Nat) : (s.setObjN idx sub n v).dma = s.dma := State.setObj_dma s idx sub _
@[simp] theorem State.setObjN_snk (s : State) (idx sub n v : Nat) : (s.setObjN idx sub n v).snk = s.snk := State.setObj_snk s idx sub _
@[simp] theorem State.setObjN_hal (s : State) (idx sub n v : Nat) : (s.setObjN idx sub n v).hal = s.hal := State.setObj_hal s idx sub _
@[simp] theorem State.setObjN_upd (s : State) (idx sub n v : Nat) : (s.setObjN idx sub n v).upd = s.upd := State.setObj_upd s idx sub _
@[simp] theorem State.setObjN_freeIx (s : State) (idx sub n v : Nat) : (s.setObjN idx sub n v).freeIx = s.freeIx := State.setObj_freeIx s idx sub _

/-! ### bumpObj -/

@[simp] theorem State.bumpObj_pending (s : State) (idx sub n : Nat) : (s.bumpObj idx sub n).pending = s.pending := State.setObjN_pending s idx sub n _
@[simp] theorem State.bumpObj_regs (s : State) (idx sub n : Nat) : (s.bumpObj idx sub n).regs = s.regs := State.setObjN_regs s idx sub n _
@[simp] theorem State.bumpObj_mem (s : State) (idx sub n : Nat) : (s.bumpObj idx sub n).mem = s.mem := State.setObjN_mem s idx sub n _
@[simp] theorem State.bumpObj_bus (s : State) (idx sub n : Nat) : (s.bumpObj idx sub n).bus = s.bus := State.setObjN_bus s idx sub n _
@[simp] theorem State.bumpObj_sys (s : State) (idx sub n : Nat) : (s.bumpObj idx sub n).sys = s.sys := State.setObjN_sys s idx sub n _
@[simp] theorem State.bumpObj_mode (s : State) (idx sub n : Nat) : (s.bumpObj idx sub n).mode = s.mode := State.setObjN_mode s idx sub n _
@[simp] theorem State.bumpObj_aon (s : State) (idx sub n : Nat) : (s.bumpObj idx sub n).aon = s.aon := State.setObjN_aon s idx sub n _
@[simp] theorem State.bumpObj_evr (s : State) (idx sub n : Nat) : (s.bumpObj idx sub n).evr = s.evr := State.setObjN_evr s idx sub n _
@[simp] theorem State.bumpObj_fault (s : State) (idx sub n : Nat) : (s.bumpObj idx sub n).fault = s.fault := State.setObjN_fault s idx sub n _
@[simp] theorem State.bumpObj_time (s : State) (idx sub n : Nat) : (s.bumpObj idx sub n).time = s.time := State.setObjN_time s idx sub n _
@[simp] theorem State.bumpObj_rtc (s : State) (idx sub n : Nat) : (s.bumpObj idx sub n).rtc = s.rtc := State.setObjN_rtc s idx sub n _
@[simp] theorem State.bumpObj_key (s : State) (idx sub n : Nat) : (s.bumpObj idx sub n).key = s.key := State.setObjN_key s idx sub n _
@[simp] theorem State.bumpObj_cry (s : State) (idx sub n : Nat) : (s.bumpObj idx sub n).cry = s.cry := State.setObjN_cry s idx sub n _
@[simp] theorem State.bumpObj_macs (s : State) (idx sub n : Nat) : (s.bumpObj idx sub n).macs = s.macs := State.setObjN_macs s idx sub n _
@[simp] theorem State.bumpObj_member (s : State) (idx sub n : Nat) : (s.bumpObj idx sub n).member = s.member := State.setObjN_member s idx sub n _
@[simp] theorem State.bumpObj_traffic (s : State) (idx sub n : Nat) : (s.bumpObj idx sub n).traffic = s.traffic := State.setObjN_traffic s idx sub n _
@[simp] theorem State.bumpObj_ctl (s : State) (idx sub n : Nat) : (s.bumpObj idx sub n).ctl = s.ctl := State.setObjN_ctl s idx sub n _
@[simp] theorem State.bumpObj_mtr (s : State) (idx sub n : Nat) : (s.bumpObj idx sub n).mtr = s.mtr := State.setObjN_mtr s idx sub n _
@[simp] theorem State.bumpObj_cal (s : State) (idx sub n : Nat) : (s.bumpObj idx sub n).cal = s.cal := State.setObjN_cal s idx sub n _
@[simp] theorem State.bumpObj_can (s : State) (idx sub n : Nat) : (s.bumpObj idx sub n).can = s.can := State.setObjN_can s idx sub n _
@[simp] theorem State.bumpObj_net (s : State) (idx sub n : Nat) : (s.bumpObj idx sub n).net = s.net := State.setObjN_net s idx sub n _
@[simp] theorem State.bumpObj_dma (s : State) (idx sub n : Nat) : (s.bumpObj idx sub n).dma = s.dma := State.setObjN_dma s idx sub n _
@[simp] theorem State.bumpObj_snk (s : State) (idx sub n : Nat) : (s.bumpObj idx sub n).snk = s.snk := State.setObjN_snk s idx sub n _
@[simp] theorem State.bumpObj_hal (s : State) (idx sub n : Nat) : (s.bumpObj idx sub n).hal = s.hal := State.setObjN_hal s idx sub n _
@[simp] theorem State.bumpObj_upd (s : State) (idx sub n : Nat) : (s.bumpObj idx sub n).upd = s.upd := State.setObjN_upd s idx sub n _
@[simp] theorem State.bumpObj_freeIx (s : State) (idx sub n : Nat) : (s.bumpObj idx sub n).freeIx = s.freeIx := State.setObjN_freeIx s idx sub n _

/-! ### bumpU32 -/

@[simp] theorem State.bumpU32_pending (s : State) (idx sub k n : Nat) : (s.bumpU32 idx sub k n).pending = s.pending := State.setObj_pending s idx sub _
@[simp] theorem State.bumpU32_regs (s : State) (idx sub k n : Nat) : (s.bumpU32 idx sub k n).regs = s.regs := State.setObj_regs s idx sub _
@[simp] theorem State.bumpU32_mem (s : State) (idx sub k n : Nat) : (s.bumpU32 idx sub k n).mem = s.mem := State.setObj_mem s idx sub _
@[simp] theorem State.bumpU32_bus (s : State) (idx sub k n : Nat) : (s.bumpU32 idx sub k n).bus = s.bus := State.setObj_bus s idx sub _
@[simp] theorem State.bumpU32_sys (s : State) (idx sub k n : Nat) : (s.bumpU32 idx sub k n).sys = s.sys := State.setObj_sys s idx sub _
@[simp] theorem State.bumpU32_mode (s : State) (idx sub k n : Nat) : (s.bumpU32 idx sub k n).mode = s.mode := State.setObj_mode s idx sub _
@[simp] theorem State.bumpU32_aon (s : State) (idx sub k n : Nat) : (s.bumpU32 idx sub k n).aon = s.aon := State.setObj_aon s idx sub _
@[simp] theorem State.bumpU32_evr (s : State) (idx sub k n : Nat) : (s.bumpU32 idx sub k n).evr = s.evr := State.setObj_evr s idx sub _
@[simp] theorem State.bumpU32_fault (s : State) (idx sub k n : Nat) : (s.bumpU32 idx sub k n).fault = s.fault := State.setObj_fault s idx sub _
@[simp] theorem State.bumpU32_time (s : State) (idx sub k n : Nat) : (s.bumpU32 idx sub k n).time = s.time := State.setObj_time s idx sub _
@[simp] theorem State.bumpU32_rtc (s : State) (idx sub k n : Nat) : (s.bumpU32 idx sub k n).rtc = s.rtc := State.setObj_rtc s idx sub _
@[simp] theorem State.bumpU32_key (s : State) (idx sub k n : Nat) : (s.bumpU32 idx sub k n).key = s.key := State.setObj_key s idx sub _
@[simp] theorem State.bumpU32_cry (s : State) (idx sub k n : Nat) : (s.bumpU32 idx sub k n).cry = s.cry := State.setObj_cry s idx sub _
@[simp] theorem State.bumpU32_macs (s : State) (idx sub k n : Nat) : (s.bumpU32 idx sub k n).macs = s.macs := State.setObj_macs s idx sub _
@[simp] theorem State.bumpU32_member (s : State) (idx sub k n : Nat) : (s.bumpU32 idx sub k n).member = s.member := State.setObj_member s idx sub _
@[simp] theorem State.bumpU32_traffic (s : State) (idx sub k n : Nat) : (s.bumpU32 idx sub k n).traffic = s.traffic := State.setObj_traffic s idx sub _
@[simp] theorem State.bumpU32_ctl (s : State) (idx sub k n : Nat) : (s.bumpU32 idx sub k n).ctl = s.ctl := State.setObj_ctl s idx sub _
@[simp] theorem State.bumpU32_mtr (s : State) (idx sub k n : Nat) : (s.bumpU32 idx sub k n).mtr = s.mtr := State.setObj_mtr s idx sub _
@[simp] theorem State.bumpU32_cal (s : State) (idx sub k n : Nat) : (s.bumpU32 idx sub k n).cal = s.cal := State.setObj_cal s idx sub _
@[simp] theorem State.bumpU32_can (s : State) (idx sub k n : Nat) : (s.bumpU32 idx sub k n).can = s.can := State.setObj_can s idx sub _
@[simp] theorem State.bumpU32_net (s : State) (idx sub k n : Nat) : (s.bumpU32 idx sub k n).net = s.net := State.setObj_net s idx sub _
@[simp] theorem State.bumpU32_dma (s : State) (idx sub k n : Nat) : (s.bumpU32 idx sub k n).dma = s.dma := State.setObj_dma s idx sub _
@[simp] theorem State.bumpU32_snk (s : State) (idx sub k n : Nat) : (s.bumpU32 idx sub k n).snk = s.snk := State.setObj_snk s idx sub _
@[simp] theorem State.bumpU32_hal (s : State) (idx sub k n : Nat) : (s.bumpU32 idx sub k n).hal = s.hal := State.setObj_hal s idx sub _
@[simp] theorem State.bumpU32_upd (s : State) (idx sub k n : Nat) : (s.bumpU32 idx sub k n).upd = s.upd := State.setObj_upd s idx sub _
@[simp] theorem State.bumpU32_freeIx (s : State) (idx sub k n : Nat) : (s.bumpU32 idx sub k n).freeIx = s.freeIx := State.setObj_freeIx s idx sub _

/-! ### writeMem -/

@[simp] theorem State.writeMem_pending (s : State) (a : Nat) (bs : List Byte) : (s.writeMem a bs).pending = s.pending := rfl
@[simp] theorem State.writeMem_regs (s : State) (a : Nat) (bs : List Byte) : (s.writeMem a bs).regs = s.regs := rfl
@[simp] theorem State.writeMem_objs (s : State) (a : Nat) (bs : List Byte) : (s.writeMem a bs).objs = s.objs := rfl
@[simp] theorem State.writeMem_bus (s : State) (a : Nat) (bs : List Byte) : (s.writeMem a bs).bus = s.bus := rfl
@[simp] theorem State.writeMem_sys (s : State) (a : Nat) (bs : List Byte) : (s.writeMem a bs).sys = s.sys := rfl
@[simp] theorem State.writeMem_mode (s : State) (a : Nat) (bs : List Byte) : (s.writeMem a bs).mode = s.mode := rfl
@[simp] theorem State.writeMem_aon (s : State) (a : Nat) (bs : List Byte) : (s.writeMem a bs).aon = s.aon := rfl
@[simp] theorem State.writeMem_evr (s : State) (a : Nat) (bs : List Byte) : (s.writeMem a bs).evr = s.evr := rfl
@[simp] theorem State.writeMem_fault (s : State) (a : Nat) (bs : List Byte) : (s.writeMem a bs).fault = s.fault := rfl
@[simp] theorem State.writeMem_time (s : State) (a : Nat) (bs : List Byte) : (s.writeMem a bs).time = s.time := rfl
@[simp] theorem State.writeMem_rtc (s : State) (a : Nat) (bs : List Byte) : (s.writeMem a bs).rtc = s.rtc := rfl
@[simp] theorem State.writeMem_dict (s : State) (a : Nat) (bs : List Byte) : (s.writeMem a bs).dict = s.dict := rfl
@[simp] theorem State.writeMem_key (s : State) (a : Nat) (bs : List Byte) : (s.writeMem a bs).key = s.key := rfl
@[simp] theorem State.writeMem_cry (s : State) (a : Nat) (bs : List Byte) : (s.writeMem a bs).cry = s.cry := rfl
@[simp] theorem State.writeMem_macs (s : State) (a : Nat) (bs : List Byte) : (s.writeMem a bs).macs = s.macs := rfl
@[simp] theorem State.writeMem_member (s : State) (a : Nat) (bs : List Byte) : (s.writeMem a bs).member = s.member := rfl
@[simp] theorem State.writeMem_traffic (s : State) (a : Nat) (bs : List Byte) : (s.writeMem a bs).traffic = s.traffic := rfl
@[simp] theorem State.writeMem_ctl (s : State) (a : Nat) (bs : List Byte) : (s.writeMem a bs).ctl = s.ctl := rfl
@[simp] theorem State.writeMem_mtr (s : State) (a : Nat) (bs : List Byte) : (s.writeMem a bs).mtr = s.mtr := rfl
@[simp] theorem State.writeMem_cal (s : State) (a : Nat) (bs : List Byte) : (s.writeMem a bs).cal = s.cal := rfl
@[simp] theorem State.writeMem_can (s : State) (a : Nat) (bs : List Byte) : (s.writeMem a bs).can = s.can := rfl
@[simp] theorem State.writeMem_net (s : State) (a : Nat) (bs : List Byte) : (s.writeMem a bs).net = s.net := rfl
@[simp] theorem State.writeMem_dma (s : State) (a : Nat) (bs : List Byte) : (s.writeMem a bs).dma = s.dma := rfl
@[simp] theorem State.writeMem_snk (s : State) (a : Nat) (bs : List Byte) : (s.writeMem a bs).snk = s.snk := rfl
@[simp] theorem State.writeMem_hal (s : State) (a : Nat) (bs : List Byte) : (s.writeMem a bs).hal = s.hal := rfl
@[simp] theorem State.writeMem_upd (s : State) (a : Nat) (bs : List Byte) : (s.writeMem a bs).upd = s.upd := rfl
@[simp] theorem State.writeMem_freeIx (s : State) (a : Nat) (bs : List Byte) : (s.writeMem a bs).freeIx = s.freeIx := rfl

/-! ### setMemN -/

@[simp] theorem State.setMemN_pending (s : State) (a n v : Nat) : (s.setMemN a n v).pending = s.pending := State.writeMem_pending s a _
@[simp] theorem State.setMemN_regs (s : State) (a n v : Nat) : (s.setMemN a n v).regs = s.regs := State.writeMem_regs s a _
@[simp] theorem State.setMemN_objs (s : State) (a n v : Nat) : (s.setMemN a n v).objs = s.objs := State.writeMem_objs s a _
@[simp] theorem State.setMemN_bus (s : State) (a n v : Nat) : (s.setMemN a n v).bus = s.bus := State.writeMem_bus s a _
@[simp] theorem State.setMemN_sys (s : State) (a n v : Nat) : (s.setMemN a n v).sys = s.sys := State.writeMem_sys s a _
@[simp] theorem State.setMemN_mode (s : State) (a n v : Nat) : (s.setMemN a n v).mode = s.mode := State.writeMem_mode s a _
@[simp] theorem State.setMemN_aon (s : State) (a n v : Nat) : (s.setMemN a n v).aon = s.aon := State.writeMem_aon s a _
@[simp] theorem State.setMemN_evr (s : State) (a n v : Nat) : (s.setMemN a n v).evr = s.evr := State.writeMem_evr s a _
@[simp] theorem State.setMemN_fault (s : State) (a n v : Nat) : (s.setMemN a n v).fault = s.fault := State.writeMem_fault s a _
@[simp] theorem State.setMemN_time (s : State) (a n v : Nat) : (s.setMemN a n v).time = s.time := State.writeMem_time s a _
@[simp] theorem State.setMemN_rtc (s : State) (a n v : Nat) : (s.setMemN a n v).rtc = s.rtc := State.writeMem_rtc s a _
@[simp] theorem State.setMemN_dict (s : State) (a n v : Nat) : (s.setMemN a n v).dict = s.dict := State.writeMem_dict s a _
@[simp] theorem State.setMemN_key (s : State) (a n v : Nat) : (s.setMemN a n v).key = s.key := State.writeMem_key s a _
@[simp] theorem State.setMemN_cry (s : State) (a n v : Nat) : (s.setMemN a n v).cry = s.cry := State.writeMem_cry s a _
@[simp] theorem State.setMemN_macs (s : State) (a n v : Nat) : (s.setMemN a n v).macs = s.macs := State.writeMem_macs s a _
@[simp] theorem State.setMemN_member (s : State) (a n v : Nat) : (s.setMemN a n v).member = s.member := State.writeMem_member s a _
@[simp] theorem State.setMemN_traffic (s : State) (a n v : Nat) : (s.setMemN a n v).traffic = s.traffic := State.writeMem_traffic s a _
@[simp] theorem State.setMemN_ctl (s : State) (a n v : Nat) : (s.setMemN a n v).ctl = s.ctl := State.writeMem_ctl s a _
@[simp] theorem State.setMemN_mtr (s : State) (a n v : Nat) : (s.setMemN a n v).mtr = s.mtr := State.writeMem_mtr s a _
@[simp] theorem State.setMemN_cal (s : State) (a n v : Nat) : (s.setMemN a n v).cal = s.cal := State.writeMem_cal s a _
@[simp] theorem State.setMemN_can (s : State) (a n v : Nat) : (s.setMemN a n v).can = s.can := State.writeMem_can s a _
@[simp] theorem State.setMemN_net (s : State) (a n v : Nat) : (s.setMemN a n v).net = s.net := State.writeMem_net s a _
@[simp] theorem State.setMemN_dma (s : State) (a n v : Nat) : (s.setMemN a n v).dma = s.dma := State.writeMem_dma s a _
@[simp] theorem State.setMemN_snk (s : State) (a n v : Nat) : (s.setMemN a n v).snk = s.snk := State.writeMem_snk s a _
@[simp] theorem State.setMemN_hal (s : State) (a n v : Nat) : (s.setMemN a n v).hal = s.hal := State.writeMem_hal s a _
@[simp] theorem State.setMemN_upd (s : State) (a n v : Nat) : (s.setMemN a n v).upd = s.upd := State.writeMem_upd s a _
@[simp] theorem State.setMemN_freeIx (s : State) (a n v : Nat) : (s.setMemN a n v).freeIx = s.freeIx := State.writeMem_freeIx s a _

/-! ### answer -/

@[simp] theorem State.answer_pending (s : State) (v : Word) : (s.answer v).pending = s.pending := rfl
@[simp] theorem State.answer_regs (s : State) (v : Word) : (s.answer v).regs = s.regs := rfl
@[simp] theorem State.answer_objs (s : State) (v : Word) : (s.answer v).objs = s.objs := rfl
@[simp] theorem State.answer_mem (s : State) (v : Word) : (s.answer v).mem = s.mem := rfl
@[simp] theorem State.answer_sys (s : State) (v : Word) : (s.answer v).sys = s.sys := rfl
@[simp] theorem State.answer_mode (s : State) (v : Word) : (s.answer v).mode = s.mode := rfl
@[simp] theorem State.answer_aon (s : State) (v : Word) : (s.answer v).aon = s.aon := rfl
@[simp] theorem State.answer_evr (s : State) (v : Word) : (s.answer v).evr = s.evr := rfl
@[simp] theorem State.answer_fault (s : State) (v : Word) : (s.answer v).fault = s.fault := rfl
@[simp] theorem State.answer_time (s : State) (v : Word) : (s.answer v).time = s.time := rfl
@[simp] theorem State.answer_rtc (s : State) (v : Word) : (s.answer v).rtc = s.rtc := rfl
@[simp] theorem State.answer_dict (s : State) (v : Word) : (s.answer v).dict = s.dict := rfl
@[simp] theorem State.answer_key (s : State) (v : Word) : (s.answer v).key = s.key := rfl
@[simp] theorem State.answer_cry (s : State) (v : Word) : (s.answer v).cry = s.cry := rfl
@[simp] theorem State.answer_macs (s : State) (v : Word) : (s.answer v).macs = s.macs := rfl
@[simp] theorem State.answer_member (s : State) (v : Word) : (s.answer v).member = s.member := rfl
@[simp] theorem State.answer_traffic (s : State) (v : Word) : (s.answer v).traffic = s.traffic := rfl
@[simp] theorem State.answer_ctl (s : State) (v : Word) : (s.answer v).ctl = s.ctl := rfl
@[simp] theorem State.answer_mtr (s : State) (v : Word) : (s.answer v).mtr = s.mtr := rfl
@[simp] theorem State.answer_cal (s : State) (v : Word) : (s.answer v).cal = s.cal := rfl
@[simp] theorem State.answer_can (s : State) (v : Word) : (s.answer v).can = s.can := rfl
@[simp] theorem State.answer_net (s : State) (v : Word) : (s.answer v).net = s.net := rfl
@[simp] theorem State.answer_dma (s : State) (v : Word) : (s.answer v).dma = s.dma := rfl
@[simp] theorem State.answer_snk (s : State) (v : Word) : (s.answer v).snk = s.snk := rfl
@[simp] theorem State.answer_hal (s : State) (v : Word) : (s.answer v).hal = s.hal := rfl
@[simp] theorem State.answer_upd (s : State) (v : Word) : (s.answer v).upd = s.upd := rfl
@[simp] theorem State.answer_freeIx (s : State) (v : Word) : (s.answer v).freeIx = s.freeIx := rfl

/-! ### refuse -/

@[simp] theorem State.refuse_pending (s : State) (ini : Initiator) : (s.refuse ini).pending = s.pending := rfl
@[simp] theorem State.refuse_regs (s : State) (ini : Initiator) : (s.refuse ini).regs = s.regs := rfl
@[simp] theorem State.refuse_objs (s : State) (ini : Initiator) : (s.refuse ini).objs = s.objs := rfl
@[simp] theorem State.refuse_mem (s : State) (ini : Initiator) : (s.refuse ini).mem = s.mem := rfl
@[simp] theorem State.refuse_sys (s : State) (ini : Initiator) : (s.refuse ini).sys = s.sys := rfl
@[simp] theorem State.refuse_mode (s : State) (ini : Initiator) : (s.refuse ini).mode = s.mode := rfl
@[simp] theorem State.refuse_aon (s : State) (ini : Initiator) : (s.refuse ini).aon = s.aon := rfl
@[simp] theorem State.refuse_evr (s : State) (ini : Initiator) : (s.refuse ini).evr = s.evr := rfl
@[simp] theorem State.refuse_fault (s : State) (ini : Initiator) : (s.refuse ini).fault = s.fault := rfl
@[simp] theorem State.refuse_time (s : State) (ini : Initiator) : (s.refuse ini).time = s.time := rfl
@[simp] theorem State.refuse_rtc (s : State) (ini : Initiator) : (s.refuse ini).rtc = s.rtc := rfl
@[simp] theorem State.refuse_dict (s : State) (ini : Initiator) : (s.refuse ini).dict = s.dict := rfl
@[simp] theorem State.refuse_key (s : State) (ini : Initiator) : (s.refuse ini).key = s.key := rfl
@[simp] theorem State.refuse_cry (s : State) (ini : Initiator) : (s.refuse ini).cry = s.cry := rfl
@[simp] theorem State.refuse_macs (s : State) (ini : Initiator) : (s.refuse ini).macs = s.macs := rfl
@[simp] theorem State.refuse_member (s : State) (ini : Initiator) : (s.refuse ini).member = s.member := rfl
@[simp] theorem State.refuse_traffic (s : State) (ini : Initiator) : (s.refuse ini).traffic = s.traffic := rfl
@[simp] theorem State.refuse_ctl (s : State) (ini : Initiator) : (s.refuse ini).ctl = s.ctl := rfl
@[simp] theorem State.refuse_mtr (s : State) (ini : Initiator) : (s.refuse ini).mtr = s.mtr := rfl
@[simp] theorem State.refuse_cal (s : State) (ini : Initiator) : (s.refuse ini).cal = s.cal := rfl
@[simp] theorem State.refuse_can (s : State) (ini : Initiator) : (s.refuse ini).can = s.can := rfl
@[simp] theorem State.refuse_net (s : State) (ini : Initiator) : (s.refuse ini).net = s.net := rfl
@[simp] theorem State.refuse_dma (s : State) (ini : Initiator) : (s.refuse ini).dma = s.dma := rfl
@[simp] theorem State.refuse_snk (s : State) (ini : Initiator) : (s.refuse ini).snk = s.snk := rfl
@[simp] theorem State.refuse_hal (s : State) (ini : Initiator) : (s.refuse ini).hal = s.hal := rfl
@[simp] theorem State.refuse_upd (s : State) (ini : Initiator) : (s.refuse ini).upd = s.upd := rfl
@[simp] theorem State.refuse_freeIx (s : State) (ini : Initiator) : (s.refuse ini).freeIx = s.freeIx := rfl

/-! ### upTo -/

@[simp] theorem State.upTo_pending (s : State) (t : Ns) : (s.upTo t).pending = s.pending := rfl
@[simp] theorem State.upTo_regs (s : State) (t : Ns) : (s.upTo t).regs = s.regs := rfl
@[simp] theorem State.upTo_objs (s : State) (t : Ns) : (s.upTo t).objs = s.objs := rfl
@[simp] theorem State.upTo_mem (s : State) (t : Ns) : (s.upTo t).mem = s.mem := rfl
@[simp] theorem State.upTo_bus (s : State) (t : Ns) : (s.upTo t).bus = s.bus := rfl
@[simp] theorem State.upTo_sys (s : State) (t : Ns) : (s.upTo t).sys = s.sys := rfl
@[simp] theorem State.upTo_mode (s : State) (t : Ns) : (s.upTo t).mode = s.mode := rfl
@[simp] theorem State.upTo_aon (s : State) (t : Ns) : (s.upTo t).aon = s.aon := rfl
@[simp] theorem State.upTo_evr (s : State) (t : Ns) : (s.upTo t).evr = s.evr := rfl
@[simp] theorem State.upTo_fault (s : State) (t : Ns) : (s.upTo t).fault = s.fault := rfl
@[simp] theorem State.upTo_dict (s : State) (t : Ns) : (s.upTo t).dict = s.dict := rfl
@[simp] theorem State.upTo_key (s : State) (t : Ns) : (s.upTo t).key = s.key := rfl
@[simp] theorem State.upTo_cry (s : State) (t : Ns) : (s.upTo t).cry = s.cry := rfl
@[simp] theorem State.upTo_macs (s : State) (t : Ns) : (s.upTo t).macs = s.macs := rfl
@[simp] theorem State.upTo_member (s : State) (t : Ns) : (s.upTo t).member = s.member := rfl
@[simp] theorem State.upTo_traffic (s : State) (t : Ns) : (s.upTo t).traffic = s.traffic := rfl
@[simp] theorem State.upTo_ctl (s : State) (t : Ns) : (s.upTo t).ctl = s.ctl := rfl
@[simp] theorem State.upTo_mtr (s : State) (t : Ns) : (s.upTo t).mtr = s.mtr := rfl
@[simp] theorem State.upTo_cal (s : State) (t : Ns) : (s.upTo t).cal = s.cal := rfl
@[simp] theorem State.upTo_can (s : State) (t : Ns) : (s.upTo t).can = s.can := rfl
@[simp] theorem State.upTo_net (s : State) (t : Ns) : (s.upTo t).net = s.net := rfl
@[simp] theorem State.upTo_dma (s : State) (t : Ns) : (s.upTo t).dma = s.dma := rfl
@[simp] theorem State.upTo_snk (s : State) (t : Ns) : (s.upTo t).snk = s.snk := rfl
@[simp] theorem State.upTo_hal (s : State) (t : Ns) : (s.upTo t).hal = s.hal := rfl
@[simp] theorem State.upTo_upd (s : State) (t : Ns) : (s.upTo t).upd = s.upd := rfl
@[simp] theorem State.upTo_freeIx (s : State) (t : Ns) : (s.upTo t).freeIx = s.freeIx := rfl

/-! ### setQueue -/

@[simp] theorem State.setQueue_pending (s : State) (q : Nat) (d : DQueue) : (s.setQueue q d).pending = s.pending := rfl
@[simp] theorem State.setQueue_regs (s : State) (q : Nat) (d : DQueue) : (s.setQueue q d).regs = s.regs := rfl
@[simp] theorem State.setQueue_objs (s : State) (q : Nat) (d : DQueue) : (s.setQueue q d).objs = s.objs := rfl
@[simp] theorem State.setQueue_mem (s : State) (q : Nat) (d : DQueue) : (s.setQueue q d).mem = s.mem := rfl
@[simp] theorem State.setQueue_bus (s : State) (q : Nat) (d : DQueue) : (s.setQueue q d).bus = s.bus := rfl
@[simp] theorem State.setQueue_mode (s : State) (q : Nat) (d : DQueue) : (s.setQueue q d).mode = s.mode := rfl
@[simp] theorem State.setQueue_aon (s : State) (q : Nat) (d : DQueue) : (s.setQueue q d).aon = s.aon := rfl
@[simp] theorem State.setQueue_evr (s : State) (q : Nat) (d : DQueue) : (s.setQueue q d).evr = s.evr := rfl
@[simp] theorem State.setQueue_fault (s : State) (q : Nat) (d : DQueue) : (s.setQueue q d).fault = s.fault := rfl
@[simp] theorem State.setQueue_time (s : State) (q : Nat) (d : DQueue) : (s.setQueue q d).time = s.time := rfl
@[simp] theorem State.setQueue_rtc (s : State) (q : Nat) (d : DQueue) : (s.setQueue q d).rtc = s.rtc := rfl
@[simp] theorem State.setQueue_dict (s : State) (q : Nat) (d : DQueue) : (s.setQueue q d).dict = s.dict := rfl
@[simp] theorem State.setQueue_key (s : State) (q : Nat) (d : DQueue) : (s.setQueue q d).key = s.key := rfl
@[simp] theorem State.setQueue_cry (s : State) (q : Nat) (d : DQueue) : (s.setQueue q d).cry = s.cry := rfl
@[simp] theorem State.setQueue_macs (s : State) (q : Nat) (d : DQueue) : (s.setQueue q d).macs = s.macs := rfl
@[simp] theorem State.setQueue_member (s : State) (q : Nat) (d : DQueue) : (s.setQueue q d).member = s.member := rfl
@[simp] theorem State.setQueue_traffic (s : State) (q : Nat) (d : DQueue) : (s.setQueue q d).traffic = s.traffic := rfl
@[simp] theorem State.setQueue_ctl (s : State) (q : Nat) (d : DQueue) : (s.setQueue q d).ctl = s.ctl := rfl
@[simp] theorem State.setQueue_mtr (s : State) (q : Nat) (d : DQueue) : (s.setQueue q d).mtr = s.mtr := rfl
@[simp] theorem State.setQueue_cal (s : State) (q : Nat) (d : DQueue) : (s.setQueue q d).cal = s.cal := rfl
@[simp] theorem State.setQueue_can (s : State) (q : Nat) (d : DQueue) : (s.setQueue q d).can = s.can := rfl
@[simp] theorem State.setQueue_net (s : State) (q : Nat) (d : DQueue) : (s.setQueue q d).net = s.net := rfl
@[simp] theorem State.setQueue_dma (s : State) (q : Nat) (d : DQueue) : (s.setQueue q d).dma = s.dma := rfl
@[simp] theorem State.setQueue_snk (s : State) (q : Nat) (d : DQueue) : (s.setQueue q d).snk = s.snk := rfl
@[simp] theorem State.setQueue_hal (s : State) (q : Nat) (d : DQueue) : (s.setQueue q d).hal = s.hal := rfl
@[simp] theorem State.setQueue_upd (s : State) (q : Nat) (d : DQueue) : (s.setQueue q d).upd = s.upd := rfl
@[simp] theorem State.setQueue_freeIx (s : State) (q : Nat) (d : DQueue) : (s.setQueue q d).freeIx = s.freeIx := rfl

/-! ### free -/

@[simp] theorem State.free_pending (s : State) : s.free.2.pending = s.pending := rfl
@[simp] theorem State.free_regs (s : State) : s.free.2.regs = s.regs := rfl
@[simp] theorem State.free_objs (s : State) : s.free.2.objs = s.objs := rfl
@[simp] theorem State.free_mem (s : State) : s.free.2.mem = s.mem := rfl
@[simp] theorem State.free_bus (s : State) : s.free.2.bus = s.bus := rfl
@[simp] theorem State.free_sys (s : State) : s.free.2.sys = s.sys := rfl
@[simp] theorem State.free_mode (s : State) : s.free.2.mode = s.mode := rfl
@[simp] theorem State.free_aon (s : State) : s.free.2.aon = s.aon := rfl
@[simp] theorem State.free_evr (s : State) : s.free.2.evr = s.evr := rfl
@[simp] theorem State.free_fault (s : State) : s.free.2.fault = s.fault := rfl
@[simp] theorem State.free_time (s : State) : s.free.2.time = s.time := rfl
@[simp] theorem State.free_rtc (s : State) : s.free.2.rtc = s.rtc := rfl
@[simp] theorem State.free_dict (s : State) : s.free.2.dict = s.dict := rfl
@[simp] theorem State.free_key (s : State) : s.free.2.key = s.key := rfl
@[simp] theorem State.free_cry (s : State) : s.free.2.cry = s.cry := rfl
@[simp] theorem State.free_macs (s : State) : s.free.2.macs = s.macs := rfl
@[simp] theorem State.free_member (s : State) : s.free.2.member = s.member := rfl
@[simp] theorem State.free_traffic (s : State) : s.free.2.traffic = s.traffic := rfl
@[simp] theorem State.free_ctl (s : State) : s.free.2.ctl = s.ctl := rfl
@[simp] theorem State.free_mtr (s : State) : s.free.2.mtr = s.mtr := rfl
@[simp] theorem State.free_cal (s : State) : s.free.2.cal = s.cal := rfl
@[simp] theorem State.free_can (s : State) : s.free.2.can = s.can := rfl
@[simp] theorem State.free_net (s : State) : s.free.2.net = s.net := rfl
@[simp] theorem State.free_dma (s : State) : s.free.2.dma = s.dma := rfl
@[simp] theorem State.free_snk (s : State) : s.free.2.snk = s.snk := rfl
@[simp] theorem State.free_hal (s : State) : s.free.2.hal = s.hal := rfl
@[simp] theorem State.free_upd (s : State) : s.free.2.upd = s.upd := rfl
@[simp] theorem State.free_freeIx (s : State) : s.free.2.freeIx = s.freeIx + 1 := rfl
@[simp] theorem State.free_value (s : State) : s.free.1 = Config.freeNat s.freeIx := rfl

/-! ### What the other stores read -/

@[simp] theorem State.obj_wr (s : State) (a : Nat) (v : Word) (x y : Nat) : (s.wr a v).obj x y = s.obj x y := by unfold State.obj; rw [State.wr_objs]
@[simp] theorem State.rdMem_wr (s : State) (a : Nat) (v : Word) (x : Nat) : (s.wr a v).rdMem x = s.rdMem x := by unfold State.rdMem; rw [State.wr_mem]
@[simp] theorem State.obj_wrF (s : State) (a hi lo v : Nat) (x y : Nat) : (s.wrF a hi lo v).obj x y = s.obj x y := by unfold State.obj; rw [State.wrF_objs]
@[simp] theorem State.rdMem_wrF (s : State) (a hi lo v : Nat) (x : Nat) : (s.wrF a hi lo v).rdMem x = s.rdMem x := by unfold State.rdMem; rw [State.wrF_mem]
@[simp] theorem State.obj_wrB (s : State) (a i : Nat) (b : Bool) (x y : Nat) : (s.wrB a i b).obj x y = s.obj x y := by unfold State.obj; rw [State.wrB_objs]
@[simp] theorem State.rdMem_wrB (s : State) (a i : Nat) (b : Bool) (x : Nat) : (s.wrB a i b).rdMem x = s.rdMem x := by unfold State.rdMem; rw [State.wrB_mem]
@[simp] theorem State.obj_wrN (s : State) (a v : Nat) (x y : Nat) : (s.wrN a v).obj x y = s.obj x y := by unfold State.obj; rw [State.wrN_objs]
@[simp] theorem State.rdMem_wrN (s : State) (a v : Nat) (x : Nat) : (s.wrN a v).rdMem x = s.rdMem x := by unfold State.rdMem; rw [State.wrN_mem]
@[simp] theorem State.obj_bump (s : State) (a n : Nat) (x y : Nat) : (s.bump a n).obj x y = s.obj x y := by unfold State.obj; rw [State.bump_objs]
@[simp] theorem State.rdMem_bump (s : State) (a n : Nat) (x : Nat) : (s.bump a n).rdMem x = s.rdMem x := by unfold State.rdMem; rw [State.bump_mem]
@[simp] theorem State.rd_setObj (s : State) (idx sub : Nat) (v : List Byte) (x : Nat) : (s.setObj idx sub v).rd x = s.rd x := by unfold State.rd; rw [State.setObj_regs]
@[simp] theorem State.rdMem_setObj (s : State) (idx sub : Nat) (v : List Byte) (x : Nat) : (s.setObj idx sub v).rdMem x = s.rdMem x := by unfold State.rdMem; rw [State.setObj_mem]
@[simp] theorem State.rd_setObjN (s : State) (idx sub n v : Nat) (x : Nat) : (s.setObjN idx sub n v).rd x = s.rd x := by unfold State.rd; rw [State.setObjN_regs]
@[simp] theorem State.rdMem_setObjN (s : State) (idx sub n v : Nat) (x : Nat) : (s.setObjN idx sub n v).rdMem x = s.rdMem x := by unfold State.rdMem; rw [State.setObjN_mem]
@[simp] theorem State.rd_bumpObj (s : State) (idx sub n : Nat) (x : Nat) : (s.bumpObj idx sub n).rd x = s.rd x := by unfold State.rd; rw [State.bumpObj_regs]
@[simp] theorem State.rdMem_bumpObj (s : State) (idx sub n : Nat) (x : Nat) : (s.bumpObj idx sub n).rdMem x = s.rdMem x := by unfold State.rdMem; rw [State.bumpObj_mem]
@[simp] theorem State.rd_bumpU32 (s : State) (idx sub k n : Nat) (x : Nat) : (s.bumpU32 idx sub k n).rd x = s.rd x := by unfold State.rd; rw [State.bumpU32_regs]
@[simp] theorem State.rdMem_bumpU32 (s : State) (idx sub k n : Nat) (x : Nat) : (s.bumpU32 idx sub k n).rdMem x = s.rdMem x := by unfold State.rdMem; rw [State.bumpU32_mem]
@[simp] theorem State.rd_writeMem (s : State) (a : Nat) (bs : List Byte) (x : Nat) : (s.writeMem a bs).rd x = s.rd x := by unfold State.rd; rw [State.writeMem_regs]
@[simp] theorem State.obj_writeMem (s : State) (a : Nat) (bs : List Byte) (x y : Nat) : (s.writeMem a bs).obj x y = s.obj x y := by unfold State.obj; rw [State.writeMem_objs]
@[simp] theorem State.rd_setMemN (s : State) (a n v : Nat) (x : Nat) : (s.setMemN a n v).rd x = s.rd x := by unfold State.rd; rw [State.setMemN_regs]
@[simp] theorem State.obj_setMemN (s : State) (a n v : Nat) (x y : Nat) : (s.setMemN a n v).obj x y = s.obj x y := by unfold State.obj; rw [State.setMemN_objs]
@[simp] theorem State.rd_answer (s : State) (v : Word) (x : Nat) : (s.answer v).rd x = s.rd x := by unfold State.rd; rw [State.answer_regs]
@[simp] theorem State.obj_answer (s : State) (v : Word) (x y : Nat) : (s.answer v).obj x y = s.obj x y := by unfold State.obj; rw [State.answer_objs]
@[simp] theorem State.rdMem_answer (s : State) (v : Word) (x : Nat) : (s.answer v).rdMem x = s.rdMem x := by unfold State.rdMem; rw [State.answer_mem]
@[simp] theorem State.rd_refuse (s : State) (ini : Initiator) (x : Nat) : (s.refuse ini).rd x = s.rd x := by unfold State.rd; rw [State.refuse_regs]
@[simp] theorem State.obj_refuse (s : State) (ini : Initiator) (x y : Nat) : (s.refuse ini).obj x y = s.obj x y := by unfold State.obj; rw [State.refuse_objs]
@[simp] theorem State.rdMem_refuse (s : State) (ini : Initiator) (x : Nat) : (s.refuse ini).rdMem x = s.rdMem x := by unfold State.rdMem; rw [State.refuse_mem]
@[simp] theorem State.rd_upTo (s : State) (t : Ns) (x : Nat) : (s.upTo t).rd x = s.rd x := by unfold State.rd; rw [State.upTo_regs]
@[simp] theorem State.obj_upTo (s : State) (t : Ns) (x y : Nat) : (s.upTo t).obj x y = s.obj x y := by unfold State.obj; rw [State.upTo_objs]
@[simp] theorem State.rdMem_upTo (s : State) (t : Ns) (x : Nat) : (s.upTo t).rdMem x = s.rdMem x := by unfold State.rdMem; rw [State.upTo_mem]
@[simp] theorem State.rd_setQueue (s : State) (q : Nat) (d : DQueue) (x : Nat) : (s.setQueue q d).rd x = s.rd x := by unfold State.rd; rw [State.setQueue_regs]
@[simp] theorem State.obj_setQueue (s : State) (q : Nat) (d : DQueue) (x y : Nat) : (s.setQueue q d).obj x y = s.obj x y := by unfold State.obj; rw [State.setQueue_objs]
@[simp] theorem State.rdMem_setQueue (s : State) (q : Nat) (d : DQueue) (x : Nat) : (s.setQueue q d).rdMem x = s.rdMem x := by unfold State.rdMem; rw [State.setQueue_mem]

end Sys2Proof.Machine
end

