-- ==== Sys2Proof/Laws/Words.lean ====
section
/-! SUPPORT. Fields and bits of words: what is read after a field or a bit is replaced. -/

namespace Sys2Proof.Machine

theorem testBit_fld (w : Word) (hi lo i : Nat) : (fld w hi lo).testBit i = (decide (i < hi + 1 - lo) && w.getLsbD (lo + i)) := by
  simp [fld, Nat.testBit_mod_two_pow, Nat.testBit_shiftRight, BitVec.getLsbD]

theorem getLsbD_bitMask (i j : Nat) : (bitMask i).getLsbD j = (decide (j < 32) && decide (i = j)) := by
  rw [bitMask, BitVec.getLsbD_ofNat, Nat.testBit_two_pow]

theorem bit_putBit (w : Word) (i j : Nat) (b : Bool) (hi : i < 32) : bit (putBit w i b) j = if i = j then b else bit w j := by
  unfold bit putBit
  by_cases h : i = j
  · subst h
    cases b <;> simp [getLsbD_bitMask, hi]
  · cases b
    · have e := getLsbD_bitMask i j
      simp only [h, decide_false, Bool.and_false] at e
      simp only [Bool.false_eq_true, if_false, h, BitVec.getLsbD_and, BitVec.getLsbD_not, e]
      by_cases hj : j < 32
      · simp [hj]
      · simp [BitVec.getLsbD_of_ge w j (by omega)]
    · simp [getLsbD_bitMask, h]

@[simp] theorem bit_putBit_same (w : Word) (i : Nat) (b : Bool) (hi : i < 32) : bit (putBit w i b) i = b := by
  simp [bit_putBit, hi]

theorem getLsbD_fldMask (hi lo j : Nat) (h : hi < 32) : (fldMask hi lo).getLsbD j = (decide (lo ≤ j) && decide (j ≤ hi)) := by
  rw [fldMask, BitVec.getLsbD_ofNat, Nat.mul_comm, Nat.testBit_two_pow_mul]
  by_cases h1 : lo ≤ j
  · by_cases h2 : j ≤ hi
    · simp [h1, h2, Nat.testBit_two_pow_sub_one]; omega
    · simp [h1, h2, Nat.testBit_two_pow_sub_one]; omega
  · simp [h1]

theorem getLsbD_setFld (w : Word) (hi lo v j : Nat) (h : hi < 32) :
    (setFld w hi lo v).getLsbD j = if lo ≤ j ∧ j ≤ hi then v.testBit (j - lo) else w.getLsbD j := by
  unfold setFld
  rw [BitVec.getLsbD_or, BitVec.getLsbD_and, BitVec.getLsbD_not, getLsbD_fldMask _ _ _ h, BitVec.getLsbD_ofNat,
    Nat.mul_comm, Nat.testBit_two_pow_mul, Nat.testBit_mod_two_pow]
  by_cases hj : j < 32
  · by_cases h1 : lo ≤ j
    · by_cases h2 : j ≤ hi
      · simp [h1, h2, hj]; omega
      · simp [h1, h2, hj]; omega
    · simp [h1, hj]
  · have h2 : ¬ j ≤ hi := by omega
    simp [hj, h2, BitVec.getLsbD_of_ge w j (by omega)]

/-- The field just replaced. -/
theorem fld_setFld_same (w : Word) (hi lo v : Nat) (h : hi < 32) (hl : lo ≤ hi) :
    fld (setFld w hi lo v) hi lo = v % 2 ^ (hi + 1 - lo) := by
  apply Nat.eq_of_testBit_eq
  intro i
  rw [testBit_fld, getLsbD_setFld _ _ _ _ _ h, Nat.testBit_mod_two_pow]
  by_cases hi' : i < hi + 1 - lo
  · have h2 : lo + i ≤ hi := by omega
    simp [hi', h2]
  · simp [hi']

/-- A field apart from the one replaced. -/
theorem fld_setFld_ne (w : Word) (hi lo hi' lo' v : Nat) (h : hi < 32) (hd : hi' < lo ∨ hi < lo') :
    fld (setFld w hi lo v) hi' lo' = fld w hi' lo' := by
  apply Nat.eq_of_testBit_eq
  intro i
  rw [testBit_fld, testBit_fld, getLsbD_setFld _ _ _ _ _ h]
  by_cases hi' : i < hi' + 1 - lo'
  · have h2 : ¬ (lo ≤ lo' + i ∧ lo' + i ≤ hi) := by omega
    simp [h2]
  · simp [hi']

/-- A bit apart from the field replaced. -/
theorem bit_setFld_ne (w : Word) (hi lo v j : Nat) (h : hi < 32) (hd : j < lo ∨ hi < j) : bit (setFld w hi lo v) j = bit w j := by
  unfold bit
  rw [getLsbD_setFld _ _ _ _ _ h]
  have h2 : ¬ (lo ≤ j ∧ j ≤ hi) := by omega
  simp [h2]

/-- A field apart from the bit replaced. -/
theorem fld_putBit_ne (w : Word) (i hi lo : Nat) (b : Bool) (h : i < 32) (hd : hi < i ∨ i < lo) :
    fld (putBit w i b) hi lo = fld w hi lo := by
  apply Nat.eq_of_testBit_eq
  intro k
  rw [testBit_fld, testBit_fld]
  have e := bit_putBit w i (lo + k) b h
  unfold bit at e
  rw [e]
  by_cases hk : k < hi + 1 - lo
  · have h2 : ¬ i = lo + k := by omega
    simp [h2]
  · simp [hk]

end Sys2Proof.Machine
end

