-- ==== Sys2Proof/Laws/Ops.lean ====
section
/-! SUPPORT. What the named operations over registers, objects and memory do: a read after a write, everything else unchanged,
and the canonical form kept. -/

namespace Sys2Proof.Machine

/-! ## Registers -/

@[simp] theorem State.wr_regs (s : State) (a : Nat) (v : Word) : (s.wr a v).regs = Sparse.set Reg.reset s.regs a v := rfl

theorem State.rd_wr (s : State) (a b : Nat) (v : Word) : (s.wr a v).rd b = if b = a then v else s.rd b := by
  simp [State.rd, Sparse.get_set]

@[simp] theorem State.rd_wr_same (s : State) (a : Nat) (v : Word) : (s.wr a v).rd a = v := by simp [State.rd_wr]

theorem State.rd_wr_ne (s : State) {a b : Nat} (v : Word) (h : b ≠ a) : (s.wr a v).rd b = s.rd b := by simp [State.rd_wr, h]

theorem State.rd_wrF_ne (s : State) {a b : Nat} (hi lo v : Nat) (h : b ≠ a) : (s.wrF a hi lo v).rd b = s.rd b := State.rd_wr_ne s _ h

theorem State.rd_wrB_ne (s : State) {a b : Nat} (i : Nat) (v : Bool) (h : b ≠ a) : (s.wrB a i v).rd b = s.rd b := State.rd_wr_ne s _ h

theorem State.rd_wrN_ne (s : State) {a b : Nat} (v : Nat) (h : b ≠ a) : (s.wrN a v).rd b = s.rd b := State.rd_wr_ne s _ h

theorem State.rd_bump_ne (s : State) {a b : Nat} (n : Nat) (h : b ≠ a) : (s.bump a n).rd b = s.rd b := State.rd_wr_ne s _ h

@[simp] theorem State.rd_wrF_same (s : State) (a hi lo v : Nat) : (s.wrF a hi lo v).rd a = setFld (s.rd a) hi lo v := by simp [State.wrF]

@[simp] theorem State.rd_wrB_same (s : State) (a i : Nat) (b : Bool) : (s.wrB a i b).rd a = putBit (s.rd a) i b := by simp [State.wrB]

@[simp] theorem State.rd_wrN_same (s : State) (a v : Nat) : (s.wrN a v).rd a = BitVec.ofNat 32 v := by simp [State.wrN]

@[simp] theorem State.rd_bump_same (s : State) (a n : Nat) : (s.bump a n).rd a = s.rd a + BitVec.ofNat 32 n := by simp [State.bump]

/-- The field just written. -/
theorem State.rdF_wrF_same (s : State) (a hi lo v : Nat) (h : hi < 32) (hl : lo ≤ hi) :
    (s.wrF a hi lo v).rdF a hi lo = v % 2 ^ (hi + 1 - lo) := by
  simp [State.rdF, fld_setFld_same _ _ _ _ h hl]

/-- The bit just written. -/
theorem State.rdB_wrB_same (s : State) (a i : Nat) (b : Bool) (h : i < 32) : (s.wrB a i b).rdB a i = b := by
  simp [State.rdB, bit_putBit_same _ _ _ h]

/-! ## Objects -/

@[simp] theorem State.setObj_objs (s : State) (idx sub : Nat) (v : List Byte) :
    (s.setObj idx sub v).objs = Sparse.set Obj.default s.objs (Obj.key idx sub) v := rfl

theorem State.obj_setObj (s : State) (idx sub i j : Nat) (v : List Byte) :
    (s.setObj idx sub v).obj i j = if Obj.key i j = Obj.key idx sub then v else s.obj i j := by
  simp [State.obj, Sparse.get_set]

@[simp] theorem State.obj_setObj_same (s : State) (idx sub : Nat) (v : List Byte) : (s.setObj idx sub v).obj idx sub = v := by
  simp [State.obj_setObj]

theorem State.obj_setObj_ne (s : State) {idx sub i j : Nat} (v : List Byte) (h : Obj.key i j ≠ Obj.key idx sub) :
    (s.setObj idx sub v).obj i j = s.obj i j := by
  simp [State.obj_setObj, h]

theorem fromLE_toLE (n : Nat) : ∀ v : Nat, fromLE (toLE n v) = v % 256 ^ n := by
  induction n with
  | zero => intro v; simp [toLE, fromLE, Nat.mod_one]
  | succ n ih =>
    intro v
    have e : 256 ^ (n + 1) = 256 * 256 ^ n := by rw [Nat.pow_succ, Nat.mul_comm]
    rw [toLE, fromLE, ih, BitVec.toNat_ofNat, e, Nat.mod_mul]

/-- The number just written to an object of n bytes. -/
@[simp] theorem State.objN_setObjN_same (s : State) (idx sub n v : Nat) : (s.setObjN idx sub n v).objN idx sub = v % 256 ^ n := by
  simp [State.objN, State.setObjN, fromLE_toLE]

/-! ## Memory -/

/-- A byte outside the bytes written reads as before. -/
theorem State.rdMem_writeMem_out (s : State) (a b : Nat) (bs : List Byte) (h : b < a ∨ a + bs.length ≤ b) :
    (s.writeMem a bs).rdMem b = s.rdMem b := Sparse.get_setMany_out Mem.default bs s.mem a b h

/-- A byte just written. -/
theorem State.rdMem_writeMem_in (s : State) (a i : Nat) (bs : List Byte) (h : i < bs.length) :
    (s.writeMem a bs).rdMem (a + i) = bs[i] := Sparse.get_setMany_in Mem.default bs s.mem a i h

/-- Every write of memory keeps its canonical form. -/
theorem State.wf_writeMem (s : State) (a : Nat) (bs : List Byte) (h : Memory.wf s.mem = true) : Memory.wf (s.writeMem a bs).mem = true :=
  Sparse.wf_setMany Mem.default bs s.mem a h

/-- Every write of a number to memory keeps its canonical form. -/
theorem State.wf_setMemN (s : State) (a n v : Nat) (h : Memory.wf s.mem = true) : Memory.wf (s.setMemN a n v).mem = true :=
  State.wf_writeMem s a (toLE n v) h

/-- A loss of memory's content keeps its canonical form. -/
theorem Memory.wf_filter (m : List Host.Cell) (p : Host.Cell → Bool) (h : Memory.wf m = true) : Memory.wf (m.filter p) = true :=
  Sparse.wf_filter Mem.default p m h

/-! ## The canonical form -/

/-- The canonical form rests on the registers, the objects and the memory alone. -/
theorem State.canonical_of {s t : State} (h : s.canonical) (hr : t.regs = s.regs) (ho : t.objs = s.objs) (hm : t.mem = s.mem) :
    t.canonical := by
  unfold State.canonical at *
  rw [hr, ho, hm]; exact h

theorem State.canonical_wr {s : State} (h : s.canonical) (a : Nat) (v : Word) : (s.wr a v).canonical :=
  ⟨Sparse.wf_set _ _ _ _ h.1, h.2.1, h.2.2⟩

theorem State.canonical_wrF {s : State} (h : s.canonical) (a hi lo v : Nat) : (s.wrF a hi lo v).canonical := State.canonical_wr h _ _

theorem State.canonical_wrB {s : State} (h : s.canonical) (a i : Nat) (b : Bool) : (s.wrB a i b).canonical := State.canonical_wr h _ _

theorem State.canonical_wrN {s : State} (h : s.canonical) (a v : Nat) : (s.wrN a v).canonical := State.canonical_wr h _ _

theorem State.canonical_bump {s : State} (h : s.canonical) (a n : Nat) : (s.bump a n).canonical := State.canonical_wr h _ _

theorem State.canonical_setObj {s : State} (h : s.canonical) (i j : Nat) (v : List Byte) : (s.setObj i j v).canonical :=
  ⟨h.1, Sparse.wf_set _ _ _ _ h.2.1, h.2.2⟩

theorem State.canonical_setObjN {s : State} (h : s.canonical) (i j n v : Nat) : (s.setObjN i j n v).canonical := State.canonical_setObj h _ _ _

theorem State.canonical_bumpObj {s : State} (h : s.canonical) (i j n : Nat) : (s.bumpObj i j n).canonical := State.canonical_setObj h _ _ _

theorem State.canonical_bumpU32 {s : State} (h : s.canonical) (i j k n : Nat) : (s.bumpU32 i j k n).canonical := State.canonical_setObj h _ _ _

theorem State.canonical_writeMem {s : State} (h : s.canonical) (a : Nat) (bs : List Byte) : (s.writeMem a bs).canonical :=
  ⟨h.1, h.2.1, State.wf_writeMem s a bs h.2.2⟩

theorem State.canonical_setMemN {s : State} (h : s.canonical) (a n v : Nat) : (s.setMemN a n v).canonical := State.canonical_writeMem h _ _

/-! ## The bus errors (R39) -/

/-- R39: a bus error changes SYS_BUS_ERR and, where every flag was clear, SYS_BUS_ERR_ADDR; nothing else. -/
theorem State.rd_busError_other (s : State) (f : Nat) (ini : Initiator) (a b : Nat) (h : b ≠ Reg.SYS_BUS_ERR) (h' : b ≠ Reg.SYS_BUS_ERR_ADDR) :
    (s.busError f ini a).rd b = s.rd b := by
  unfold State.busError
  dsimp only
  split
  · rw [State.rd_wrN_ne _ _ h', State.rd_wr_ne _ _ h]
  · rw [State.rd_wr_ne _ _ h]

theorem State.canonical_busError {s : State} (h : s.canonical) (f : Nat) (ini : Initiator) (a : Nat) : (s.busError f ini a).canonical := by
  unfold State.busError
  dsimp only
  split
  · exact State.canonical_wrN (State.canonical_wr h _ _) _ _
  · exact State.canonical_wr h _ _

/-! ## The event record (R444 to R449) -/

theorem State.canonical_logAppend {s : State} (h : s.canonical) (r : Rec) : (s.logAppend r).canonical := by
  unfold State.logAppend
  dsimp only
  split
  all_goals first | refine State.canonical_wrB ?_ _ _ _ | skip
  all_goals split
  all_goals first | refine State.canonical_wrB ?_ _ _ _ | skip
  all_goals exact h

theorem State.canonical_logStore {s : State} (h : s.canonical) (r : Rec) : (s.logStore r).canonical := by
  unfold State.logStore
  dsimp only
  split
  · exact State.canonical_logAppend h r
  · exact State.canonical_wrB h _ _ _

theorem State.canonical_logStores (l : List Rec) : ∀ {s : State}, s.canonical → (l.foldl State.logStore s).canonical := by
  induction l with
  | nil => exact fun h => h
  | cons r t ih => exact fun h => ih (State.canonical_logStore h r)

theorem State.canonical_recPlace {s : State} (h : s.canonical) (r : Rec) : (s.recPlace r).canonical := by
  unfold State.recPlace State.bufDrop
  dsimp only
  split
  · exact State.canonical_wrB (State.canonical_bumpU32 h _ _ _ _) _ _ _
  · split
    · exact State.canonical_logStore (State.canonical_logStores _ (by exact h)) r
    · split
      · exact State.canonical_wrB (State.canonical_bumpU32 h _ _ _ _) _ _ _
      · exact h

theorem State.canonical_recMake {s : State} (h : s.canonical) (t : Ns) (f c d p q r : Nat) : (s.recMake t f c d p q r).canonical :=
  State.canonical_recPlace (s := { s with evr := { s.evr with nextSeq := (s.evr.nextSeq + 1) % 2 ^ 32 } }) h _

theorem State.canonical_record {s : State} (h : s.canonical) (c d p q r : Nat) : (s.record c d p q r).canonical :=
  State.canonical_recMake h _ _ _ _ _ _ _

theorem State.canonical_raiseWith {s : State} (h : s.canonical) (f : Nat) (a m : Bool) : (s.raiseWith f a m).canonical := by
  have h0 : ∀ t : State, t.canonical → ∀ b : Bool, (if t.rdB Reg.SUP_HOIST f then t else
      if b then (t.wrB Reg.SUP_HOIST f true).wrB Reg.SUP_INT_STAT 0 true else
        ((t.wrB Reg.SUP_HOIST f true).wrB Reg.SUP_INT_STAT 0 true).recMake
          ((t.wrB Reg.SUP_HOIST f true).wrB Reg.SUP_INT_STAT 0 true).eventTime
          (((t.wrB Reg.SUP_HOIST f true).wrB Reg.SUP_INT_STAT 0 true).recFlags 0x16 8 true) 0x16 8 f 0 0).canonical := by
    intro t ht b
    split
    · exact ht
    · split
      · exact State.canonical_wrB (State.canonical_wrB ht _ _ _) _ _ _
      · exact State.canonical_recMake (State.canonical_wrB (State.canonical_wrB ht _ _ _) _ _ _) _ _ _ _ _ _ _
  unfold State.raiseWith
  refine h0 _ ?_ m
  cases m <;> cases a
  · exact h
  · exact State.canonical_wrB h _ _ _
  · exact State.canonical_wrB h _ _ _
  · exact State.canonical_wrB (State.canonical_wrB h _ _ _) _ _ _

end Sys2Proof.Machine
end

