-- ==== Sys2Proof/Tests/Slice0.lean ====
section
/-! SUPPORT. Tests of single steps, drawn from the spec's worked examples; ill-formed commands refused; and, for every statement with
hypotheses, concrete states and operands that meet the hypotheses of each of its clauses. -/

namespace Sys2Proof.Tests

open Sys2Proof Sys2Proof.Machine

set_option maxRecDepth 20000
set_option Elab.async false

/-! ## Well-formed commands -/

theorem test_wf_address : (Instr.registerWrite .app0 1099511627776 4 none).wellFormed = false := by decide

theorem test_wf_width : (Instr.absentAccess .app0 4 65 none).wellFormed = false := by decide

theorem test_wf_access_bytes : (Instr.refusedMemoryAccess .app0 4 4 (some (List.replicate 65 0))).wellFormed = false := by decide

theorem test_wf_instant : (Instr.modeTick 281474976710656000000000).wellFormed = false := by decide

theorem test_wf_millivolts : (Instr.batLowSet 65536).wellFormed = false := by decide

theorem test_wf_message : (Instr.readObject 1 { sub := 256 }).wellFormed = false := by decide

theorem test_wf_radio_frame : (Instr.frameReceive 0 { bytes := [], stamp := 4294967296 }).wellFormed = false := by decide

theorem test_wf_enrol_request : (Instr.enrolRequest { segment := 0, cohort := 4, eui := List.replicate 8 0 }).wellFormed = false := by decide

theorem test_wf_can_frame : (Instr.canReceive 0 { id := 2048 } 0 0 0).wellFormed = false := by decide

theorem test_wf_can_count : (Instr.canReceive 0 { id := 2047 } 0 4294967296 0).wellFormed = false := by decide

theorem test_wf_key_command : (Instr.keyErase .sup { slot := 256, label := List.replicate 4 0, context := List.replicate 8 0 }).wellFormed = false := by
  decide

theorem test_wf_can_error : (Instr.canReceive 0 { id := 2047 } 9 0 0).wellFormed = false := by decide

theorem test_wf_value : (Instr.graphCommit (List.replicate 65537 0)).wellFormed = false := by decide +kernel

theorem test_wf_hello : (Instr.dtlsHandshake 0 { port := 65536 }).wellFormed = false := by decide

theorem test_wf_links : (Instr.edgeMessageSend [(2 ^ 64, 0, 0)]).wellFormed = false := by decide

theorem test_wf_good : (Instr.keyErase .sup { slot := 255, label := List.replicate 4 0, context := List.replicate 8 0 }).wellFormed = true := by decide

/-! ## States and operands that meet the statements' hypotheses -/

/-- A module that runs: no reset, the supplies present, every clock present, the dual-clock queues open, the local clock loaded, in DAY. -/
def wb : State :=
  { State.reset with
    aon := { State.reset.aon with inReset := false, appOff := false, asleep := false, supRunning := true, comparator := true, vin := 24000 }
    mode := { State.reset.mode with mode := .day }
    time := { State.reset.time with now := 1749999999123456789, loaded := true }
    sys := { State.reset.sys with queues := List.replicate 34 { hold := false, offered := none } }
    regs := [(Reg.SYS_CLKMON, 0x7FFFF), (Reg.AON_STATUS, 0x2C1)] }

/-- The same in another mode. -/
def wm (m : Mode) : State := { wb with mode := { wb.mode with mode := m } }

/-- A ring session at level OPERATOR, and the module with it. -/
def we : Sess := { id := 1, kind := .ring, buf := 4096, opened := true, anchor := 2 }

def ws (l : List (Nat × List Byte)) : State := { wb with dict := { wb.dict with sessions := wb.dict.sessions ++ [we] }, objs := l }

theorem rx_ok (x : Except Nat Nat) (i : Nat) (h : x.toOption = some i) : x = .ok i := by
  cases x with
  | ok j => simpa [Except.toOption] using h
  | error j => simp [Except.toOption] at h

theorem rx_error (x : Except Nat Nat) (i : Nat) (h : (match x with | .ok _ => none | .error j => some j) = some i) : x = .error i := by
  cases x with
  | ok j => simp at h
  | error j => simpa using h

/-- A module with a chain of valid keys: the root, the pair key, the cohort keys' parent and a handshake key. -/
def wk : State :=
  { wb with key := { wb.key with slots := [(0, { state := 1, kind := 1, gen := 1 }), (2, { state := 1, kind := 0x12, parent := 0, parentGen := 1, depth := 1 }), (3, { state := 1, kind := 1, parent := 0, parentGen := 1, depth := 1 }),
      (5, { state := 1, kind := 1, parent := 0, parentGen := 1, depth := 1 }), (8, { state := 1, kind := 1, parent := 0, parentGen := 1, depth := 1 })] } }

/-- A module of a pair: its partner's EUI-64, the pair key's slot, its controllers started. -/
def wp : State :=
  { ((wb.setObj 0x2020 1 [1]).setObj 0x2020 2 (List.replicate 8 2)).setObj 0x2700 0x0F [130] with
    mode := { wb.mode with canStarted := some 5 } }

theorem pair_tail (y : List Byte) (h : y.length = 8) :
    slice ((List.replicate 8 (2 : Byte) ++ [1, 2, 0, 0, 9, 0, 0, 0]) ++ y) 16 8 = y := by
  show y.take 8 = y
  exact List.take_of_length_le (by omega)

/-- A segmented transfer of a session, and the module with it. -/
def wx (w : Bool) : Xfer := { sess := 1, write := w, tid := 7, idx := 0x2000, sub := 6, total := 9, data := [1, 2], trailer := [] }

def wsx (w : Bool) : State := { ws [] with dict := { (ws []).dict with xfers := [wx w] } }

/-- A module whose core 3 runs with one request of the mailbox waiting. -/
def wmb : State :=
  (wb.wrB Reg.SYS_CORE3_CTRL 0 true).writeMem 0xB8000004 [1]

/-- A module whose capture inputs are enabled on both edges. -/
def wc : State := wb.wr Reg.TIME_CAPT_CTRL 0xFFFF

def wts (l : List TsqEntry) : State := { wb with time := { wb.time with tsq := l } }

/-- A module whose trigger unit 7 is armed. -/
def wt : State :=
  { (wb.wrB (Reg.TIME_TRIG_CTRL 7) 0 true).wrN (Reg.TIME_TRIG_PERIOD 7) 1000 with
    time := { wb.time with trig := setAt wb.time.trig 7 { next := 6999999996493827160 } } }

/-- A module whose MAC 1 runs: synchronised, enabled, of segment 0x22 and cohort 1, with lantern 5 at entry 3 and its key derived. -/
def wr : State :=
  let s := (((((wb.setObj 0x6005 1 (List.replicate 8 5)).wrB (Reg.MAC_STATUS 1) 0 true).wrF (Reg.MAC_CTRL 1) 1 0 3).wr (Reg.MAC_ADDR 1) 0x10022).wr
    (Reg.MAC_NB 1 3 0) 0x1005).wr (Reg.MAC_KEY 1) 0x713
  let s := (s.wr (Reg.MAC_NB 1 3 6) 0x05050505).wr (Reg.MAC_NB 1 3 7) 0x05050505
  let t := (s.setCard 5 3 1 4).setCard 5 5 1 1
  t.setMac 1 { t.mac 1 with cache := [(List.replicate 8 5, 7)] }

/-- A secured DATA frame of that lantern. -/
def rf (lsn counter : Byte) : RadioFrame := { bytes := [0x19, 1, 0x22, 0, 0, 0x50, 5, 0x10, lsn, 0, counter, 0, 0, 0, 7, 0, 0, 0, 0, 0] }

/-- The same with a cell at slot offset 0 of the given word. -/
def wcell (w : Word) : State := wr.setMac 1 { wr.mac 1 with cells := [(0, w)] }

/-- The same module with lantern 9 on the whitelist: its card, its registration state and its registration counter. -/
def wl (st : Nat) : State := ((((wr.setObj 0x6009 1 (List.replicate 8 9)).setCard 9 2 1 1).setCard 9 3 1 st).setCard 9 0x0D 4 4).setCard 9 5 1 1

/-- An enrolment request of that lantern. -/
def er (c : Nat) : EnrolRequest := { segment := 0, cohort := 1, eui := List.replicate 8 9, counter := c }

/-- A module whose cabinet-bus controller 1 runs; with `k`, buffer 63 is pending. -/
def wcan (k : Bool) : State :=
  let s := wb.wrF (Reg.CAN_CTRL 1) 2 0 1
  if k then (s.wrB (bufReg 1 0x40 63) 31 true).wr (canBase 1 + 0x9000 + 80 * 63 + 4) 0x10000 else s

/-- The same with Bells heard, a master's role, and a cycle that began. -/
def wbell : State :=
  let s := ((wcan false).wrB (Reg.CAN_CTRL 1) 2 true).wrB (Reg.CAN_STATUS 1) 3 true
  let s := (s.wrF (Reg.CAN_CTRL 1) 4 3 1).wrF (Reg.CAN_CTRL 1) 7 5 2
  s.setCtl 1 { s.ctl_ 1 with cycleAt := some 1749999999100000000 }

/-- A module with an optic in each cage, both links up and the ring's HSR on. -/
def wnet : State :=
  let s := ((wb.wrF Reg.NET_CTRL 1 0 3).wrF Reg.NET_STATUS 1 0 3).wrB Reg.NET_STATUS 4 true
  (((s.wrB (Reg.NET_SFP 0) 0 true).wrB (Reg.NET_SFP 1) 0 true).setObj 0x1000 4 [2, 2, 2, 0xFF, 0xFE, 2, 2, 2])

/-- A ring frame with an HSR tag and a destination. -/
def hf (dst : List Byte) : List Byte := dst ++ [4, 4, 4, 4, 4, 4, 0x89, 0x2F, 0, 0, 0, 7, 8, 0] ++ List.replicate 40 0

/-- A module whose DMA channel 15 is enabled, of a kind, with one descriptor of one pair of a length given. -/
def wdma (kind n : Nat) : State :=
  let d : List Byte := [0, 0x10, 0, 0x98, 0, 1, 1, 0] ++ List.replicate 24 0
  let p : List Byte := [0, 0x20, 0, 0x98, 0] ++ toLE 3 n ++ [0, 0x30, 0, 0x98, 0, 0, 0, 0]
  let s := ((wb.writeMem 0x98000000 d).writeMem 0x98001000 p).wr (Reg.DMA_CH_CFG 15) (BitVec.ofNat 32 (1 + 2 * kind + 2 ^ 16))
  let s := ((s.wr (Reg.DMA_CH_RING_BASE_LO 15) 0x98000000).wrN (Reg.DMA_CH_HEAD 15) 1)
  { s with net := { s.net with hostq := [{ chan := 15, port := 0, bytes := List.replicate 64 1, q := 0, epoch := 0, headAt := some 1749999999000000000 }] } }

def wdd (k : Bool) : State := (wdma 0 64).setDma 15 { desc := some { bytes := [0, 0x10, 0, 0x98, 0, 1, 1, 0] ++ List.replicate 24 0, pairs := [(0x98002000, 64, 0x98003000)], waits := k } }

/-- A module whose calibration runs; with a list, a step of a kind is in progress at position 1 and its comparison measured. -/
def wca (st : Nat) : State :=
  let s := (((wb.wrF Reg.CAL_CTRL 2 0 1).setObjN 0x2A10 1 1 1).wrB Reg.CAL_STATUS 2 true).setObjN 0x2A00 4 1 0xFF
  let s := ((s.wrF Reg.CAL_STATUS 10 8 st).wrF Reg.CAL_STATUS 14 11 1).wr Reg.MTR_ROUTE 0x76543210
  if st = 0 then s
  else { (s.wrF (Reg.CAL_ACC_CTRL 0) 16 8 0x101).wrF (Reg.CAL_ACC_STAT 0) 15 0 1 with
         cal := { s.cal with measuring := true, remaining := [1, 5] }, mtr := { s.mtr with present := [true, true, true] } }

/-- The descriptor of a job: its operation, FLAGS and slot; 96 bytes in, 64 out. -/
def wdesc (op fl slot : Byte) : Desc :=
  [op, fl, slot, 0, 0, 0, 0, 0] ++ List.replicate 12 0 ++ [0, 0x10, 0, 0x98, 0, 96, 0, 0] ++ List.replicate 8 0 ++ [0, 0x20, 0, 0x98, 0, 64, 0, 0] ++ List.replicate 20 0

/-- A module whose crypto queue 2 holds a job, slot 32 with a public key. -/
def wjob (op fl slot : Byte) : State :=
  let s := ((wk.writeMem 0x98000000 (wdesc op fl slot)).wrB (Reg.CRY_Q_CFG 2) 0 true).wr (Reg.CRY_Q_RING_BASE_LO 2) 0x98000000
  { s.wr (Reg.CRY_Q_HEAD 2) 1 with key := { s.key with slots := s.key.slots ++ [(32, { state := 1, kind := 0x21, parent := 0, parentGen := 1, depth := 1, attr := 0x10 })] } }

/-- A manifest of eight parts for this product. -/
def wman : List Byte :=
  [0x4C, 0x4D, 0x46, 0x31, 1, 0, 8, 0, 0xA0, 2, 0, 0, 5, 0, 0, 0, 0x40, 0x82, 1, 0] ++ List.replicate 44 0 ++
    (List.range 8).flatMap (fun k => [BitVec.ofNat 8 (k + 1), (if k = 7 then 1 else 0), 0, 0, 1, 0, 0, 0, 0, 1, 0, 0, 0, 0, 0, 0] ++ List.replicate 48 9) ++
    List.replicate 96 0

/-- A module in a state of the update, the metrology seal open. -/
def wup (st : Nat) (parts : List (List Byte)) : State :=
  let s := ({ wb with aon := { wb.aon with vbat := 12000 } }.setUpdState st).wrB Reg.UPD_STATUS 4 true
  s.setBank 1 { manifest := wman, parts := parts }

/-- A module whose log holds n records and whose buffer one. -/
def wlog (n : Nat) (r : Rec) : State := { wb.wrB Reg.EVR_CTRL 0 true with evr := { wb.evr with buffer := [r], log := List.replicate n r } }

theorem wlog_length (n : Nat) (r : Rec) : (wlog n r).evr.log.length = n := List.length_replicate

/-- MAC 1 in a receive cell of its slotframe, with a receive ring whose one free entry names a buffer of the packet region. -/
def wh : State := wcell 0x3FFC02

def whr : State :=
  let a := Reg.MAC_RXR_BASE_LO 1
  ((((wh.wr a 0x98000000).wr (a + 8) 16).wr (a + 12) 2).wr (a + 16) 1).writeMem (0x98000000 + 16) ([0, 0, 1, 0x98, 0] ++ List.replicate 9 0 ++ [1, 0])

/-- A frame with the MIC that a module's keys give it. -/
def rm (s : State) (f : RadioFrame) : RadioFrame := { f with mic := s.rxMic 1 3 f }

theorem rm_mic (s : State) (f : RadioFrame) (h : frBit f.bytes 4 = false ∨ f.body = []) : (rm s f).mic = s.rxMic 1 3 (rm s f) := by
  rcases h with h | h <;> simp [rm, State.rxMic, State.rxPlain, h, fit]

/-- A frame in the reply window of a frame that awaits its acknowledgment. -/
def ra (lsn counter : Byte) : RadioFrame := { bytes := [0x0A, 1, 0x22, 0, 0, 0x50, 5, 0x10, lsn, 0, counter, 0, 0, 0, 7, 0, 0, 0, 0, 0], body := [0, 0, 0], start := 1000000 }

/-- The module while it awaits the acknowledgment of the frame of transmit entry 2. -/
def wa : State := wr.setMac 1 { wr.mac 1 with awaiting := some { entry := 2, nb := 3, lsn := 9, tries := 1 }, airOn := some (false, 0) }

/-- The module of a whitelisted lantern whose card is in a state, the parent of the enrolment codes valid in its key store. -/
def wlk (st : Nat) : State :=
  { wl st with key := { wb.key with slots := [(0, { state := 1, kind := 1, gen := 1 }), (1, { state := 1, kind := 1, parent := 0, parentGen := 1, depth := 1 })] } }

/-- The lantern's request with the MIC of its enrolment code. -/
def es (s : State) (code : Nat) (r : EnrolRequest) : EnrolRequest := { r with mic := s.requestMic 9 r code }

theorem es_mic (s : State) (code : Nat) (r : EnrolRequest) : (es s code r).mic = s.requestMic 9 (es s code r) code := by
  simp only [es, State.requestMic, requestBytes]

/-- A module whose cohort 1 may renew its key: an interval, slots, entropy and one lighting program of every date. -/
def wren : State :=
  let s := (((wk.setObjN 0x7000 9 4 600).setObj 0x7002 3 [18]).setObj 0x7002 4 [19]).wrF Reg.CRY_STATUS 5 4 3
  ((s.setObj 0x5000 2 [1, 1, 12, 31, 0x7F, 1]).setObj 0x5000 3 [0, 0, 0xB0, 4]).setObj 0x5000 4 [0, 0, 0x2C, 1]

/-- The same with a flush due. -/
def wflu (n : Nat) (r : Rec) : State := { wlog n r with evr := { (wlog n r).evr with flushDue := true } }

theorem wflu_length (n : Nat) (r : Rec) : (wflu n r).evr.log.length = n := List.length_replicate

theorem tail8 (a y : List Byte) (n : Nat) (hn : a.length = n) (h : y.length = 8) : slice (a ++ y) n 8 = y := by
  subst hn
  simp [slice, h.symm]

theorem head_slice (a y : List Byte) (i k : Nat) (h : i + k ≤ a.length) : slice (a ++ y) i k = slice a i k := by
  simp only [slice, List.drop_append, List.take_append]
  simp; omega

/-- A ROLL_PRESENT body with the MIC of its node. -/
def wpb (s : State) : List Byte := List.replicate 8 0 ++ s.presentMic 5 (List.replicate 8 0)

theorem wpb_mic (s : State) : slice (wpb s) 8 8 = s.presentMic 5 (wpb s) := by
  have e : s.presentMic 5 (wpb s) = s.presentMic 5 (List.replicate 8 0) := by
    simp only [wpb, State.presentMic]; rw [head_slice _ _ _ _ (by decide)]
  rw [e]; exact tail8 _ _ _ rfl (by simp [State.presentMic, rollMic, fit])

/-- An ANNOUNCE body with the MIC of its node. -/
def wan : List Byte := List.replicate 8 6 ++ [0, 0, 9, 0]

def wab (s : State) : List Byte := wan ++ s.announceMic 5 wan

theorem wab_mic (s : State) : slice (wab s) 12 8 = s.announceMic 5 (wab s) := by
  have e : s.announceMic 5 (wab s) = s.announceMic 5 wan := by
    simp only [wab, State.announceMic, leAt]
    rw [head_slice _ _ 0 8 (by decide), head_slice _ _ 10 2 (by decide), head_slice _ _ 5 3 (by decide), head_slice _ _ 0 12 (by decide)]
  rw [e]; exact tail8 _ _ _ rfl (by simp [State.announceMic, rollMic, fit])

/-- A module of a cabinet bus whose keys' parents are valid, node 5 known in a state with a counter; in a roll call. -/
def wnode (st c : Nat) : State :=
  let s := (((wcan false).setObj (0x2780 + 5) 1 (List.replicate 8 6)).setObjN (0x2780 + 5) 3 1 st).setObjN (0x2780 + 5) 8 2 c
  { (s.setCtl 1 { s.ctl_ 1 with callAt := some 1749999999000000000 }) with
    key := { wb.key with slots := [(0, { state := 1, kind := 1, gen := 1 }), (1, { state := 1, kind := 1, parent := 0, parentGen := 1, depth := 1 }),
      (24, { state := 1, kind := 1, parent := 0, parentGen := 1, depth := 1 })] } }

/-- The module of a member lantern, its predictor up to date, with one lighting program of every date. -/
def wctl : State :=
  let s := (((wl 4).setObj 0x5000 2 [1, 1, 12, 31, 0x7F, 1]).setObj 0x5000 3 [0, 0, 0xB0, 4]).setObj 0x5000 4 [0, 0, 0x2C, 1]
  { s with ctl := { s.ctl with core := { s.ctl.core with predAt := s.time.now } } }


/-- EmptyQueueCountsOneNanosecond: its hypotheses are met, clause by clause. -/
theorem witness_EmptyQueueCountsOneNanosecond :
    (((wb : State).pending = []) ∧ ((wb : State).time.loaded = true) ∧ ((wb : State).aon.inReset = false)) ∧
    (((State.reset : State).pending = []) ∧ (((State.reset : State).time.loaded = false ∨ (State.reset : State).aon.inReset = true))) :=
  by
  refine ⟨?_, ?_⟩ <;> decide +kernel

/-- StepKeepsCanonicalForm: its hypotheses are met, clause by clause. -/
theorem witness_StepKeepsCanonicalForm :
    (((State.reset : State).canonical) ∧ (step (State.reset : State) = .next (State.reset : State))) :=
  ⟨by unfold State.canonical; decide +kernel, rfl⟩

/-- RefusedAccessesAreFlagged: its hypotheses are met, clause by clause. -/
theorem witness_RefusedAccessesAreFlagged :
    (((.sup : Initiator).resident = true) ∧ (0x40000000 ≤ (0x40000001 : Nat)) ∧ ((0x40000001 : Nat) < 0x40180000) ∧ (((4 : Nat) ≠ 4 ∨ (0x40000001 : Nat) % 4 ≠ 0))) ∧
    (((.app0 : Initiator).resident = true) ∧ (0x40030000 ≤ (0x40030000 : Nat)) ∧ ((0x40030000 : Nat) < 0x40040000) ∧ ((0x40030000 : Nat) % 4 = 0)) ∧
    ((regionOf (0x100000000000 : Nat) = .absent)) ∧
    ((regionOf (0x20000000 : Nat) ≠ .absent) ∧ (regionOf (0x20000000 : Nat) ≠ .registers) ∧ ((match (some [1] : Option (List Byte)) with | some _ => (regionOf (0x20000000 : Nat)).writes (.app0 : Initiator) false | none => (regionOf (0x20000000 : Nat)).reads (.app0 : Initiator) false) = false)) :=
  by
  refine ⟨?_, ?_, ?_, ?_⟩ <;> decide +kernel

/-- FirstBusErrorIsCaptured: its hypotheses are met, clause by clause. -/
theorem witness_FirstBusErrorIsCaptured :
    (((0 : Nat) < 4) ∧ ((1) < 4) ∧ ((wb.wrB Reg.SYS_BUS_ERR 1 true : State).rdB Reg.SYS_BUS_ERR (1) = true)) ∧
    (((0 : Nat) < 4) ∧ ((wb : State).rdF Reg.SYS_BUS_ERR 3 0 = 0)) ∧
    (((0 : Nat) < 4) ∧ ((wb.wrB Reg.SYS_BUS_ERR 3 true : State).rdF Reg.SYS_BUS_ERR 3 0 ≠ 0)) :=
  by
  refine ⟨?_, ?_, ?_⟩ <;> decide +kernel

/-- RegisterWritesFollowTheirAccessCodes: its hypotheses are met, clause by clause. -/
theorem witness_RegisterWritesFollowTheirAccessCodes :
    (((wb : State).aon.aonClockLost = false) ∧ ((.app2 : Initiator) = .app0 ∨ (.app2 : Initiator) = .app1 ∨ (.app2 : Initiator) = .app2)) :=
  by
  refine ?_ <;> decide +kernel

/-- CoreThreeStartsRestartsAndHolds: its hypotheses are met, clause by clause. -/
theorem witness_CoreThreeStartsRestartsAndHolds :
    (((wb : State).rdB Reg.SYS_CORE3_CTRL 0 = false) ∧ ((wb : State).mode.mode.core3Runs = true) ∧ ((wb : State).aon.inReset = false)) :=
  by
  refine ?_ <;> decide +kernel

/-- QueuesClocksAndPointerParity: its hypotheses are met, clause by clause. -/
theorem witness_QueuesClocksAndPointerParity :
    (((0 : Fin 34).val < (wb : State).sys.queues.length) ∧ (((wb : State).queue (0 : Fin 34).val).hold = false) ∧ (((wb : State).queue (0 : Fin 34).val).stallWrite = false) ∧ (((wb : State).queue (0 : Fin 34).val).offered = none) ∧ (((wb : State).queue (0 : Fin 34).val).wcount (queueLog (0 : Fin 34).val) < 2 ^ queueLog (0 : Fin 34).val)) ∧
    (((0 : Fin 34).val < ({ wb with sys := { wb.sys with queues := setAt wb.sys.queues 0 { hold := false, wptr := 64, wseen := 64 } } } : State).sys.queues.length) ∧ ((({ wb with sys := { wb.sys with queues := setAt wb.sys.queues 0 { hold := false, wptr := 64, wseen := 64 } } } : State).queue (0 : Fin 34).val).hold = false) ∧ (2 ^ queueLog (0 : Fin 34).val ≤ (({ wb with sys := { wb.sys with queues := setAt wb.sys.queues 0 { hold := false, wptr := 64, wseen := 64 } } } : State).queue (0 : Fin 34).val).wcount (queueLog (0 : Fin 34).val))) ∧
    (((33 : Fin 34).val < ({ wb with sys := { wb.sys with queues := setAt wb.sys.queues 33 { hold := false, wptr := 1, wseen := 1, entries := [5] } } } : State).sys.queues.length) ∧ ((({ wb with sys := { wb.sys with queues := setAt wb.sys.queues 33 { hold := false, wptr := 1, wseen := 1, entries := [5] } } } : State).queue (33 : Fin 34).val).hold = false) ∧ ((({ wb with sys := { wb.sys with queues := setAt wb.sys.queues 33 { hold := false, wptr := 1, wseen := 1, entries := [5] } } } : State).queue (33 : Fin 34).val).stallRead = false) ∧ (0 < (({ wb with sys := { wb.sys with queues := setAt wb.sys.queues 33 { hold := false, wptr := 1, wseen := 1, entries := [5] } } } : State).queue (33 : Fin 34).val).rcount (queueLog (33 : Fin 34).val))) ∧
    (((wb : State).detects = true) ∧ ((wb : State).rdB Reg.SYS_CLKMON (3 + (3 : Fin 4).val) = true)) ∧
    (((wb.wr Reg.SYS_CLKMON 0 : State).aon.inReset = false) ∧ ((wb.wr Reg.SYS_CLKMON 0 : State).rdB Reg.SYS_CLKMON (1 + (1 : Fin 2).val) = false)) ∧
    (((wb : State).detects = true) ∧ ((wb : State).queueExists (33 : Fin 34).val = true) ∧ ((33 : Fin 34).val < (wb : State).sys.queues.length)) :=
  by
  refine ⟨?_, ?_, ?_, ?_, ?_, ?_⟩ <;> decide +kernel

/-- PhotocellAndHeartbeatDriveTheContactors: its hypotheses are met, clause by clause. -/
theorem witness_PhotocellAndHeartbeatDriveTheContactors :
    (((wb : State).aon.aonClockLost = false) ∧ ((1999 : Nat) < 10 * (wb : State).rdF Reg.AON_PHOTO_CFG 9 0) ∧ (30000 ≤ (30000 : Nat))) ∧
    (((wb : State).aon.aonClockLost = false) ∧ (10 * (wb : State).rdF Reg.AON_PHOTO_CFG 9 0 + 10 * (wb : State).rdF Reg.AON_PHOTO_CFG 19 12 < (2501 : Nat)) ∧ (120000 ≤ (120000 : Nat))) ∧
    (((wb : State).aon.aonClockLost = false) ∧ (10 * (wb : State).rdF Reg.AON_PHOTO_CFG 9 0 ≤ (2000 : Nat) ∨ (30000 : Nat) < 30000)) ∧
    (((wb : State).aon.aonClockLost = false) ∧ ((2500 : Nat) ≤ 10 * (wb : State).rdF Reg.AON_PHOTO_CFG 9 0 + 10 * (wb : State).rdF Reg.AON_PHOTO_CFG 19 12 ∨ (120000 : Nat) < 120000)) ∧
    (((wb : State).aon.aonClockLost = false)) ∧
    (((wb : State).aon.aonClockLost = false) ∧ ((0xA5 : Word) = 0x5A ∨ (0xA5 : Word) = 0xA5) ∧ ((wb : State).aon.lastBeat ≠ some (BitVec.ofNat 8 (0xA5 : Word).toNat))) :=
  by
  refine ⟨?_, ?_, ?_, ?_, ?_, ?_⟩ <;> decide +kernel

/-- ContactorOwnership: its hypotheses are met, clause by clause. -/
theorem witness_ContactorOwnership :
    (((wb : State).aon.aonClockLost = false) ∧ ((wb : State).rdB Reg.AON_CONT_CTRL 8 = false) ∧ ((wb : State).rdB Reg.AON_STATUS 6 = true) ∧ ((wb : State).rdB Reg.AON_STATUS 0 = true) ∧ ((0 : Fin 16).val = (wb : State).rdF Reg.AON_CONT_STAT 3 0)) ∧
    (((wb : State).aon.aonClockLost = false) ∧ ((wb : State).rdB Reg.AON_CONT_CTRL 8 = false) ∧ ((15 : Fin 16).val ≠ (wb : State).rdF Reg.AON_CONT_STAT 3 0)) ∧
    (((wb.wrB Reg.AON_CONT_CTRL 8 true : State).aon.aonClockLost = false) ∧ ((wb.wrB Reg.AON_CONT_CTRL 8 true : State).rdB Reg.AON_CONT_CTRL 8 = true) ∧ ((wb.wrB Reg.AON_CONT_CTRL 8 true : State).rdB Reg.AON_STATUS 6 = true)) ∧
    (((wb.wrF Reg.AON_CONT_STAT 5 4 2 : State).aon.aonClockLost = false) ∧ ((wb.wrF Reg.AON_CONT_STAT 5 4 2 : State).rdF Reg.AON_CONT_STAT 5 4 = 2) ∧ ((wb.wrF Reg.AON_CONT_STAT 5 4 2 : State).rdB Reg.AON_STATUS 0 = true)) ∧
    ((({ wb.wrB Reg.SUP_CONT_FORCE 0 true with aon := { wb.aon with clockBackSince := some 1700000000000000000 } } : State).aon.clockBackSince = some (1700000000000000000 : Nat)) ∧ (({ wb.wrB Reg.SUP_CONT_FORCE 0 true with aon := { wb.aon with clockBackSince := some 1700000000000000000 } } : State).rdB Reg.SUP_CONT_FORCE 0 = true) ∧ ((1700000000000000000 : Nat) + 1000000000 ≤ ({ wb.wrB Reg.SUP_CONT_FORCE 0 true with aon := { wb.aon with clockBackSince := some 1700000000000000000 } } : State).eventTime)) :=
  by
  refine ⟨?_, ?_, ?_, ?_, ?_⟩ <;> decide +kernel

/-- SuppliesSetTheComparators: its hypotheses are met, clause by clause. -/
theorem witness_SuppliesSetTheComparators :
    ((17000 ≤ (17000 : Nat))) ∧
    (((10999 : Nat) < 10 * (wb : State).rdF Reg.AON_BAT_CFG 10 0)) ∧
    ((10 * (wb : State).rdF Reg.AON_BAT_CFG 10 0 + 300 ≤ (11300 : Nat))) ∧
    ((10 * (wb : State).rdF Reg.AON_BAT_CFG 10 0 ≤ (11000 : Nat))) ∧
    (((11299 : Nat) < 10 * (wb : State).rdF Reg.AON_BAT_CFG 10 0 + 300)) ∧
    (((wb : State).rdB Reg.AON_STATUS 0 = false ∨ 16000 ≤ (16000 : Nat)) ∧ (((wb : State).rdB Reg.AON_STATUS 0 = true → (wb : State).aon.comparator = true))) ∧
    (((wb : State).rdB Reg.AON_STATUS 0 = true) ∧ ((15999 : Nat) < 16000) ∧ ((wb : State).aon.supRunning = true) ∧ ((wb : State).aon.flushing = false)) :=
  by
  refine ⟨?_, ?_, ?_, ?_, ?_, ?_, ?_⟩ <;> decide +kernel

/-- MainsFailsReturnsAndBatteryWatchEnds: its hypotheses are met, clause by clause. -/
theorem witness_MainsFailsReturnsAndBatteryWatchEnds :
    ((((wm .batteryWatch).wrB Reg.AON_STATUS 0 false : State).aon.comparator = true) ∧ (((wm .batteryWatch).wrB Reg.AON_STATUS 0 false : State).rdB Reg.AON_STATUS 0 = false) ∧ (((wm .batteryWatch).wrB Reg.AON_STATUS 0 false : State).aon.aonClockLost = false) ∧ (((wm .batteryWatch).wrB Reg.AON_STATUS 0 false : State).fault.heldInReset = false) ∧ (((wm .batteryWatch).wrB Reg.AON_STATUS 0 false : State).mode.mode = .batteryWatch)) ∧
    (((15999 : Nat) < 16000) ∧ ((wb : State).rdB Reg.AON_STATUS 0 = true) ∧ ((wb : State).aon.supRunning = true) ∧ ((wb : State).aon.flushing = false)) ∧
    ((({ wb.wrB Reg.AON_STATUS 0 false with aon := { wb.aon with flushing := true } } : State).aon.flushing = true) ∧ (({ wb.wrB Reg.AON_STATUS 0 false with aon := { wb.aon with flushing := true } } : State).rdB Reg.AON_STATUS 0 = false) ∧ (({ wb.wrB Reg.AON_STATUS 0 false with aon := { wb.aon with flushing := true } } : State).rdB Reg.AON_STATUS 1 = false) ∧ (({ wb.wrB Reg.AON_STATUS 0 false with aon := { wb.aon with flushing := true } } : State).mode.mode = .day)) ∧
    ((((wm .batteryWatch).wrB Reg.AON_STATUS 1 true : State).mode.mode = .batteryWatch) ∧ (((wm .batteryWatch).wrB Reg.AON_STATUS 1 true : State).rdB Reg.AON_STATUS 1 = true)) ∧
    ((((wm .batteryWatch).setObjN 0x2000 9 2 60 : State).mode.mode = .batteryWatch) ∧ (((wm .batteryWatch).setObjN 0x2000 9 2 60 : State).objN 0x2000 9 ≠ 0) ∧ (((wm .batteryWatch).setObjN 0x2000 9 2 60 : State).mode.entered + ((wm .batteryWatch).setObjN 0x2000 9 2 60 : State).objN 0x2000 9 * 60000000000 ≤ ((wm .batteryWatch).setObjN 0x2000 9 2 60 : State).eventTime)) ∧
    ((({ (wm .deepSleep).wrB Reg.AON_WAKE_CFG 0 true with aon := { wb.aon with tamperDue := [(1, 5)] } } : State).mode.mode = .deepSleep) ∧ (({ (wm .deepSleep).wrB Reg.AON_WAKE_CFG 0 true with aon := { wb.aon with tamperDue := [(1, 5)] } } : State).aon.aonClockLost = false) ∧ (({ (wm .deepSleep).wrB Reg.AON_WAKE_CFG 0 true with aon := { wb.aon with tamperDue := [(1, 5)] } } : State).rdB Reg.AON_STATUS 1 = false) ∧ (({ (wm .deepSleep).wrB Reg.AON_WAKE_CFG 0 true with aon := { wb.aon with tamperDue := [(1, 5)] } } : State).rdB Reg.AON_WAKE_CFG 0 = true) ∧ (({ (wm .deepSleep).wrB Reg.AON_WAKE_CFG 0 true with aon := { wb.aon with tamperDue := [(1, 5)] } } : State).aon.tamperDue ≠ [])) :=
  by
  refine ⟨?_, ?_, ?_, ?_, ?_, ?_⟩ <;> decide +kernel

/-- ResetsAndPowerRemoval: its hypotheses are met, clause by clause. -/
theorem witness_ResetsAndPowerRemoval :
    (((wb : State).aon.aonClockLost = false)) ∧
    (((wb.wrB Reg.AON_STATUS 0 false : State).aon.aonClockLost = false) ∧ ((wb.wrB Reg.AON_STATUS 0 false : State).rdB Reg.AON_STATUS 0 = false)) ∧
    (((wb : State).aon.aonClockLost = false) ∧ ((wb : State).rdB Reg.AON_STATUS 0 = true)) ∧
    (((8999 : Nat) < 9000) ∧ ((wb : State).aon.vbat < 9000)) ∧
    (((State.reset : State).aon.vin < 9000) ∧ ((State.reset : State).aon.vbat < 9000)) :=
  by
  refine ⟨?_, ?_, ?_, ?_, ?_⟩ <;> decide +kernel

/-- StartsDecideTheMode: its hypotheses are met, clause by clause. -/
theorem witness_StartsDecideTheMode :
    (((wm .starting : State).mode.mode = .starting) ∧ ((wm .starting : State).aon.supRunning = true) ∧ ((wm .starting : State).aon.inReset = false) ∧ ((wm .starting : State).time.loaded = true) ∧ ((wm .starting : State).pairWaits = false) ∧ ((wm .starting : State).fault.lastResetCause ≠ 5) ∧ ((wm .starting : State).rootOk = false)) ∧
    ((({ wm .starting with aon := { wb.aon with otp0 := { programmed := true, checkOk := true, commit := true } } } : State).mode.mode = .starting) ∧ (({ wm .starting with aon := { wb.aon with otp0 := { programmed := true, checkOk := true, commit := true } } } : State).aon.supRunning = true) ∧ (({ wm .starting with aon := { wb.aon with otp0 := { programmed := true, checkOk := true, commit := true } } } : State).aon.inReset = false) ∧ (({ wm .starting with aon := { wb.aon with otp0 := { programmed := true, checkOk := true, commit := true } } } : State).time.loaded = true) ∧ (({ wm .starting with aon := { wb.aon with otp0 := { programmed := true, checkOk := true, commit := true } } } : State).pairWaits = false) ∧ (({ wm .starting with aon := { wb.aon with otp0 := { programmed := true, checkOk := true, commit := true } } } : State).fault.lastResetCause ≠ 5) ∧ (({ wm .starting with aon := { wb.aon with otp0 := { programmed := true, checkOk := true, commit := true } } } : State).rootOk = true) ∧ (({ wm .starting with aon := { wb.aon with otp0 := { programmed := true, checkOk := true, commit := true } } } : State).updState ≠ 3) ∧ (({ wm .starting with aon := { wb.aon with otp0 := { programmed := true, checkOk := true, commit := true } } } : State).updState ≠ 4) ∧ (({ wm .starting with aon := { wb.aon with otp0 := { programmed := true, checkOk := true, commit := true } } } : State).objN 0x2000 8 = 0)) ∧
    ((({ (wm .starting).setObjN 0x2000 8 1 1 with aon := { wb.aon with otp0 := { programmed := true, checkOk := true, commit := true } } } : State).mode.mode = .starting) ∧ (({ (wm .starting).setObjN 0x2000 8 1 1 with aon := { wb.aon with otp0 := { programmed := true, checkOk := true, commit := true } } } : State).aon.supRunning = true) ∧ (({ (wm .starting).setObjN 0x2000 8 1 1 with aon := { wb.aon with otp0 := { programmed := true, checkOk := true, commit := true } } } : State).aon.inReset = false) ∧ (({ (wm .starting).setObjN 0x2000 8 1 1 with aon := { wb.aon with otp0 := { programmed := true, checkOk := true, commit := true } } } : State).time.loaded = true) ∧ (({ (wm .starting).setObjN 0x2000 8 1 1 with aon := { wb.aon with otp0 := { programmed := true, checkOk := true, commit := true } } } : State).pairWaits = false) ∧ (({ (wm .starting).setObjN 0x2000 8 1 1 with aon := { wb.aon with otp0 := { programmed := true, checkOk := true, commit := true } } } : State).fault.lastResetCause ≠ 5) ∧ (({ (wm .starting).setObjN 0x2000 8 1 1 with aon := { wb.aon with otp0 := { programmed := true, checkOk := true, commit := true } } } : State).rootOk = true) ∧ (({ (wm .starting).setObjN 0x2000 8 1 1 with aon := { wb.aon with otp0 := { programmed := true, checkOk := true, commit := true } } } : State).updState ≠ 3) ∧ (({ (wm .starting).setObjN 0x2000 8 1 1 with aon := { wb.aon with otp0 := { programmed := true, checkOk := true, commit := true } } } : State).updState ≠ 4) ∧ (({ (wm .starting).setObjN 0x2000 8 1 1 with aon := { wb.aon with otp0 := { programmed := true, checkOk := true, commit := true } } } : State).objN 0x2000 8 ≠ 0) ∧ (({ (wm .starting).setObjN 0x2000 8 1 1 with aon := { wb.aon with otp0 := { programmed := true, checkOk := true, commit := true } } } : State).objN 0x2020 1 ≠ 2)) ∧
    ((({ wm .starting with aon := { wb.aon with inReset := true } } : State).aon.inReset = true) ∧ (({ wm .starting with aon := { wb.aon with inReset := true } } : State).fault.heldInReset = false) ∧ (({ wm .starting with aon := { wb.aon with inReset := true } } : State).rdB Reg.AON_STATUS 0 = true) ∧ (({ wm .starting with aon := { wb.aon with inReset := true } } : State).mode.mode = .starting) ∧ (({ wm .starting with aon := { wb.aon with inReset := true } } : State).aon.resetCause = 0) ∧ (({ wm .starting with aon := { wb.aon with inReset := true } } : State).updState ≠ 3) ∧ (({ wm .starting with aon := { wb.aon with inReset := true } } : State).updState ≠ 4)) :=
  by
  refine ⟨?_, ?_, ?_, ?_⟩ <;> decide +kernel

/-- ModeTicksTakeTheFirstTrigger: its hypotheses are met, clause by clause. -/
theorem witness_ModeTicksTakeTheFirstTrigger :
    (((wb.wrB Reg.AON_STATUS 2 true : State).aon.supRunning = true) ∧ ((wb.wrB Reg.AON_STATUS 2 true : State).aon.inReset = false) ∧ ((wb.wrB Reg.AON_STATUS 2 true : State).mode.mode = .day) ∧ ((wb.wrB Reg.AON_STATUS 2 true : State).mode.phase = .day) ∧ ((wb.wrB Reg.AON_STATUS 2 true : State).rdB Reg.AON_STATUS 0 = true) ∧ ((wb.wrB Reg.AON_STATUS 2 true : State).mode.arbitrationLost = false) ∧ (((wb.wrB Reg.AON_STATUS 2 true : State).upTo (1749999999123456789 : Nat)).islands = false) ∧ (((wb.wrB Reg.AON_STATUS 2 true : State).upTo (1749999999123456789 : Nat)).darkNow = true) ∧ ((∀ e ∈ (wb.wrB Reg.AON_STATUS 2 true : State).dict.sessions, e.queue = []))) ∧
    ((({ wb with dict := { wb.dict with modeWait := [(11, 1, [])] } } : State).aon.supRunning = true) ∧ (({ wb with dict := { wb.dict with modeWait := [(11, 1, [])] } } : State).aon.inReset = false) ∧ (({ wb with dict := { wb.dict with modeWait := [(11, 1, [])] } } : State).mode.mode = .day) ∧ (({ wb with dict := { wb.dict with modeWait := [(11, 1, [])] } } : State).mode.phase = .day) ∧ (({ wb with dict := { wb.dict with modeWait := [(11, 1, [])] } } : State).rdB Reg.AON_STATUS 0 = true) ∧ (({ wb with dict := { wb.dict with modeWait := [(11, 1, [])] } } : State).mode.arbitrationLost = false) ∧ ((({ wb with dict := { wb.dict with modeWait := [(11, 1, [])] } } : State).upTo (1749999999123456789 : Nat)).islands = false) ∧ ((({ wb with dict := { wb.dict with modeWait := [(11, 1, [])] } } : State).upTo (1749999999123456789 : Nat)).darkNow = false) ∧ ((∀ e ∈ ({ wb with dict := { wb.dict with modeWait := [(11, 1, [])] } } : State).dict.sessions, e.queue = [])) ∧ (({ wb with dict := { wb.dict with modeWait := [(11, 1, [])] } } : State).dict.modeWait = [(11, (1 : Nat), [])])) ∧
    ((({ wm .transition with mode := { (wm .transition).mode with phase := .dusk, transAt := 1749990000000000000 } } : State).aon.supRunning = true) ∧ (({ wm .transition with mode := { (wm .transition).mode with phase := .dusk, transAt := 1749990000000000000 } } : State).aon.inReset = false) ∧ (({ wm .transition with mode := { (wm .transition).mode with phase := .dusk, transAt := 1749990000000000000 } } : State).mode.mode = .transition) ∧ (({ wm .transition with mode := { (wm .transition).mode with phase := .dusk, transAt := 1749990000000000000 } } : State).mode.phase = .dusk) ∧ (({ wm .transition with mode := { (wm .transition).mode with phase := .dusk, transAt := 1749990000000000000 } } : State).mode.toNight = true) ∧ (({ wm .transition with mode := { (wm .transition).mode with phase := .dusk, transAt := 1749990000000000000 } } : State).rdB Reg.AON_STATUS 0 = true) ∧ (({ wm .transition with mode := { (wm .transition).mode with phase := .dusk, transAt := 1749990000000000000 } } : State).mode.arbitrationLost = false) ∧ ((({ wm .transition with mode := { (wm .transition).mode with phase := .dusk, transAt := 1749990000000000000 } } : State).upTo (1749999999123456789 : Nat)).islands = false) ∧ ((({ wm .transition with mode := { (wm .transition).mode with phase := .dusk, transAt := 1749990000000000000 } } : State).upTo (1749999999123456789 : Nat)).transitionOver = true)) ∧
    ((({ wb with mode := { wb.mode with ringTimeSince := some 5, backhaulSince := some 5 } } : State).aon.supRunning = true) ∧ (({ wb with mode := { wb.mode with ringTimeSince := some 5, backhaulSince := some 5 } } : State).aon.inReset = false) ∧ (({ wb with mode := { wb.mode with ringTimeSince := some 5, backhaulSince := some 5 } } : State).rdB Reg.AON_STATUS 0 = true) ∧ (({ wb with mode := { wb.mode with ringTimeSince := some 5, backhaulSince := some 5 } } : State).mode.arbitrationLost = false) ∧ ((({ wb with mode := { wb.mode with ringTimeSince := some 5, backhaulSince := some 5 } } : State).upTo (1749999999123456789 : Nat)).islands = true) ∧ (({ wb with mode := { wb.mode with ringTimeSince := some 5, backhaulSince := some 5 } } : State).dict.modeWait = [])) ∧
    ((({ (wm .nightFollowing).wrB Reg.AON_STATUS 2 true with mode := { (wm .nightFollowing).mode with phase := .night } } : State).aon.supRunning = true) ∧ (({ (wm .nightFollowing).wrB Reg.AON_STATUS 2 true with mode := { (wm .nightFollowing).mode with phase := .night } } : State).aon.inReset = false) ∧ (({ (wm .nightFollowing).wrB Reg.AON_STATUS 2 true with mode := { (wm .nightFollowing).mode with phase := .night } } : State).mode.mode = .nightFollowing) ∧ (({ (wm .nightFollowing).wrB Reg.AON_STATUS 2 true with mode := { (wm .nightFollowing).mode with phase := .night } } : State).mode.phase = .night) ∧ (({ (wm .nightFollowing).wrB Reg.AON_STATUS 2 true with mode := { (wm .nightFollowing).mode with phase := .night } } : State).rdB Reg.AON_STATUS 0 = true) ∧ (({ (wm .nightFollowing).wrB Reg.AON_STATUS 2 true with mode := { (wm .nightFollowing).mode with phase := .night } } : State).mode.arbitrationLost = false) ∧ ((({ (wm .nightFollowing).wrB Reg.AON_STATUS 2 true with mode := { (wm .nightFollowing).mode with phase := .night } } : State).upTo (1749999999123456789 : Nat)).islands = false) ∧ ((({ (wm .nightFollowing).wrB Reg.AON_STATUS 2 true with mode := { (wm .nightFollowing).mode with phase := .night } } : State).upTo (1749999999123456789 : Nat)).darkNow = true) ∧ (({ (wm .nightFollowing).wrB Reg.AON_STATUS 2 true with mode := { (wm .nightFollowing).mode with phase := .night } } : State).mode.lawWritten = none) ∧ ((({ (wm .nightFollowing).wrB Reg.AON_STATUS 2 true with mode := { (wm .nightFollowing).mode with phase := .night } } : State).upTo (1749999999123456789 : Nat)).countsLost = true)) ∧
    (((wm .commission : State).coresRun = true) ∧ ((wm .commission : State).mode.mode = .commission)) :=
  by
  refine ⟨?_, ?_, ?_, ?_, ?_, ?_⟩ <;> decide +kernel

/-- TampersAndTheRootSecret: its hypotheses are met, clause by clause. -/
theorem witness_TampersAndTheRootSecret :
    (((wb : State).aon.aonClockLost = false) ∧ ((wb : State).rdB Reg.AON_TAMPER_STAT (2 : Fin 3).val = false) ∧ (4 ≤ (4 : Nat))) ∧
    (((wb : State).aon.aonClockLost = false) ∧ ((3 : Nat) < 4)) ∧
    (((wb.wrB Reg.AON_TAMPER_STAT 2 true : State).aon.aonClockLost = false) ∧ ((wb.wrB Reg.AON_TAMPER_STAT 2 true : State).rdB Reg.AON_TAMPER_STAT (2 : Fin 3).val = true) ∧ (4 ≤ (4 : Nat))) ∧
    (((wb : State).coresRun = true) ∧ ((wb : State).mode.mode = .day) ∧ ((wb : State).aon.aonClockLost = false) ∧ ((wb : State).rdF Reg.AON_STATUS 5 3 = 0)) ∧
    (((wb.wrB Reg.AON_STATUS 3 true : State).coresRun = true) ∧ ((wb.wrB Reg.AON_STATUS 3 true : State).mode.mode = .day) ∧ ((wb.wrB Reg.AON_STATUS 3 true : State).rdB Reg.AON_STATUS 3 = true)) ∧
    (((wm .provision : State).mode.mode = .provision) ∧ ((wm .provision : State).rootOk = false) ∧ ((wm .provision : State).aon.otp0.retire = false)) :=
  by
  refine ⟨?_, ?_, ?_, ?_, ?_, ?_⟩ <;> decide +kernel

/-- PairsAnnounceArbitrateAndTakeOver: its hypotheses are met, clause by clause. -/
theorem witness_PairsAnnounceArbitrateAndTakeOver :
    (((wp : State).announces = true) ∧ ((wp : State).eui.length = 8) ∧ ((wp : State).objN 0x2700 0x0F ≠ 0xFF) ∧ ((wp : State).can.hbCount < 0xFFFFEFFF)) ∧
    (((wp : State).objN 0x2700 0x0F ≠ 0xFF) ∧ ((((List.replicate 8 (2 : Byte) ++ [1, 2, 0, 0, 9, 0, 0, 0]) ++ heartMic (kdf (wp.slot 130).key [0x50, 0x48, 0x42, 0x4B] 0 (List.replicate 8 2) 16) 8 (List.replicate 8 (2 : Byte) ++ [1, 2, 0, 0, 9, 0, 0, 0])) : List Byte).length = 24) ∧ ((wp : State).objN 0x2020 1 ≠ 0) ∧ (slice (((List.replicate 8 (2 : Byte) ++ [1, 2, 0, 0, 9, 0, 0, 0]) ++ heartMic (kdf (wp.slot 130).key [0x50, 0x48, 0x42, 0x4B] 0 (List.replicate 8 2) 16) 8 (List.replicate 8 (2 : Byte) ++ [1, 2, 0, 0, 9, 0, 0, 0])) : List Byte) 0 8 = (wp : State).obj 0x2020 2) ∧ ((wp : State).aon.appOff = false) ∧ ((wp : State).mode.canStarted.isSome = true) ∧ (slice (((List.replicate 8 (2 : Byte) ++ [1, 2, 0, 0, 9, 0, 0, 0]) ++ heartMic (kdf (wp.slot 130).key [0x50, 0x48, 0x42, 0x4B] 0 (List.replicate 8 2) 16) 8 (List.replicate 8 (2 : Byte) ++ [1, 2, 0, 0, 9, 0, 0, 0])) : List Byte) 16 8 = heartMic (kdf ((wp : State).slot ((wp : State).objN 0x2700 0x0F)).key [0x50, 0x48, 0x42, 0x4B] (leAt (((List.replicate 8 (2 : Byte) ++ [1, 2, 0, 0, 9, 0, 0, 0]) ++ heartMic (kdf (wp.slot 130).key [0x50, 0x48, 0x42, 0x4B] 0 (List.replicate 8 2) 16) 8 (List.replicate 8 (2 : Byte) ++ [1, 2, 0, 0, 9, 0, 0, 0])) : List Byte) 10 1) (slice (((List.replicate 8 (2 : Byte) ++ [1, 2, 0, 0, 9, 0, 0, 0]) ++ heartMic (kdf (wp.slot 130).key [0x50, 0x48, 0x42, 0x4B] 0 (List.replicate 8 2) 16) 8 (List.replicate 8 (2 : Byte) ++ [1, 2, 0, 0, 9, 0, 0, 0])) : List Byte) 0 8) 16) 8 (slice (((List.replicate 8 (2 : Byte) ++ [1, 2, 0, 0, 9, 0, 0, 0]) ++ heartMic (kdf (wp.slot 130).key [0x50, 0x48, 0x42, 0x4B] 0 (List.replicate 8 2) 16) 8 (List.replicate 8 (2 : Byte) ++ [1, 2, 0, 0, 9, 0, 0, 0])) : List Byte) 0 16)) ∧ ((Sparse.find? (fromLE (slice (((List.replicate 8 (2 : Byte) ++ [1, 2, 0, 0, 9, 0, 0, 0]) ++ heartMic (kdf (wp.slot 130).key [0x50, 0x48, 0x42, 0x4B] 0 (List.replicate 8 2) 16) 8 (List.replicate 8 (2 : Byte) ++ [1, 2, 0, 0, 9, 0, 0, 0])) : List Byte) 0 8)) (wp : State).can.hbHeard).getD 0 < leAt (((List.replicate 8 (2 : Byte) ++ [1, 2, 0, 0, 9, 0, 0, 0]) ++ heartMic (kdf (wp.slot 130).key [0x50, 0x48, 0x42, 0x4B] 0 (List.replicate 8 2) 16) 8 (List.replicate 8 (2 : Byte) ++ [1, 2, 0, 0, 9, 0, 0, 0])) : List Byte) 10 1 * 2 ^ 32 + leAt (((List.replicate 8 (2 : Byte) ++ [1, 2, 0, 0, 9, 0, 0, 0]) ++ heartMic (kdf (wp.slot 130).key [0x50, 0x48, 0x42, 0x4B] 0 (List.replicate 8 2) 16) 8 (List.replicate 8 (2 : Byte) ++ [1, 2, 0, 0, 9, 0, 0, 0])) : List Byte) 12 4) ∧ (leAt (((List.replicate 8 (2 : Byte) ++ [1, 2, 0, 0, 9, 0, 0, 0]) ++ heartMic (kdf (wp.slot 130).key [0x50, 0x48, 0x42, 0x4B] 0 (List.replicate 8 2) 16) 8 (List.replicate 8 (2 : Byte) ++ [1, 2, 0, 0, 9, 0, 0, 0])) : List Byte) 8 1 = 1) ∧ ((wp : State).aon.supRunning = true) ∧ ((wp : State).mode.mode = .day)) ∧
    ((((wm .standby : State).upTo (1749999999123456789 : Nat)).partnerSilent = true) ∧ ((wm .standby : State).aon.supRunning = true) ∧ ((wm .standby : State).rdB Reg.AON_STATUS 0 = true) ∧ ((wm .standby : State).aon.flushing = false) ∧ ((wm .standby : State).mode.phase = .day)) ∧
    (((wm .standby : State).mode.mode = .standby)) :=
  by
  refine ⟨?_, (by
  refine ⟨by decide +kernel, ?_, by decide +kernel, by decide +kernel, by decide +kernel, by decide +kernel, ?_, by decide +kernel, by decide +kernel, by decide +kernel, by decide +kernel⟩
  · simp [heartMic, rollMic, fit]
  · exact pair_tail _ (by simp [heartMic, rollMic, fit])), ?_, ?_⟩ <;> decide +kernel

/-- DuplicatesAreAnsweredFromTheCache: its hypotheses are met, clause by clause. -/
theorem witness_DuplicatesAreAnsweredFromTheCache :
    ((({ ws [] with dict := { (ws []).dict with sessions := [{ we with cache := [(7, [1])] }] } } : State).coresRun = true) ∧ (({ ws [] with dict := { (ws []).dict with sessions := [{ we with cache := [(7, [1])] }] } } : State).session ({ we with cache := [(7, [1])] } : Sess).id = some ({ we with cache := [(7, [1])] } : Sess)) ∧ (({ we with cache := [(7, [1])] } : Sess).kind = .ring) ∧ (assoc? ({ tid := 7 } : Msg).tid ({ we with cache := [(7, [1])] } : Sess).cache = some ([1] : List Byte)) ∧ (({ we with cache := [(7, [1])] } : Sess).queue = []) ∧ (({ tid := 7 } : Msg).busy = false) ∧ (16 + ({ tid := 7 } : Msg).body.length ≤ ({ we with cache := [(7, [1])] } : Sess).buf) ∧ (({ tid := 7 } : Msg).body.length = ({ tid := 7 } : Msg).length + (if Nat.testBit ({ tid := 7 } : Msg).flags 0 then 108 else 0)) ∧ ((Instr.closeSession 1 { tid := 7 }) ∈ [Instr.openSession ({ we with cache := [(7, [1])] } : Sess).id ({ tid := 7 } : Msg), .closeSession ({ we with cache := [(7, [1])] } : Sess).id ({ tid := 7 } : Msg), .readObject ({ we with cache := [(7, [1])] } : Sess).id ({ tid := 7 } : Msg), .writeObject ({ we with cache := [(7, [1])] } : Sess).id ({ tid := 7 } : Msg), .describeObject ({ we with cache := [(7, [1])] } : Sess).id ({ tid := 7 } : Msg), .segReadStart ({ we with cache := [(7, [1])] } : Sess).id ({ tid := 7 } : Msg), .segWriteStart ({ we with cache := [(7, [1])] } : Sess).id ({ tid := 7 } : Msg), .segWriteData ({ we with cache := [(7, [1])] } : Sess).id ({ tid := 7 } : Msg), .segAbort ({ we with cache := [(7, [1])] } : Sess).id ({ tid := 7 } : Msg), .declareObject ({ we with cache := [(7, [1])] } : Sess).id ({ tid := 7 } : Msg)])) :=
  by
  refine ?_ <;> decide +kernel

/-- RingSessionsOpenAndEnd: its hypotheses are met, clause by clause. -/
theorem witness_RingSessionsOpenAndEnd :
    (((wk.setObj 0x1020 2 [3] : State).coresRun = true) ∧ (({ slot := 3 } : ClientHello).port = 48071) ∧ (helloSupported ({ slot := 3 } : ClientHello) = true) ∧ (({ slot := 3 } : ClientHello).chain = true) ∧ ((wk.setObj 0x1020 2 [3] : State).chainCheck 2 = .ok) ∧ ((wk.setObj 0x1020 2 [3] : State).anchorOf ({ slot := 3 } : ClientHello).slot = some (2 : Nat)) ∧ ((wk.setObj 0x1020 2 [3] : State).chainCheck ({ slot := 3 } : ClientHello).slot = .ok) ∧ (((wk.setObj 0x1020 2 [3] : State).upTo (1749999999123456789 : Nat)).certsValid ({ slot := 3 } : ClientHello) = true) ∧ ((wk.setObj 0x1020 2 [3] : State).ringSessions.length < 16)) ∧
    ((({ wk.setObj 0x1020 2 [3] with dict := { wb.dict with sessions := List.replicate 16 we } } : State).coresRun = true) ∧ (({ slot := 3 } : ClientHello).port = 48071) ∧ (helloSupported ({ slot := 3 } : ClientHello) = true) ∧ (({ slot := 3 } : ClientHello).chain = true) ∧ (({ wk.setObj 0x1020 2 [3] with dict := { wb.dict with sessions := List.replicate 16 we } } : State).chainCheck 2 = .ok) ∧ (({ wk.setObj 0x1020 2 [3] with dict := { wb.dict with sessions := List.replicate 16 we } } : State).anchorOf ({ slot := 3 } : ClientHello).slot = some (2 : Nat)) ∧ (({ wk.setObj 0x1020 2 [3] with dict := { wb.dict with sessions := List.replicate 16 we } } : State).chainCheck ({ slot := 3 } : ClientHello).slot = .ok) ∧ ((({ wk.setObj 0x1020 2 [3] with dict := { wb.dict with sessions := List.replicate 16 we } } : State).upTo (1749999999123456789 : Nat)).certsValid ({ slot := 3 } : ClientHello) = true) ∧ (16 ≤ ({ wk.setObj 0x1020 2 [3] with dict := { wb.dict with sessions := List.replicate 16 we } } : State).ringSessions.length)) ∧
    (((wb : State).coresRun = true) ∧ (({ psk := true } : ClientHello).port = 48071) ∧ (helloSupported ({ psk := true } : ClientHello) = false)) ∧
    (((ws [] : State).hears (we : Sess) 1 ({ tid := 7, param := 5000 } : Msg)) ∧ (({ tid := 7, param := 5000 } : Msg).param = 5000)) ∧
    (((ws [] : State).hears (we : Sess) 2 ({ tid := 7 } : Msg))) ∧
    (((ws [] : State).session (we : Sess).id = some (we : Sess)) ∧ ((we : Sess).kind = .ring)) ∧
    (((ws [] : State).session (we : Sess).id = some (we : Sess)) ∧ ((we : Sess).kind = .ring) ∧ ((we : Sess).last + (ws [] : State).objN 0x1022 2 * 1000000000 ≤ (1750000000000000000 : Nat))) :=
  by
  refine ⟨?_, ?_, ?_, ?_, ?_, ?_, ?_⟩ <;> first | decide +kernel | (try unfold State.hears ; decide +kernel)

/-- ObjectsAreReadWrittenAndDescribed: its hypotheses are met, clause by clause. -/
theorem witness_ObjectsAreReadWrittenAndDescribed :
    (((ws [(Obj.key 0x1021 2, [2])] : State).hears (we : Sess) 0x10 ({ tid := 7, idx := 0x2000, sub := 6 } : Msg)) ∧ (({ tid := 7, idx := 0x2000, sub := 6 } : Msg).idx = 0x2000) ∧ (({ tid := 7, idx := 0x2000, sub := 6 } : Msg).sub = 6) ∧ (((ws [(Obj.key 0x1021 2, [2])] : State).obj 0x2000 6).length = 1)) ∧
    (((ws [(Obj.key 0x1021 2, [2])] : State).hears (we : Sess) 0x11 ({ tid := 7, idx := 0x2000, sub := 6, length := 1, body := [1] } : Msg)) ∧ (({ tid := 7, idx := 0x2000, sub := 6, length := 1, body := [1] } : Msg).idx = 0x2000) ∧ (({ tid := 7, idx := 0x2000, sub := 6, length := 1, body := [1] } : Msg).sub = 6) ∧ (({ tid := 7, idx := 0x2000, sub := 6, length := 1, body := [1] } : Msg).body = [(1 : Byte)]) ∧ (({ tid := 7, idx := 0x2000, sub := 6, length := 1, body := [1] } : Msg).length = 1) ∧ ((1 : Byte).toNat ≤ 2) ∧ ((ws [(Obj.key 0x1021 2, [2])] : State).objN 0x1021 (we : Sess).anchor = 2) ∧ ((ws [(Obj.key 0x1021 2, [2])] : State).mode.mode = .day) ∧ ((ws [(Obj.key 0x1021 2, [2])] : State).held 0x2000 6 = false)) ∧
    (((ws [(Obj.key 0x1021 2, [1])] : State).hears (we : Sess) 0x11 ({ tid := 7, idx := 0x2000, sub := 6 } : Msg)) ∧ (({ tid := 7, idx := 0x2000, sub := 6 } : Msg).idx = 0x2000) ∧ (({ tid := 7, idx := 0x2000, sub := 6 } : Msg).sub = 6) ∧ ((ws [(Obj.key 0x1021 2, [1])] : State).objN 0x1021 (we : Sess).anchor = 1)) ∧
    (((ws [(Obj.key 0x1021 2, [2])] : State).hears (we : Sess) 0x12 ({ tid := 7, idx := 0x2000, sub := 9 } : Msg)) ∧ (({ tid := 7, idx := 0x2000, sub := 9 } : Msg).idx = 0x2000) ∧ (({ tid := 7, idx := 0x2000, sub := 9 } : Msg).sub = 9)) ∧
    (((ws [(Obj.key 0x1021 2, [2])] : State).hears (we : Sess) 0x30 ({ tid := 7, idx := 0x2000, sub := 6 } : Msg))) ∧
    (((wb : State).coresRun = true) ∧ ((wb : State).session 0 = some ({ id := 0, kind := .mailbox, buf := 4096, opened := true } : Sess)) ∧ (({ id := 0, kind := .mailbox, buf := 4096, opened := true } : Sess).id = 0) ∧ (({ id := 0, kind := .mailbox, buf := 4096, opened := true } : Sess).kind = .mailbox) ∧ (({ id := 0, kind := .mailbox, buf := 4096, opened := true } : Sess).opened = true) ∧ (({ id := 0, kind := .mailbox, buf := 4096, opened := true } : Sess).buf = 4096) ∧ (({ tid := 7, idx := 0x3100, sub := 1, length := 16, body := [3, 2, 0, 0, 0xFF, 0x0F, 0, 0, 4, 0, 0, 0, 0, 0, 0, 0] } : Msg).version = 1) ∧ (({ tid := 7, idx := 0x3100, sub := 1, length := 16, body := [3, 2, 0, 0, 0xFF, 0x0F, 0, 0, 4, 0, 0, 0, 0, 0, 0, 0] } : Msg).flags = 0) ∧ (({ tid := 7, idx := 0x3100, sub := 1, length := 16, body := [3, 2, 0, 0, 0xFF, 0x0F, 0, 0, 4, 0, 0, 0, 0, 0, 0, 0] } : Msg).status = 0) ∧ (({ tid := 7, idx := 0x3100, sub := 1, length := 16, body := [3, 2, 0, 0, 0xFF, 0x0F, 0, 0, 4, 0, 0, 0, 0, 0, 0, 0] } : Msg).credit = 0) ∧ (({ tid := 7, idx := 0x3100, sub := 1, length := 16, body := [3, 2, 0, 0, 0xFF, 0x0F, 0, 0, 4, 0, 0, 0, 0, 0, 0, 0] } : Msg).idx = 0x3100) ∧ (({ tid := 7, idx := 0x3100, sub := 1, length := 16, body := [3, 2, 0, 0, 0xFF, 0x0F, 0, 0, 4, 0, 0, 0, 0, 0, 0, 0] } : Msg).sub = 1) ∧ (({ tid := 7, idx := 0x3100, sub := 1, length := 16, body := [3, 2, 0, 0, 0xFF, 0x0F, 0, 0, 4, 0, 0, 0, 0, 0, 0, 0] } : Msg).length = 16) ∧ (({ tid := 7, idx := 0x3100, sub := 1, length := 16, body := [3, 2, 0, 0, 0xFF, 0x0F, 0, 0, 4, 0, 0, 0, 0, 0, 0, 0] } : Msg).body = [3, 2, 0, 0, 0xFF, 0x0F, 0, 0, 4, 0, 0, 0, 0, 0, 0, 0]) ∧ (assoc? ({ tid := 7, idx := 0x3100, sub := 1, length := 16, body := [3, 2, 0, 0, 0xFF, 0x0F, 0, 0, 4, 0, 0, 0, 0, 0, 0, 0] } : Msg).tid ({ id := 0, kind := .mailbox, buf := 4096, opened := true } : Sess).cache = none) ∧ ((wb : State).waits 0 ({ tid := 7, idx := 0x3100, sub := 1, length := 16, body := [3, 2, 0, 0, 0xFF, 0x0F, 0, 0, 4, 0, 0, 0, 0, 0, 0, 0] } : Msg).tid = false) ∧ ((wb : State).dict.decls = []) ∧ ((wb : State).held 0x3100 1 = false)) :=
  by
  refine ⟨?_, ?_, ?_, ?_, ?_, ?_⟩ <;> first | decide +kernel | (try unfold State.hears ; decide +kernel)

/-- SegmentedTransfers: its hypotheses are met, clause by clause. -/
theorem witness_SegmentedTransfers :
    (((ws [] : State).hears (we : Sess) 0x20 ({ tid := 7, idx := 0x2000, sub := 6 } : Msg)) ∧ (({ tid := 7, idx := 0x2000, sub := 6 } : Msg).idx = 0x2000) ∧ (({ tid := 7, idx := 0x2000, sub := 6 } : Msg).sub = 6) ∧ ((ws [] : State).xferRoom (we : Sess) = true)) ∧
    (((wsx false : State).hears (we : Sess) 0x21 ({ tid := 7, idx := 0x2000, sub := 6, param := 2, length := 4 } : Msg)) ∧ ((wsx false : State).xferMay ({ tid := 7, idx := 0x2000, sub := 6, param := 2, length := 4 } : Msg) = 0) ∧ ((wsx false : State).xferFind (we : Sess) false ({ tid := 7, idx := 0x2000, sub := 6, param := 2, length := 4 } : Msg) = some (wx false : Xfer)) ∧ (({ tid := 7, idx := 0x2000, sub := 6, param := 2, length := 4 } : Msg).param ≤ (wx false : Xfer).total)) ∧
    (((ws [(Obj.key 0x1021 2, [2])] : State).hears (we : Sess) 0x28 ({ tid := 7, idx := 0x2000, sub := 6, param := 1 } : Msg)) ∧ (({ tid := 7, idx := 0x2000, sub := 6, param := 1 } : Msg).idx = 0x2000) ∧ (({ tid := 7, idx := 0x2000, sub := 6, param := 1 } : Msg).sub = 6) ∧ (({ tid := 7, idx := 0x2000, sub := 6, param := 1 } : Msg).param = 1) ∧ ((ws [(Obj.key 0x1021 2, [2])] : State).objN 0x1021 (we : Sess).anchor = 2) ∧ ((ws [(Obj.key 0x1021 2, [2])] : State).mode.mode = .day) ∧ ((ws [(Obj.key 0x1021 2, [2])] : State).held 0x2000 6 = false) ∧ ((ws [(Obj.key 0x1021 2, [2])] : State).xferRoom (we : Sess) = true)) ∧
    (((wsx true : State).hears (we : Sess) 0x29 ({ tid := 7, idx := 0x2000, sub := 6, param := 2, length := 1, body := [3] } : Msg)) ∧ ((wsx true : State).xferMay ({ tid := 7, idx := 0x2000, sub := 6, param := 2, length := 1, body := [3] } : Msg) = 0) ∧ ((wsx true : State).xferFind (we : Sess) true ({ tid := 7, idx := 0x2000, sub := 6, param := 2, length := 1, body := [3] } : Msg) = some (wx true : Xfer)) ∧ (({ tid := 7, idx := 0x2000, sub := 6, param := 2, length := 1, body := [3] } : Msg).param = (wx true : Xfer).data.length) ∧ (({ tid := 7, idx := 0x2000, sub := 6, param := 2, length := 1, body := [3] } : Msg).body ≠ []) ∧ ((wx true : Xfer).data.length + ({ tid := 7, idx := 0x2000, sub := 6, param := 2, length := 1, body := [3] } : Msg).body.length < (wx true : Xfer).total)) ∧
    (((wsx true : State).hears (we : Sess) 0x29 ({ tid := 7, idx := 0x2000, sub := 6, param := 5, length := 1, body := [3] } : Msg)) ∧ ((wsx true : State).xferMay ({ tid := 7, idx := 0x2000, sub := 6, param := 5, length := 1, body := [3] } : Msg) = 0) ∧ ((wsx true : State).xferFind (we : Sess) true ({ tid := 7, idx := 0x2000, sub := 6, param := 5, length := 1, body := [3] } : Msg) = some (wx true : Xfer)) ∧ (({ tid := 7, idx := 0x2000, sub := 6, param := 5, length := 1, body := [3] } : Msg).param ≠ (wx true : Xfer).data.length)) ∧
    (((wsx true : State).hears (we : Sess) 0x2F ({ tid := 7, idx := 0x2000, sub := 6 } : Msg)) ∧ ((wsx true : State).xferMay ({ tid := 7, idx := 0x2000, sub := 6 } : Msg) = 0) ∧ ((wsx true : State).dict.xfers = [(wx true : Xfer)]) ∧ ((wx true : Xfer).sess = (we : Sess).id) ∧ ((wx true : Xfer).idx = ({ tid := 7, idx := 0x2000, sub := 6 } : Msg).idx) ∧ ((wx true : Xfer).sub = ({ tid := 7, idx := 0x2000, sub := 6 } : Msg).sub)) ∧
    (((wsx true : State).dict.xfers = [(wx true : Xfer)]) ∧ ((wx true : Xfer).last + 10000000000 ≤ (1750000000000000000 : Nat))) :=
  by
  refine ⟨?_, ?_, ?_, ?_, ?_, ?_, ?_⟩ <;> first | decide +kernel | (try unfold State.hears ; decide +kernel)

/-- EnvelopesMailboxBackupsAndLockout: its hypotheses are met, clause by clause. -/
theorem witness_EnvelopesMailboxBackupsAndLockout :
    ((({ wb with can := { wb.can with envelopes := [(0, 5, List.replicate 32 1)] }, dict := { wb.dict with sessions := wb.dict.sessions ++ [{ id := 9, kind := .can 5, buf := 256, opened := true }] } } : State).can.envelopes = ((0 : Nat), (5 : Nat), (List.replicate 32 1 : List Byte)) :: ([] : List (Nat × Nat × List Byte))) ∧ (({ wb with can := { wb.can with envelopes := [(0, 5, List.replicate 32 1)] }, dict := { wb.dict with sessions := wb.dict.sessions ++ [{ id := 9, kind := .can 5, buf := 256, opened := true }] } } : State).coresRun = true) ∧ (({ wb with can := { wb.can with envelopes := [(0, 5, List.replicate 32 1)] }, dict := { wb.dict with sessions := wb.dict.sessions ++ [{ id := 9, kind := .can 5, buf := 256, opened := true }] } } : State).envelopeCopy (0 : Nat) (5 : Nat) (leAt (List.replicate 32 1 : List Byte) 4 4) = false) ∧ (32 ≤ (List.replicate 32 1 : List Byte).length) ∧ (({ wb with can := { wb.can with envelopes := [(0, 5, List.replicate 32 1)] }, dict := { wb.dict with sessions := wb.dict.sessions ++ [{ id := 9, kind := .can 5, buf := 256, opened := true }] } } : State).nodeSessions (5 : Nat) = [({ id := 9, kind := .can 5, buf := 256, opened := true } : Sess).id]) ∧ (({ wb with can := { wb.can with envelopes := [(0, 5, List.replicate 32 1)] }, dict := { wb.dict with sessions := wb.dict.sessions ++ [{ id := 9, kind := .can 5, buf := 256, opened := true }] } } : State).session ({ id := 9, kind := .can 5, buf := 256, opened := true } : Sess).id = some ({ id := 9, kind := .can 5, buf := 256, opened := true } : Sess)) ∧ (({ id := 9, kind := .can 5, buf := 256, opened := true } : Sess).kind = .can (5 : Nat)) ∧ (({ id := 9, kind := .can 5, buf := 256, opened := true } : Sess).queue = [])) ∧
    (((wmb : State).rdB Reg.SYS_CORE3_CTRL 0 = true) ∧ ((wmb : State).coresRun = true) ∧ ((wmb : State).dict.held = []) ∧ ((wmb : State).mboxWord 1 = 1) ∧ ((wmb : State).mboxWord 2 = 0) ∧ (((wmb : State).mboxRequest 0).length = 16) ∧ (leAt ((wmb : State).mboxRequest 0) 0 1 = 0) ∧ ((wmb : State).session 0 = some { id := 0, kind := .mailbox, buf := 4096, opened := true }) ∧ (leAt ((wmb : State).mboxRequest 0) 12 2 = 0) ∧ (leAt ((wmb : State).mboxRequest 0) 7 1 = 0) ∧ ((wmb : State).mboxFull = false) ∧ ((wmb : State).dict.modeWait = [])) ∧
    (((wmb : State).rdB Reg.SYS_CORE3_CTRL 0 = true) ∧ ((wmb : State).dict.held = [])) ∧
    ((({ wb with dict := { wb.dict with backupDue := [5] } } : State).coresRun = true) ∧ (({ wb with dict := { wb.dict with backupDue := [5] } } : State).dict.backupDue = [(5 : Nat)])) ∧
    ((({ wb with dict := { wb.dict with lockout := some 1750000000000000000 } } : State).dict.lockout = some (1750000000000000000 : Nat)) ∧ (({ wb with dict := { wb.dict with lockout := some 1750000000000000000 } } : State).time.loaded = true) ∧ ((1750000000000000000 : Nat) ≤ (1750000000000000000 : Nat))) :=
  by
  refine ⟨?_, ?_, ?_, ?_, ?_⟩ <;> decide +kernel

/-- LocalClockIsReadSetAndSteered: its hypotheses are met, clause by clause. -/
theorem witness_LocalClockIsReadSetAndSteered :
    (((.app0 : Initiator).isCore = true) ∧ (((.app0 : Initiator) = .app3 → (wb : State).permAdmits 2 false = true))) ∧
    (((.sup : Initiator).resident = true) ∧ ((wb.wrN Reg.TIME_SET_NS 999999999 : State).rdF Reg.TIME_SET_NS 29 0 ≤ 999999999) ∧ ((wb.wrN Reg.TIME_SET_NS 999999999 : State).unarmed)) ∧
    (((.sup : Initiator).resident = true) ∧ (999999999 < (wb.wrN Reg.TIME_SET_NS 1000000000 : State).rdF Reg.TIME_SET_NS 29 0)) ∧
    (((.sup : Initiator).resident = true) ∧ ((((wb.wrN Reg.TIME_STEP_NS 999999999 : State).rd Reg.TIME_STEP_NS).toInt.natAbs ≤ 999999999)) ∧ ((wb.wrN Reg.TIME_STEP_NS 999999999 : State).unarmed) ∧ (0 ≤ ((wb.wrN Reg.TIME_STEP_NS 999999999 : State).time.now : Int) + (((wb.wrN Reg.TIME_STEP_NS 999999999 : State).rd Reg.TIME_STEP_SEC).toInt * 1000000000 + ((wb.wrN Reg.TIME_STEP_NS 999999999 : State).rd Reg.TIME_STEP_NS).toInt)) ∧ (((wb.wrN Reg.TIME_STEP_NS 999999999 : State).time.now : Int) + (((wb.wrN Reg.TIME_STEP_NS 999999999 : State).rd Reg.TIME_STEP_SEC).toInt * 1000000000 + ((wb.wrN Reg.TIME_STEP_NS 999999999 : State).rd Reg.TIME_STEP_NS).toInt) < ((2 ^ 48 * 1000000000 : Nat) : Int))) ∧
    (((.sup : Initiator).resident = true) ∧ ((999999999 < ((wb.wrN Reg.TIME_STEP_NS 1000000000 : State).rd Reg.TIME_STEP_NS).toInt.natAbs ∨ ((wb.wrN Reg.TIME_STEP_NS 1000000000 : State).time.now : Int) + (((wb.wrN Reg.TIME_STEP_NS 1000000000 : State).rd Reg.TIME_STEP_SEC).toInt * 1000000000 + ((wb.wrN Reg.TIME_STEP_NS 1000000000 : State).rd Reg.TIME_STEP_NS).toInt) < 0))) ∧
    (((.sup : Initiator).resident = true) ∧ (((wb.wrB Reg.TIME_SERVO_CTRL 0 true).wrN Reg.TIME_SERVO_LIMIT 0x00010001 : State).rdB Reg.TIME_SERVO_CTRL 0 = true) ∧ (((wb.wrB Reg.TIME_SERVO_CTRL 0 true).wrN Reg.TIME_SERVO_LIMIT 0x00010001 : State).rdF Reg.TIME_SERVO_CTRL 3 2 ≠ 1) ∧ ((((wb.wrB Reg.TIME_SERVO_CTRL 0 true).wrN Reg.TIME_SERVO_LIMIT 0x00010001 : State).rdB Reg.TIME_SERVO_CTRL 1 = true → (4000 : Word).toInt.natAbs ≤ 4000 * ((wb.wrB Reg.TIME_SERVO_CTRL 0 true).wrN Reg.TIME_SERVO_LIMIT 0x00010001 : State).rdF Reg.TIME_SERVO_LIMIT 15 0))) ∧
    (((.sup : Initiator).resident = true) ∧ ((wb : State).rdB Reg.TIME_SERVO_CTRL 0 = false)) ∧
    ((({ wb with time := { wb.time with servoState := 2 } } : State).time.servoState = 2) ∧ (({ wb with time := { wb.time with servoState := 2 } } : State).time.offsetAt + max 1 (({ wb with time := { wb.time with servoState := 2 } } : State).rdF Reg.TIME_SERVO_LOCK 31 24) * 1000000000 ≤ (1750000009999999999 : Nat)) ∧ (({ wb with time := { wb.time with servoState := 2 } } : State).time.now ≤ (1750000009999999999 : Nat))) :=
  by
  refine ⟨?_, ?_, ?_, ?_, ?_, ?_, ?_, ?_⟩ <;> first | decide +kernel | (try unfold State.unarmed ; decide +kernel)

/-- CapturesStampsAndNetworkTime: its hypotheses are met, clause by clause. -/
theorem witness_CapturesStampsAndNetworkTime :
    (((wc : State).rdB Reg.SYS_CLKMON 0 = true) ∧ ((wc : State).rdB Reg.TIME_CAPT_CTRL (2 * (7 : Fin 8).val) = true) ∧ ((wc : State).time.now ≤ (6999999996493827160 : Nat) / 4) ∧ ((wc : State).time.lastEdge[(7 : Fin 8).val]?.join = none) ∧ ((7 : Fin 8).val < (wc : State).time.lastEdge.length) ∧ (((wc : State).rdF Reg.TIME_SERVO_CTRL 3 2 ≠ 1)) ∧ ((wc : State).captFull = false) ∧ (((wc : State).queue 22).entries = []) ∧ (((wc : State).queue 22).wptr = ((wc : State).queue 22).rptr) ∧ (22 < (wc : State).sys.queues.length) ∧ (((wc : State).queue 22).rptr < 32) ∧ (((wc : State).queue 22).offered = none) ∧ (((wc : State).queue 22).stallWrite = false)) ∧
    ((({ wc with sys := { wc.sys with queues := setAt wc.sys.queues 22 { hold := true } } } : State).rdB Reg.SYS_CLKMON 0 = true) ∧ (({ wc with sys := { wc.sys with queues := setAt wc.sys.queues 22 { hold := true } } } : State).rdB Reg.TIME_CAPT_CTRL (2 * (7 : Fin 8).val + 1) = true) ∧ (({ wc with sys := { wc.sys with queues := setAt wc.sys.queues 22 { hold := true } } } : State).time.lastEdge[(7 : Fin 8).val]?.join = none) ∧ (({ wc with sys := { wc.sys with queues := setAt wc.sys.queues 22 { hold := true } } } : State).rdF Reg.TIME_SERVO_CTRL 3 2 ≠ 1) ∧ (({ wc with sys := { wc.sys with queues := setAt wc.sys.queues 22 { hold := true } } } : State).captFull = true)) ∧
    ((({ wc with time := { wc.time with lastEdge := List.replicate 8 (some 100) } } : State).rdB Reg.SYS_CLKMON 0 = true) ∧ (({ wc with time := { wc.time with lastEdge := List.replicate 8 (some 100) } } : State).rdB Reg.TIME_CAPT_CTRL (2 * (7 : Fin 8).val) = true) ∧ (({ wc with time := { wc.time with lastEdge := List.replicate 8 (some 100) } } : State).time.lastEdge[(7 : Fin 8).val]? = some (some (100 : Nat))) ∧ ((131 : Nat) < (100 : Nat) + 32)) ∧
    ((22 < ({ wb with sys := { wb.sys with queues := setAt wb.sys.queues 22 { hold := false, wptr := 1, wseen := 1, entries := [5] } } } : State).sys.queues.length) ∧ ((({ wb with sys := { wb.sys with queues := setAt wb.sys.queues 22 { hold := false, wptr := 1, wseen := 1, entries := [5] } } } : State).queue 22).hold = false) ∧ ((({ wb with sys := { wb.sys with queues := setAt wb.sys.queues 22 { hold := false, wptr := 1, wseen := 1, entries := [5] } } } : State).queue 22).stallRead = false) ∧ (0 < (({ wb with sys := { wb.sys with queues := setAt wb.sys.queues 22 { hold := false, wptr := 1, wseen := 1, entries := [5] } } } : State).queue 22).rcount 4)) ∧
    (((wc : State).rdB Reg.SYS_CLKMON 0 = true) ∧ ((wc : State).rdB Reg.AON_RTC_CTRL 0 = false)) ∧
    (((.sup : Initiator).resident = true) ∧ ((wts [{ frameId := 3, port := 1, epoch := 0, time := 5, quarter := 0 }] : State).time.tsq = ({ frameId := 3, port := 1, epoch := 0, time := 5, quarter := 0 } : TsqEntry) :: ([] : List TsqEntry))) ∧
    (((.sup : Initiator).resident = true) ∧ (({ wts [{ frameId := 3, port := 1, epoch := 0, time := 5, quarter := 0 }] with time := { (wts [{ frameId := 3, port := 1, epoch := 0, time := 5, quarter := 0 }]).time with tsqLatch := some { frameId := 3, port := 1, epoch := 0, time := 5, quarter := 0 } } } : State).time.tsqLatch = some ({ frameId := 3, port := 1, epoch := 0, time := 5, quarter := 0 } : TsqEntry)) ∧ (({ wts [{ frameId := 3, port := 1, epoch := 0, time := 5, quarter := 0 }] with time := { (wts [{ frameId := 3, port := 1, epoch := 0, time := 5, quarter := 0 }]).time with tsqLatch := some { frameId := 3, port := 1, epoch := 0, time := 5, quarter := 0 } } } : State).time.tsq = ({ frameId := 3, port := 1, epoch := 0, time := 5, quarter := 0 } : TsqEntry) :: ([] : List TsqEntry))) ∧
    ((((wb : State).peer (true : Bool)).delays = [])) ∧
    (((({ wb.setObj 0x2110 1 [0] with time := { wb.time with peerB := { wb.time.peerB with delays := List.replicate 16 100, answers := List.replicate 8 true } } } : State).peer (true : Bool)).capable = true) ∧ ((({ wb.setObj 0x2110 1 [0] with time := { wb.time with peerB := { wb.time.peerB with delays := List.replicate 16 100, answers := List.replicate 8 true } } } : State).peer (!(true : Bool))).heard = false) ∧ (({ wb.setObj 0x2110 1 [0] with time := { wb.time with peerB := { wb.time.peerB with delays := List.replicate 16 100, answers := List.replicate 8 true } } } : State).objN 0x2110 1 = 0) ∧ (({ wb.setObj 0x2110 1 [0] with time := { wb.time with peerB := { wb.time.peerB with delays := List.replicate 16 100, answers := List.replicate 8 true } } } : State).rdB Reg.TIME_SERVO_CTRL 0 = false)) ∧
    ((({ wb with time := { wb.time with slavePort := 2 } } : State).time.slavePort = 2) ∧ (({ wb with time := { wb.time with slavePort := 2 } } : State).objN 0x2110 1 = 0)) ∧
    ((({ wb.setObj 0x2110 1 [1] with time := { wb.time with slavePort := 2 } } : State).time.slavePort = 2) ∧ (1 ≤ ({ wb.setObj 0x2110 1 [1] with time := { wb.time with slavePort := 2 } } : State).objN 0x2110 1) ∧ (({ wb.setObj 0x2110 1 [1] with time := { wb.time with slavePort := 2 } } : State).time.peerA.heard = false) ∧ (({ wb.setObj 0x2110 1 [1] with time := { wb.time with slavePort := 2 } } : State).time.peerM.heard = false)) ∧
    ((({ (wb.setObj 0x2110 1 [1]).wrB Reg.NET_STATUS 1 true with time := { wb.time with isMaster := true } } : State).time.isMaster = true) ∧ (({ (wb.setObj 0x2110 1 [1]).wrB Reg.NET_STATUS 1 true with time := { wb.time with isMaster := true } } : State).time.slavePort = 0) ∧ (1 ≤ ({ (wb.setObj 0x2110 1 [1]).wrB Reg.NET_STATUS 1 true with time := { wb.time with isMaster := true } } : State).objN 0x2110 1) ∧ (((1 : Fin 3) = 2 → ({ (wb.setObj 0x2110 1 [1]).wrB Reg.NET_STATUS 1 true with time := { wb.time with isMaster := true } } : State).objN 0x2110 1 = 2)) ∧ (({ (wb.setObj 0x2110 1 [1]).wrB Reg.NET_STATUS 1 true with time := { wb.time with isMaster := true } } : State).linked (1 : Fin 3).val = true) ∧ (({ (wb.setObj 0x2110 1 [1]).wrB Reg.NET_STATUS 1 true with time := { wb.time with isMaster := true } } : State).rdB Reg.NET_STATUS 4 = false) ∧ (({ (wb.setObj 0x2110 1 [1]).wrB Reg.NET_STATUS 1 true with time := { wb.time with isMaster := true } } : State).net.line.length = 3)) ∧
    (((wb.setObj 0x2110 1 [0] : State).objN 0x2110 1 = 0)) :=
  by
  refine ⟨?_, ?_, ?_, ?_, ?_, ?_, ?_, ?_, ?_, ?_, ?_, ?_, ?_⟩ <;> decide +kernel

/-- TriggersFireOnTheirGrid: its hypotheses are met, clause by clause. -/
theorem witness_TriggersFireOnTheirGrid :
    (((.sup : Initiator).resident = true) ∧ (((wb.wrN (Reg.TIME_TRIG_SEC_LO 7) 1750000000).wrN (Reg.TIME_TRIG_WIDTH 7) 9 : State).trigArmed (7 : Fin 8).val = false) ∧ (((wb.wrN (Reg.TIME_TRIG_SEC_LO 7) 1750000000).wrN (Reg.TIME_TRIG_WIDTH 7) 9 : State).trigBad (7 : Fin 8).val = false) ∧ (4 * ((wb.wrN (Reg.TIME_TRIG_SEC_LO 7) 1750000000).wrN (Reg.TIME_TRIG_WIDTH 7) 9 : State).time.now < ((wb.wrN (Reg.TIME_TRIG_SEC_LO 7) 1750000000).wrN (Reg.TIME_TRIG_WIDTH 7) 9 : State).trigInstant (7 : Fin 8).val) ∧ ((7 : Fin 8).val < ((wb.wrN (Reg.TIME_TRIG_SEC_LO 7) 1750000000).wrN (Reg.TIME_TRIG_WIDTH 7) 9 : State).time.trig.length)) ∧
    (((.sup : Initiator).resident = true) ∧ ((wb.wrN (Reg.TIME_TRIG_WIDTH 7) 9 : State).trigArmed (7 : Fin 8).val = false) ∧ ((wb.wrN (Reg.TIME_TRIG_WIDTH 7) 9 : State).trigBad (7 : Fin 8).val = false) ∧ ((wb.wrN (Reg.TIME_TRIG_WIDTH 7) 9 : State).trigInstant (7 : Fin 8).val ≤ 4 * (wb.wrN (Reg.TIME_TRIG_WIDTH 7) 9 : State).time.now) ∧ ((wb.wrN (Reg.TIME_TRIG_WIDTH 7) 9 : State).rd (Reg.TIME_TRIG_PERIOD (7 : Fin 8).val) = 0) ∧ ((7 : Fin 8).val < (wb.wrN (Reg.TIME_TRIG_WIDTH 7) 9 : State).time.trig.length)) ∧
    (((.sup : Initiator).resident = true) ∧ (((wb.wrN (Reg.TIME_TRIG_PERIOD 15) 99) : State).trigArmed (15 : Fin 16).val = false) ∧ (((wb.wrN (Reg.TIME_TRIG_PERIOD 15) 99) : State).trigBad (15 : Fin 16).val = true)) ∧
    (((.sup : Initiator).resident = true) ∧ ((15 : Fin 16).val < (wb : State).time.trig.length)) ∧
    (((wt : State).trigArmed (7 : Fin 8).val = true) ∧ ((wt : State).rdB Reg.SYS_CLKMON 0 = true) ∧ (((wt : State).trigger (7 : Fin 8).val).next ≤ 4 * (1749999999123456790 : Nat)) ∧ ((wt : State).time.now ≤ (1749999999123456790 : Nat)) ∧ ((7 : Fin 8).val < (wt : State).time.trig.length) ∧ (100 ≤ ((wt : State).rd (Reg.TIME_TRIG_PERIOD (7 : Fin 8).val)).toNat)) ∧
    (((({ wb with time := { wb.time with trig := setAt wb.time.trig 7 { pin := true, pulseEnd := 8 } } } : State).trigger (7 : Fin 16).val).pin = true) ∧ ((({ wb with time := { wb.time with trig := setAt wb.time.trig 7 { pin := true, pulseEnd := 8 } } } : State).trigger (7 : Fin 16).val).pulseEnd ≤ 4 * (1749999999123456790 : Nat)) ∧ ((7 : Fin 16).val < ({ wb with time := { wb.time with trig := setAt wb.time.trig 7 { pin := true, pulseEnd := 8 } } } : State).time.trig.length)) ∧
    (((wt : State).trigArmed (7 : Fin 8).val = true) ∧ (4 * (1749999999123456789 : Nat) < ((wt : State).trigger (7 : Fin 8).val).next) ∧ (((wt : State).trigger (7 : Fin 8).val).next ≤ 4 * (1749999999123456790 : Nat)) ∧ (100 ≤ ((wt : State).rd (Reg.TIME_TRIG_PERIOD (7 : Fin 8).val)).toNat) ∧ ((7 : Fin 8).val < (wt : State).time.trig.length)) :=
  by
  refine ⟨?_, ?_, ?_, ?_, ?_, ?_, ?_⟩ <;> decide +kernel

/-- RtcCountsFreezesAndIsSet: its hypotheses are met, clause by clause. -/
theorem witness_RtcCountsFreezesAndIsSet :
    (((wb.setCivil { year := 25, month := 1, day := 1, hour := 0, min := 0, sec := 0 } : State).rdB Reg.AON_RTC_CTRL 0 = false) ∧ ((wb.setCivil { year := 25, month := 1, day := 1, hour := 0, min := 0, sec := 0 } : State).civil.valid = true) ∧ (32768 + (wb.setCivil { year := 25, month := 1, day := 1, hour := 0, min := 0, sec := 0 } : State).rtc.adjust ≤ ((32768 : Nat) : Int))) ∧
    (((wb.wrB Reg.AON_RTC_CTRL 0 true : State).rdB Reg.AON_RTC_CTRL 0 = true)) ∧
    ((((32767 : Nat) : Int) < 32768 + (wb : State).rtc.adjust)) ∧
    (((wb.wrB Reg.AON_RTC_CTRL 2 true : State).rdB Reg.AON_RTC_CTRL 2 = true) ∧ ((-4000 : BitVec 16).toInt ≤ -4000) ∧ ((if (wb.wrB Reg.AON_RTC_CTRL 2 true : State).rdF Reg.AON_STATUS 9 8 = 2 then 64 else 8) ≤ (64 : Nat))) ∧
    (((6 : Fin 8).val < 7) ∧ ((wb : State).rtc.freeze = none)) ∧
    ((({ wb with rtc := { wb.rtc with freeze := some [1, 2, 3, 4, 5, 6, 7, 8] } } : State).rtc.freeze = some ([1, 2, 3, 4, 5, 6, 7, 8] : List Word))) ∧
    (((wb : State).aon.aonClockLost = false) ∧ ((wb : State).rdB Reg.AON_RTC_CTRL 0 = false)) ∧
    ((((wb.setCivil { year := 25, month := 1, day := 1, hour := 0, min := 0, sec := 0 }).wrB Reg.AON_RTC_CTRL 0 true : State).aon.aonClockLost = false) ∧ (((wb.setCivil { year := 25, month := 1, day := 1, hour := 0, min := 0, sec := 0 }).wrB Reg.AON_RTC_CTRL 0 true : State).rdB Reg.AON_RTC_CTRL 0 = true) ∧ (((wb.setCivil { year := 25, month := 1, day := 1, hour := 0, min := 0, sec := 0 }).wrB Reg.AON_RTC_CTRL 0 true : State).civil.valid = true)) ∧
    ((((wb.setCivil { year := 25, month := 13, day := 1, hour := 0, min := 0, sec := 0 }).wrB Reg.AON_RTC_CTRL 0 true : State).aon.aonClockLost = false) ∧ (((wb.setCivil { year := 25, month := 13, day := 1, hour := 0, min := 0, sec := 0 }).wrB Reg.AON_RTC_CTRL 0 true : State).rdB Reg.AON_RTC_CTRL 0 = true) ∧ (((wb.setCivil { year := 25, month := 13, day := 1, hour := 0, min := 0, sec := 0 }).wrB Reg.AON_RTC_CTRL 0 true : State).civil.valid = false)) ∧
    (((wb.wrB Reg.AON_RTC_CTRL 0 true : State).aon.aonClockLost = false) ∧ ((wb.wrB Reg.AON_RTC_CTRL 0 true : State).rdB Reg.AON_RTC_CTRL 0 = true)) ∧
    (((wb : State).aon.aonClockLost = false) ∧ ((wb : State).rdB Reg.AON_RTC_CTRL 0 = false)) ∧
    (((wb : State).time.servoState ≠ 2)) ∧
    ((({ wb.setCivil { year := 25, month := 1, day := 1, hour := 0, min := 0, sec := 0 } with time := { wb.time with servoState := 2, now := 1735689637000000000 } } : State).time.servoState = 2) ∧ (({ wb.setCivil { year := 25, month := 1, day := 1, hour := 0, min := 0, sec := 0 } with time := { wb.time with servoState := 2, now := 1735689637000000000 } } : State).rtcDiff64 = 0) ∧ (({ wb.setCivil { year := 25, month := 1, day := 1, hour := 0, min := 0, sec := 0 } with time := { wb.time with servoState := 2, now := 1735689637000000000 } } : State).time.offsetChanged = false)) ∧
    (((wb : State).coresRun = true) ∧ ((wb : State).aon.aonClockLost = false) ∧ ((wb : State).mode.mode = .day) ∧ ((wb : State).time.servoState ≠ 2) ∧ ((wb : State).held 0x2130 2 = false) ∧ ((wb : State).rdB Reg.AON_RTC_CTRL 0 = false) ∧ ((wb : State).rdB Reg.AON_RTC_CTRL 1 = false)) :=
  by
  refine ⟨?_, ?_, ?_, ?_, ?_, ?_, ?_, ?_, ?_, ?_, ?_, ?_, ?_, ?_⟩ <;> decide +kernel

/-- SlotsCommitsAndFlushes: its hypotheses are met, clause by clause. -/
theorem witness_SlotsCommitsAndFlushes :
    (((wr : State).rdB (Reg.MAC_STATUS (1 : Fin 4).val) 0 = true) ∧ ((wr : State).clockPresent (.rad (1 : Fin 4)) = true) ∧ ((wr : State).rdB Reg.DRL_CTRL 0 = false) ∧ ((wr : State).rdB (Reg.MAC_ASN_SET_HI (1 : Fin 4).val) 31 = false) ∧ (-250 ≤ (250 : Int)) ∧ ((250 : Int) ≤ 250) ∧ (((wr : State).asn (1 : Fin 4).val + 1) % 2 ^ 40 % ((wr : State).mac (1 : Fin 4).val).len ≠ 0)) ∧
    (((wr : State).rdB Reg.DRL_CTRL 0 = false) ∧ (((-251 : Int) < -250 ∨ 250 < (-251 : Int)))) ∧
    (((wr.setMac 1 { wr.mac 1 with flyRun := 98 } : State).rdB (Reg.MAC_STATUS (1 : Fin 4).val) 0 = true) ∧ ((wr.setMac 1 { wr.mac 1 with flyRun := 98 } : State).clockPresent (.rad (1 : Fin 4)) = true) ∧ (((wr.setMac 1 { wr.mac 1 with flyRun := 98 } : State).mac (1 : Fin 4).val).flyRun < 99) ∧ ((wr.setMac 1 { wr.mac 1 with flyRun := 98 } : State).shaped) ∧ ((wr.setMac 1 { wr.mac 1 with flyRun := 98 } : State).rdB (Reg.MAC_ASN_SET_HI (1 : Fin 4).val) 31 = false) ∧ (((wr.setMac 1 { wr.mac 1 with flyRun := 98 } : State).asn (1 : Fin 4).val + 1) % 2 ^ 40 % ((wr.setMac 1 { wr.mac 1 with flyRun := 98 } : State).mac (1 : Fin 4).val).len ≠ 0)) ∧
    (((.sup : Initiator).resident = true)) ∧
    (((wr.wrF (Reg.MAC_NB 1 3 0) 17 14 14 : State).nbValid (1 : Fin 4).val (3 : Fin 1024).val = true) ∧ ((wr.wrF (Reg.MAC_NB 1 3 0) 17 14 14 : State).nbDemoted (1 : Fin 4).val (3 : Fin 1024).val = false) ∧ ((wr.wrF (Reg.MAC_NB 1 3 0) 17 14 14 : State).rdB (Reg.MAC_CTRL (1 : Fin 4).val) 2 = false)) ∧
    (((.sup : Initiator).resident = true) ∧ ((wr : State).shaped) ∧ ((wr : State).rd (Reg.MAC_TXR_BASE_LO (1 : Fin 4).val + 12) = (wr : State).rd (Reg.MAC_TXR_BASE_LO (1 : Fin 4).val + 16))) ∧
    (((.sup : Initiator).resident = true) ∧ ((((((wr.wr (Reg.MAC_TXR_BASE_LO 1) 0x98000000).wr (Reg.MAC_TXR_BASE_LO 1 + 8) 16).wr (Reg.MAC_TXR_BASE_LO 1 + 12) 0).wr (Reg.MAC_TXR_BASE_LO 1 + 16) 0xFFFFFFFF).writeMem (0x98000000 + 16 * 15 + 14) [1] : State).fault.errorAddr = none) ∧ (((((((wr.wr (Reg.MAC_TXR_BASE_LO 1) 0x98000000).wr (Reg.MAC_TXR_BASE_LO 1 + 8) 16).wr (Reg.MAC_TXR_BASE_LO 1 + 12) 0).wr (Reg.MAC_TXR_BASE_LO 1 + 16) 0xFFFFFFFF).writeMem (0x98000000 + 16 * 15 + 14) [1] : State).rd ((Reg.MAC_TXR_BASE_LO (1 : Fin 4).val) + 12)).toNat = (((((((wr.wr (Reg.MAC_TXR_BASE_LO 1) 0x98000000).wr (Reg.MAC_TXR_BASE_LO 1 + 8) 16).wr (Reg.MAC_TXR_BASE_LO 1 + 12) 0).wr (Reg.MAC_TXR_BASE_LO 1 + 16) 0xFFFFFFFF).writeMem (0x98000000 + 16 * 15 + 14) [1] : State).rd ((Reg.MAC_TXR_BASE_LO (1 : Fin 4).val) + 16)).toNat + 1) % 2 ^ 32) ∧ (0x98000000 ≤ ((((((wr.wr (Reg.MAC_TXR_BASE_LO 1) 0x98000000).wr (Reg.MAC_TXR_BASE_LO 1 + 8) 16).wr (Reg.MAC_TXR_BASE_LO 1 + 12) 0).wr (Reg.MAC_TXR_BASE_LO 1 + 16) 0xFFFFFFFF).writeMem (0x98000000 + 16 * 15 + 14) [1] : State).ringAddr (Reg.MAC_TXR_BASE_LO (1 : Fin 4).val) ((((((wr.wr (Reg.MAC_TXR_BASE_LO 1) 0x98000000).wr (Reg.MAC_TXR_BASE_LO 1 + 8) 16).wr (Reg.MAC_TXR_BASE_LO 1 + 12) 0).wr (Reg.MAC_TXR_BASE_LO 1 + 16) 0xFFFFFFFF).writeMem (0x98000000 + 16 * 15 + 14) [1] : State).ringTail (Reg.MAC_TXR_BASE_LO (1 : Fin 4).val)))) ∧ (((((((wr.wr (Reg.MAC_TXR_BASE_LO 1) 0x98000000).wr (Reg.MAC_TXR_BASE_LO 1 + 8) 16).wr (Reg.MAC_TXR_BASE_LO 1 + 12) 0).wr (Reg.MAC_TXR_BASE_LO 1 + 16) 0xFFFFFFFF).writeMem (0x98000000 + 16 * 15 + 14) [1] : State).ringAddr (Reg.MAC_TXR_BASE_LO (1 : Fin 4).val) ((((((wr.wr (Reg.MAC_TXR_BASE_LO 1) 0x98000000).wr (Reg.MAC_TXR_BASE_LO 1 + 8) 16).wr (Reg.MAC_TXR_BASE_LO 1 + 12) 0).wr (Reg.MAC_TXR_BASE_LO 1 + 16) 0xFFFFFFFF).writeMem (0x98000000 + 16 * 15 + 14) [1] : State).ringTail (Reg.MAC_TXR_BASE_LO (1 : Fin 4).val))) + 16 ≤ 0xB8000000) ∧ ((((((wr.wr (Reg.MAC_TXR_BASE_LO 1) 0x98000000).wr (Reg.MAC_TXR_BASE_LO 1 + 8) 16).wr (Reg.MAC_TXR_BASE_LO 1 + 12) 0).wr (Reg.MAC_TXR_BASE_LO 1 + 16) 0xFFFFFFFF).writeMem (0x98000000 + 16 * 15 + 14) [1] : State).ringOwned (macInitiator (1 : Fin 4).val) (Reg.MAC_TXR_BASE_LO (1 : Fin 4).val) ((((((wr.wr (Reg.MAC_TXR_BASE_LO 1) 0x98000000).wr (Reg.MAC_TXR_BASE_LO 1 + 8) 16).wr (Reg.MAC_TXR_BASE_LO 1 + 12) 0).wr (Reg.MAC_TXR_BASE_LO 1 + 16) 0xFFFFFFFF).writeMem (0x98000000 + 16 * 15 + 14) [1] : State).ringTail (Reg.MAC_TXR_BASE_LO (1 : Fin 4).val)) = true) ∧ (frType ((((((wr.wr (Reg.MAC_TXR_BASE_LO 1) 0x98000000).wr (Reg.MAC_TXR_BASE_LO 1 + 8) 16).wr (Reg.MAC_TXR_BASE_LO 1 + 12) 0).wr (Reg.MAC_TXR_BASE_LO 1 + 16) 0xFFFFFFFF).writeMem (0x98000000 + 16 * 15 + 14) [1] : State).txBytes (1 : Fin 4).val ((((((wr.wr (Reg.MAC_TXR_BASE_LO 1) 0x98000000).wr (Reg.MAC_TXR_BASE_LO 1 + 8) 16).wr (Reg.MAC_TXR_BASE_LO 1 + 12) 0).wr (Reg.MAC_TXR_BASE_LO 1 + 16) 0xFFFFFFFF).writeMem (0x98000000 + 16 * 15 + 14) [1] : State).ringTail (Reg.MAC_TXR_BASE_LO (1 : Fin 4).val))) ≠ 4)) ∧
    (((wr : State).shaped)) ∧
    ((4 ≤ (64 : Nat)) ∧ ((64 : Nat) ≤ 64)) ∧
    ((4 ≤ (4 : Nat)) ∧ ((4 : Nat) ≤ 64) ∧ ((0) ∈ hopSequence (4 : Nat) (9 : Nat))) :=
  by
  refine ⟨?_, ?_, ?_, ?_, ?_, ?_, ?_, ?_, ?_, ?_⟩ <;> first | decide +kernel | (try unfold State.shaped ; decide +kernel)

/-- RadioFramesAreCheckedAndAcknowledged: its hypotheses are met, clause by clause. -/
theorem witness_RadioFramesAreCheckedAndAcknowledged :
    (((wh : State).ackHeard (1 : Fin 4).val ({ rf 9 200 with channel := 9 } : RadioFrame) = false) ∧ ((wh : State).rxHeard (1 : Fin 4).val ({ rf 9 200 with channel := 9 } : RadioFrame) = none)) ∧
    (((wb : State).rdB (Reg.MAC_CTRL (1 : Fin 4).val) 0 = false)) ∧
    (((wh : State).rdB (Reg.MAC_CTRL (1 : Fin 4).val) 0 = true) ∧ (({ rf 9 200 with fcsOk := false } : RadioFrame).dropped = false) ∧ (((wh : State).queue (1 : Fin 4).val).wcount 6 < 64) ∧ ((wh : State).ackHeard (1 : Fin 4).val ({ rf 9 200 with fcsOk := false } : RadioFrame) = false) ∧ ((wh : State).rxHeard (1 : Fin 4).val ({ rf 9 200 with fcsOk := false } : RadioFrame) = some (((0x3FFC02 : Word), 0, (2000000 : Int)) : Word × Nat × Int)) ∧ ((1) ≠ 5) ∧ ((wh : State).rxChecks (1 : Fin 4).val (((0x3FFC02 : Word), 0, (2000000 : Int)) : Word × Nat × Int).1 ({ rf 9 200 with fcsOk := false } : RadioFrame) = .error (1))) ∧
    (((wh : State).rdB (Reg.MAC_CTRL (1 : Fin 4).val) 0 = true) ∧ (({ rf 9 200 with fcsOk := false } : RadioFrame).dropped = false) ∧ (((wh : State).queue (1 : Fin 4).val).wcount 6 < 64) ∧ ((wh : State).ackHeard (1 : Fin 4).val ({ rf 9 200 with fcsOk := false } : RadioFrame) = false) ∧ ((wh : State).rxHeard (1 : Fin 4).val ({ rf 9 200 with fcsOk := false } : RadioFrame) = some (((0x3FFC02 : Word), 0, (2000000 : Int)) : Word × Nat × Int)) ∧ (({ rf 9 200 with fcsOk := false } : RadioFrame).fcsOk = false)) ∧
    (((wh.wr (Reg.MAC_ADDR 1) 0x10023 : State).rdB (Reg.MAC_CTRL (1 : Fin 4).val) 0 = true) ∧ ((rf 9 200 : RadioFrame).dropped = false) ∧ (((wh.wr (Reg.MAC_ADDR 1) 0x10023 : State).queue (1 : Fin 4).val).wcount 6 < 64) ∧ ((wh.wr (Reg.MAC_ADDR 1) 0x10023 : State).ackHeard (1 : Fin 4).val (rf 9 200 : RadioFrame) = false) ∧ ((wh.wr (Reg.MAC_ADDR 1) 0x10023 : State).rxHeard (1 : Fin 4).val (rf 9 200 : RadioFrame) = some (((0x3FFC02 : Word), 0, (2000000 : Int)) : Word × Nat × Int)) ∧ ((rf 9 200 : RadioFrame).fcsOk = true) ∧ (leAt (rf 9 200 : RadioFrame).bytes 1 1 = 1) ∧ (leAt (rf 9 200 : RadioFrame).bytes 2 2 ≠ (wh.wr (Reg.MAC_ADDR 1) 0x10023 : State).rdF (Reg.MAC_ADDR (1 : Fin 4).val) 15 0)) ∧
    (((wh.wrN (Reg.MAC_NB 1 3 4) 200 : State).rdB (Reg.MAC_CTRL (1 : Fin 4).val) 0 = true) ∧ ((rm (wh.wrN (Reg.MAC_NB 1 3 4) 200) (rf 9 200) : RadioFrame).dropped = false) ∧ (((wh.wrN (Reg.MAC_NB 1 3 4) 200 : State).queue (1 : Fin 4).val).wcount 6 < 64) ∧ ((wh.wrN (Reg.MAC_NB 1 3 4) 200 : State).ackHeard (1 : Fin 4).val (rm (wh.wrN (Reg.MAC_NB 1 3 4) 200) (rf 9 200) : RadioFrame) = false) ∧ ((wh.wrN (Reg.MAC_NB 1 3 4) 200 : State).rxHeard (1 : Fin 4).val (rm (wh.wrN (Reg.MAC_NB 1 3 4) 200) (rf 9 200) : RadioFrame) = some (((0x3FFC02 : Word), 0, (2000000 : Int)) : Word × Nat × Int)) ∧ (frType (rm (wh.wrN (Reg.MAC_NB 1 3 4) 200) (rf 9 200) : RadioFrame).bytes ≠ 2) ∧ (frType (rm (wh.wrN (Reg.MAC_NB 1 3 4) 200) (rf 9 200) : RadioFrame).bytes ≠ 5) ∧ ((wh.wrN (Reg.MAC_NB 1 3 4) 200 : State).rxKnown (1 : Fin 4).val (((0x3FFC02 : Word), 0, (2000000 : Int)) : Word × Nat × Int).1 (rm (wh.wrN (Reg.MAC_NB 1 3 4) 200) (rf 9 200) : RadioFrame) = .ok (3 : Nat)) ∧ ((rm (wh.wrN (Reg.MAC_NB 1 3 4) 200) (rf 9 200) : RadioFrame).mic = (wh.wrN (Reg.MAC_NB 1 3 4) 200 : State).rxMic (1 : Fin 4).val (3 : Nat) (rm (wh.wrN (Reg.MAC_NB 1 3 4) 200) (rf 9 200) : RadioFrame)) ∧ ((rm (wh.wrN (Reg.MAC_NB 1 3 4) 200) (rf 9 200) : RadioFrame).orphaned = false) ∧ (frCounter (rm (wh.wrN (Reg.MAC_NB 1 3 4) 200) (rf 9 200) : RadioFrame).bytes ≤ ((wh.wrN (Reg.MAC_NB 1 3 4) 200 : State).rd (Reg.MAC_NB (1 : Fin 4).val (3 : Nat) 4)).toNat)) ∧
    (((wh : State).rdB (Reg.MAC_CTRL (1 : Fin 4).val) 0 = true) ∧ ((rm wh (rf 0 200) : RadioFrame).dropped = false) ∧ (((wh : State).queue (1 : Fin 4).val).wcount 6 < 64) ∧ ((wh : State).ackHeard (1 : Fin 4).val (rm wh (rf 0 200) : RadioFrame) = false) ∧ ((wh : State).rxHeard (1 : Fin 4).val (rm wh (rf 0 200) : RadioFrame) = some (((0x3FFC02 : Word), 0, (2000000 : Int)) : Word × Nat × Int)) ∧ (frType (rm wh (rf 0 200) : RadioFrame).bytes ≠ 2) ∧ (frType (rm wh (rf 0 200) : RadioFrame).bytes ≠ 5) ∧ ((wh : State).rxKnown (1 : Fin 4).val (((0x3FFC02 : Word), 0, (2000000 : Int)) : Word × Nat × Int).1 (rm wh (rf 0 200) : RadioFrame) = .ok (3 : Nat)) ∧ ((rm wh (rf 0 200) : RadioFrame).mic = (wh : State).rxMic (1 : Fin 4).val (3 : Nat) (rm wh (rf 0 200) : RadioFrame)) ∧ ((rm wh (rf 0 200) : RadioFrame).orphaned = false) ∧ ((3 : Nat) < 1024) ∧ ((wh : State).nbDemoted (1 : Fin 4).val (3 : Nat) = false) ∧ (((wh : State).rd (Reg.MAC_NB (1 : Fin 4).val (3 : Nat) 4)).toNat < frCounter (rm wh (rf 0 200) : RadioFrame).bytes) ∧ (leAt (rm wh (rf 0 200) : RadioFrame).bytes 8 2 = (wh : State).rdF (Reg.MAC_NB (1 : Fin 4).val (3 : Nat) 3) 31 16)) ∧
    (((whr : State).rdB (Reg.MAC_CTRL (1 : Fin 4).val) 0 = true) ∧ ((rm whr (rf 1 200) : RadioFrame).dropped = false) ∧ (((whr : State).queue (1 : Fin 4).val).wcount 6 < 64) ∧ ((whr : State).ackHeard (1 : Fin 4).val (rm whr (rf 1 200) : RadioFrame) = false) ∧ ((whr : State).rxHeard (1 : Fin 4).val (rm whr (rf 1 200) : RadioFrame) = some (((0x3FFC02 : Word), 0, (2000000 : Int)) : Word × Nat × Int)) ∧ ((frType (rm whr (rf 1 200) : RadioFrame).bytes = 1 ∨ frType (rm whr (rf 1 200) : RadioFrame).bytes = 4)) ∧ (frBit (rm whr (rf 1 200) : RadioFrame).bytes 5 = false) ∧ ((whr : State).rxKnown (1 : Fin 4).val (((0x3FFC02 : Word), 0, (2000000 : Int)) : Word × Nat × Int).1 (rm whr (rf 1 200) : RadioFrame) = .ok (3 : Nat)) ∧ ((rm whr (rf 1 200) : RadioFrame).mic = (whr : State).rxMic (1 : Fin 4).val (3 : Nat) (rm whr (rf 1 200) : RadioFrame)) ∧ ((rm whr (rf 1 200) : RadioFrame).orphaned = false) ∧ ((3 : Nat) < 1024) ∧ ((whr : State).nbDemoted (1 : Fin 4).val (3 : Nat) = false) ∧ (((whr : State).rd (Reg.MAC_NB (1 : Fin 4).val (3 : Nat) 4)).toNat < frCounter (rm whr (rf 1 200) : RadioFrame).bytes) ∧ (leAt (rm whr (rf 1 200) : RadioFrame).bytes 8 2 = ((whr : State).rdF (Reg.MAC_NB (1 : Fin 4).val (3 : Nat) 3) 31 16 + 1) % 2 ^ 16) ∧ ((whr : State).ringHead (Reg.MAC_RXR_BASE_LO (1 : Fin 4).val) ≠ (whr : State).ringTail (Reg.MAC_RXR_BASE_LO (1 : Fin 4).val)) ∧ ((whr : State).ringOwned (macInitiator (1 : Fin 4).val) (Reg.MAC_RXR_BASE_LO (1 : Fin 4).val) ((whr : State).ringTail (Reg.MAC_RXR_BASE_LO (1 : Fin 4).val)) = true) ∧ ((whr : State).fault.errorAddr = none) ∧ (0x98000000 ≤ ((whr : State).ringAddr (Reg.MAC_RXR_BASE_LO (1 : Fin 4).val) ((whr : State).ringTail (Reg.MAC_RXR_BASE_LO (1 : Fin 4).val)))) ∧ (((whr : State).ringAddr (Reg.MAC_RXR_BASE_LO (1 : Fin 4).val) ((whr : State).ringTail (Reg.MAC_RXR_BASE_LO (1 : Fin 4).val))) + 16 ≤ (fromLE ((whr : State).ringBytes (macInitiator (1 : Fin 4).val) (Reg.MAC_RXR_BASE_LO (1 : Fin 4).val) ((whr : State).ringTail (Reg.MAC_RXR_BASE_LO (1 : Fin 4).val)) 0 5))) ∧ ((fromLE ((whr : State).ringBytes (macInitiator (1 : Fin 4).val) (Reg.MAC_RXR_BASE_LO (1 : Fin 4).val) ((whr : State).ringTail (Reg.MAC_RXR_BASE_LO (1 : Fin 4).val)) 0 5)) + ((rm whr (rf 1 200) : RadioFrame).bytes.length + (rm whr (rf 1 200) : RadioFrame).body.length) ≤ 0xB8000000)) ∧
    (((wa : State).shaped) ∧ ((wa : State).rdB (Reg.MAC_CTRL (1 : Fin 4).val) 0 = true) ∧ ((rm wa (ra 9 200) : RadioFrame).dropped = false) ∧ (((wa : State).queue (1 : Fin 4).val).wcount 6 < 64) ∧ ((wa : State).ackHeard (1 : Fin 4).val (rm wa (ra 9 200) : RadioFrame) = true) ∧ (((wa : State).mac (1 : Fin 4).val).awaiting = some ({ entry := 2, nb := 3, lsn := 9, tries := 1 } : MacAwait)) ∧ ((wa : State).rxKnown (1 : Fin 4).val ((wa : State).cellNow (1 : Fin 4).val) (rm wa (ra 9 200) : RadioFrame) = .ok ({ entry := 2, nb := 3, lsn := 9, tries := 1 } : MacAwait).nb) ∧ ((rm wa (ra 9 200) : RadioFrame).mic = (wa : State).rxMic (1 : Fin 4).val ({ entry := 2, nb := 3, lsn := 9, tries := 1 } : MacAwait).nb (rm wa (ra 9 200) : RadioFrame)) ∧ ((rm wa (ra 9 200) : RadioFrame).orphaned = false) ∧ (({ entry := 2, nb := 3, lsn := 9, tries := 1 } : MacAwait).nb < 1024) ∧ ((wa : State).nbDemoted (1 : Fin 4).val ({ entry := 2, nb := 3, lsn := 9, tries := 1 } : MacAwait).nb = false) ∧ (leAt (rm wa (ra 9 200) : RadioFrame).bytes 8 2 = ({ entry := 2, nb := 3, lsn := 9, tries := 1 } : MacAwait).lsn) ∧ (((wa : State).rd (Reg.MAC_NB (1 : Fin 4).val ({ entry := 2, nb := 3, lsn := 9, tries := 1 } : MacAwait).nb 4)).toNat < frCounter (rm wa (ra 9 200) : RadioFrame).bytes) ∧ (Nat.testBit (leAt (rm wa (ra 9 200) : RadioFrame).body 2 1) 1 = false) ∧ (frType ((wa : State).txBytes (1 : Fin 4).val ({ entry := 2, nb := 3, lsn := 9, tries := 1 } : MacAwait).entry) ≠ 4)) ∧
    (((let s := wr.wrF (Reg.MAC_RETRY 1) 3 0 1; s.setMac 1 { s.mac 1 with awaiting := some { entry := 2, nb := 3, lsn := 9, tries := 1 } } : State).shaped) ∧ (((let s := wr.wrF (Reg.MAC_RETRY 1) 3 0 1; s.setMac 1 { s.mac 1 with awaiting := some { entry := 2, nb := 3, lsn := 9, tries := 1 } } : State).mac (1 : Fin 4).val).awaiting = some ({ entry := 2, nb := 3, lsn := 9, tries := 1 } : MacAwait)) ∧ (({ entry := 2, nb := 3, lsn := 9, tries := 1 } : MacAwait).tries ≤ (let s := wr.wrF (Reg.MAC_RETRY 1) 3 0 1; s.setMac 1 { s.mac 1 with awaiting := some { entry := 2, nb := 3, lsn := 9, tries := 1 } } : State).rdF (Reg.MAC_RETRY (1 : Fin 4).val) 3 0)) ∧
    (((let s := wr.wrF (Reg.MAC_RETRY 1) 3 0 0; s.setMac 1 { s.mac 1 with awaiting := some { entry := 2, nb := 3, lsn := 9, tries := 1 } } : State).shaped) ∧ (((let s := wr.wrF (Reg.MAC_RETRY 1) 3 0 0; s.setMac 1 { s.mac 1 with awaiting := some { entry := 2, nb := 3, lsn := 9, tries := 1 } } : State).mac (1 : Fin 4).val).awaiting = some ({ entry := 2, nb := 3, lsn := 9, tries := 1 } : MacAwait)) ∧ ((let s := wr.wrF (Reg.MAC_RETRY 1) 3 0 0; s.setMac 1 { s.mac 1 with awaiting := some { entry := 2, nb := 3, lsn := 9, tries := 1 } } : State).rdF (Reg.MAC_RETRY (1 : Fin 4).val) 3 0 < ({ entry := 2, nb := 3, lsn := 9, tries := 1 } : MacAwait).tries) ∧ (frType ((let s := wr.wrF (Reg.MAC_RETRY 1) 3 0 0; s.setMac 1 { s.mac 1 with awaiting := some { entry := 2, nb := 3, lsn := 9, tries := 1 } } : State).txBytes (1 : Fin 4).val ({ entry := 2, nb := 3, lsn := 9, tries := 1 } : MacAwait).entry) ≠ 4)) ∧
    (((wcell 0x11 : State).shaped) ∧ ((wcell 0x11 : State).rdB (Reg.MAC_STATUS (1 : Fin 4).val) 0 = true) ∧ ((wcell 0x11 : State).rdB (Reg.MAC_CTRL (1 : Fin 4).val) 1 = true) ∧ ((wcell 0x11 : State).rdB (Reg.MAC_CTRL (1 : Fin 4).val) 2 = false) ∧ ((wcell 0x11 : State).rdB (Reg.MAC_STATUS (1 : Fin 4).val) 3 = false) ∧ (fld ((wcell 0x11 : State).cellFirst (1 : Fin 4).val) 1 0 = 1) ∧ (fld ((wcell 0x11 : State).cellFirst (1 : Fin 4).val) 5 4 = 1) ∧ (cellFits ((wcell 0x11 : State).mac (1 : Fin 4).val).phy ((wcell 0x11 : State).rdF (Reg.MAC_TIMING (1 : Fin 4).val) 11 0) ((wcell 0x11 : State).cellFirst (1 : Fin 4).val) (((wcell 0x11 : State).beaconPayload (1 : Fin 4).val).length + 27) false = true) ∧ (((wcell 0x11 : State).mac (1 : Fin 4).val).bcast < 0xFFFFFFFF)) ∧
    ((((wcell 0x12 : State).rdB (Reg.MAC_CTRL (1 : Fin 4).val) 2 = true ∨ fld ((wcell 0x12 : State).cellFirst (1 : Fin 4).val) 1 0 = 0 ∨ fld ((wcell 0x12 : State).cellFirst (1 : Fin 4).val) 1 0 = 2))) ∧
    ((((wb.wrB Reg.SCAN_CTRL 0 true).wrB (Reg.MAC_STATUS 0) 0 true : State).rdB Reg.SCAN_CTRL 0 = true) ∧ (((wb.wrB Reg.SCAN_CTRL 0 true).wrB (Reg.MAC_STATUS 0) 0 true : State).rdB (Reg.MAC_STATUS 0) 0 = true) ∧ (({ bytes := [], discovery := true } : RadioFrame).discovery = true) ∧ (({ bytes := [], discovery := true } : RadioFrame).channel = ((wb.wrB Reg.SCAN_CTRL 0 true).wrB (Reg.MAC_STATUS 0) 0 true : State).discChannel 0 (((wb.wrB Reg.SCAN_CTRL 0 true).wrB (Reg.MAC_STATUS 0) 0 true : State).asn 0))) :=
  by
  refine ⟨?_, ?_, ⟨by decide +kernel, by decide +kernel, by decide +kernel, by decide +kernel, by decide +kernel, by decide +kernel, rx_error _ _ (by decide +kernel)⟩, ?_, ?_, ⟨by decide +kernel, by decide +kernel, by decide +kernel, by decide +kernel, by decide +kernel, by decide +kernel, by decide +kernel, rx_ok _ _ (by decide +kernel), rm_mic _ _ (by decide), rfl, by decide +kernel⟩, ⟨by decide +kernel, by decide +kernel, by decide +kernel, by decide +kernel, by decide +kernel, by decide +kernel, by decide +kernel, rx_ok _ _ (by decide +kernel), rm_mic _ _ (by decide), rfl, by decide +kernel, by decide +kernel, by decide +kernel, by decide +kernel⟩, ⟨by decide +kernel, by decide +kernel, by decide +kernel, by decide +kernel, by decide +kernel, by decide +kernel, by decide +kernel, rx_ok _ _ (by decide +kernel), rm_mic _ _ (by decide), rfl, by decide +kernel, by decide +kernel, by decide +kernel, by decide +kernel, by decide +kernel, by decide +kernel, by decide +kernel, by decide +kernel, by decide +kernel, by decide +kernel⟩, ⟨by unfold State.shaped; decide +kernel, by decide +kernel, by decide +kernel, by decide +kernel, by decide +kernel, by decide +kernel, rx_ok _ _ (by decide +kernel), rm_mic _ _ (by decide), rfl, by decide +kernel, by decide +kernel, by decide +kernel, by decide +kernel, by decide +kernel, by decide +kernel⟩, ?_, ?_, ?_, ?_, ?_⟩ <;> first | decide +kernel | (try unfold State.shaped ; decide +kernel)

/-- LanternsRegisterEnrolAndLeave: its hypotheses are met, clause by clause. -/
theorem witness_LanternsRegisterEnrolAndLeave :
    (((wl 0 : State).coresRun = true) ∧ ((wl 0 : State).mode.mode = .day) ∧ ((wl 0 : State).held (0x6000 + (9 : Fin 4096).val) 4 = false) ∧ ((wl 0 : State).card (9 : Fin 4096).val 3 = 0) ∧ ((wl 0 : State).card (9 : Fin 4096).val 1 ≠ 0) ∧ ((wl 0 : State).obj (0x6000 + (9 : Fin 4096).val) 2 ≠ [])) ∧
    (((wl 4 : State).coresRun = true) ∧ ((wl 4 : State).mode.mode = .day) ∧ ((wl 4 : State).held (0x6000 + (9 : Fin 4096).val) 4 = false) ∧ ((wl 4 : State).card (9 : Fin 4096).val 3 ≠ 0)) ∧
    (((wl 4 : State).coresRun = true) ∧ ((wl 4 : State).mode.mode = .day) ∧ ((wl 4 : State).held (0x6000 + (9 : Fin 4096).val) 4 = false) ∧ ((wl 4 : State).card (9 : Fin 4096).val 3 ≠ 0) ∧ (([2]) ∈ [[(1 : Byte)], [2]])) ∧
    (((er 5 : EnrolRequest).segment = (wr : State).objN 0x2200 1) ∧ ((wr : State).rdB (Reg.MAC_STATUS (er 5 : EnrolRequest).cohort) 0 = true) ∧ ((wr : State).cardByEui (er 5 : EnrolRequest).eui = none)) ∧
    (((er 5 : EnrolRequest).segment = (wl 4 : State).objN 0x2200 1) ∧ ((wl 4 : State).rdB (Reg.MAC_STATUS (er 5 : EnrolRequest).cohort) 0 = true) ∧ ((wl 4 : State).cardByEui (er 5 : EnrolRequest).eui = some (9)) ∧ ((9) < 4096) ∧ ((wl 4 : State).requestOk (9) (er 5 : EnrolRequest) 2 = false)) ∧
    (((es (wlk 4) 2 (er 4) : EnrolRequest).segment = (wlk 4 : State).objN 0x2200 1) ∧ ((wlk 4 : State).rdB (Reg.MAC_STATUS (es (wlk 4) 2 (er 4) : EnrolRequest).cohort) 0 = true) ∧ ((wlk 4 : State).cardByEui (es (wlk 4) 2 (er 4) : EnrolRequest).eui = some (9)) ∧ ((9) < 4096) ∧ ((wlk 4 : State).chainCheck 1 = .ok) ∧ ((es (wlk 4) 2 (er 4) : EnrolRequest).mic = (wlk 4 : State).requestMic (9) (es (wlk 4) 2 (er 4) : EnrolRequest) 2) ∧ ((es (wlk 4) 2 (er 4) : EnrolRequest).counter ≤ (wlk 4 : State).card (9) 0x0D)) ∧
    (((es (wlk 8) 2 (er 5) : EnrolRequest).segment = (wlk 8 : State).objN 0x2200 1) ∧ ((wlk 8 : State).rdB (Reg.MAC_STATUS (es (wlk 8) 2 (er 5) : EnrolRequest).cohort) 0 = true) ∧ ((wlk 8 : State).cardByEui (es (wlk 8) 2 (er 5) : EnrolRequest).eui = some (9)) ∧ ((9) < 4096) ∧ ((wlk 8 : State).chainCheck 1 = .ok) ∧ ((es (wlk 8) 2 (er 5) : EnrolRequest).mic = (wlk 8 : State).requestMic (9) (es (wlk 8) 2 (er 5) : EnrolRequest) 2) ∧ ((wlk 8 : State).card (9) 0x0D < (es (wlk 8) 2 (er 5) : EnrolRequest).counter) ∧ ((es (wlk 8) 2 (er 5) : EnrolRequest).counter < 65536) ∧ ((wlk 8 : State).card (9) 3 = 8) ∧ ((es (wlk 8) 2 (er 5) : EnrolRequest).relay = 0)) ∧
    (((es ((wlk 1).setCard 9 6 1 1) 2 (er 5) : EnrolRequest).segment = ((wlk 1).setCard 9 6 1 1 : State).objN 0x2200 1) ∧ (((wlk 1).setCard 9 6 1 1 : State).rdB (Reg.MAC_STATUS (es ((wlk 1).setCard 9 6 1 1) 2 (er 5) : EnrolRequest).cohort) 0 = true) ∧ (((wlk 1).setCard 9 6 1 1 : State).cardByEui (es ((wlk 1).setCard 9 6 1 1) 2 (er 5) : EnrolRequest).eui = some (9)) ∧ ((9) < 4096) ∧ (((wlk 1).setCard 9 6 1 1 : State).chainCheck 1 = .ok) ∧ ((es ((wlk 1).setCard 9 6 1 1) 2 (er 5) : EnrolRequest).mic = ((wlk 1).setCard 9 6 1 1 : State).requestMic (9) (es ((wlk 1).setCard 9 6 1 1) 2 (er 5) : EnrolRequest) 2) ∧ (((wlk 1).setCard 9 6 1 1 : State).card (9) 0x0D < (es ((wlk 1).setCard 9 6 1 1) 2 (er 5) : EnrolRequest).counter) ∧ ((es ((wlk 1).setCard 9 6 1 1) 2 (er 5) : EnrolRequest).counter < 65536) ∧ (((wlk 1).setCard 9 6 1 1 : State).card (9) 3 = 1) ∧ ((es ((wlk 1).setCard 9 6 1 1) 2 (er 5) : EnrolRequest).relay = 0) ∧ (((wlk 1).setCard 9 6 1 1 : State).inModes (((wlk 1).setCard 9 6 1 1 : State).objN 0x7000 2) = true) ∧ (((wlk 1).setCard 9 6 1 1 : State).card (9) 6 < 4) ∧ (((wlk 1).setCard 9 6 1 1 : State).cohortRoom (((wlk 1).setCard 9 6 1 1 : State).card (9) 6) (9) = true) ∧ (((wlk 1).setCard 9 6 1 1 : State).placeable (((wlk 1).setCard 9 6 1 1 : State).card (9) 6) (9) 0 = true)) ∧
    (((es (wlk 8) 2 (er 5) : EnrolRequest).segment = (wlk 8 : State).objN 0x2200 1) ∧ ((wlk 8 : State).rdB (Reg.MAC_STATUS (es (wlk 8) 2 (er 5) : EnrolRequest).cohort) 0 = true) ∧ ((wlk 8 : State).cardByEui (es (wlk 8) 2 (er 5) : EnrolRequest).eui = some (9)) ∧ ((9) < 4096) ∧ ((wlk 8 : State).chainCheck 1 = .ok) ∧ ((es (wlk 8) 2 (er 5) : EnrolRequest).mic = (wlk 8 : State).requestMic (9) (es (wlk 8) 2 (er 5) : EnrolRequest) 2) ∧ ((wlk 8 : State).card (9) 0x0D < (es (wlk 8) 2 (er 5) : EnrolRequest).counter) ∧ ((es (wlk 8) 2 (er 5) : EnrolRequest).counter < 65536) ∧ ((wlk 8 : State).card (9) 3 = 8) ∧ ((2 : Nat) ≠ 0)) ∧
    ((({ er 5 with segment := 1 } : EnrolRequest).segment ≠ (wl 4 : State).objN 0x2200 1)) ∧
    ((({ er 5 with segment := 1 } : EnrolRequest).segment ≠ (wl 4 : State).objN 0x2200 1)) ∧
    (((wcell 0x1C00031 : State).shaped) ∧ (fld ((wcell 0x1C00031 : State).cellFirst (1 : Fin 4).val) 1 0 = 1) ∧ (fld ((wcell 0x1C00031 : State).cellFirst (1 : Fin 4).val) 5 4 = 3) ∧ ((wcell 0x1C00031 : State).rdB (Reg.MAC_STATUS (1 : Fin 4).val) 0 = true) ∧ ((wcell 0x1C00031 : State).rdB (Reg.MAC_CTRL (1 : Fin 4).val) 1 = true) ∧ ((wcell 0x1C00031 : State).rdB (Reg.MAC_CTRL (1 : Fin 4).val) 2 = false) ∧ ((wcell 0x1C00031 : State).rdB (Reg.MAC_STATUS (1 : Fin 4).val) 3 = false) ∧ ((wcell 0x1C00031 : State).member.responses = []) ∧ ((wcell 0x1C00031 : State).discFits (1 : Fin 4).val ((wcell 0x1C00031 : State).discBeacon (1 : Fin 4).val) = true)) ∧
    ((({ (wcell 0x31).setCard 9 3 1 1 with member := { (wcell 0x31).member with responses := [{ cohort := 1, lantern := 9, accept := true, payload := [1], earliest := 5, lastAsn := 6 }] } } : State).shaped) ∧ (fld (({ (wcell 0x31).setCard 9 3 1 1 with member := { (wcell 0x31).member with responses := [{ cohort := 1, lantern := 9, accept := true, payload := [1], earliest := 5, lastAsn := 6 }] } } : State).cellFirst (1 : Fin 4).val) 1 0 = 1) ∧ (fld (({ (wcell 0x31).setCard 9 3 1 1 with member := { (wcell 0x31).member with responses := [{ cohort := 1, lantern := 9, accept := true, payload := [1], earliest := 5, lastAsn := 6 }] } } : State).cellFirst (1 : Fin 4).val) 5 4 = 3) ∧ (({ (wcell 0x31).setCard 9 3 1 1 with member := { (wcell 0x31).member with responses := [{ cohort := 1, lantern := 9, accept := true, payload := [1], earliest := 5, lastAsn := 6 }] } } : State).rdB (Reg.MAC_STATUS (1 : Fin 4).val) 0 = true) ∧ (({ (wcell 0x31).setCard 9 3 1 1 with member := { (wcell 0x31).member with responses := [{ cohort := 1, lantern := 9, accept := true, payload := [1], earliest := 5, lastAsn := 6 }] } } : State).rdB (Reg.MAC_CTRL (1 : Fin 4).val) 1 = true) ∧ (({ (wcell 0x31).setCard 9 3 1 1 with member := { (wcell 0x31).member with responses := [{ cohort := 1, lantern := 9, accept := true, payload := [1], earliest := 5, lastAsn := 6 }] } } : State).rdB (Reg.MAC_CTRL (1 : Fin 4).val) 2 = false) ∧ (({ (wcell 0x31).setCard 9 3 1 1 with member := { (wcell 0x31).member with responses := [{ cohort := 1, lantern := 9, accept := true, payload := [1], earliest := 5, lastAsn := 6 }] } } : State).rdB (Reg.MAC_STATUS (1 : Fin 4).val) 3 = false) ∧ (({ (wcell 0x31).setCard 9 3 1 1 with member := { (wcell 0x31).member with responses := [{ cohort := 1, lantern := 9, accept := true, payload := [1], earliest := 5, lastAsn := 6 }] } } : State).member.responses = [({ cohort := 1, lantern := 9, accept := true, payload := [1], earliest := 5, lastAsn := 6 } : Response)]) ∧ (({ cohort := 1, lantern := 9, accept := true, payload := [1], earliest := 5, lastAsn := 6 } : Response).cohort = (1 : Fin 4).val) ∧ (({ cohort := 1, lantern := 9, accept := true, payload := [1], earliest := 5, lastAsn := 6 } : Response).earliest ≤ ({ (wcell 0x31).setCard 9 3 1 1 with member := { (wcell 0x31).member with responses := [{ cohort := 1, lantern := 9, accept := true, payload := [1], earliest := 5, lastAsn := 6 }] } } : State).time.now) ∧ (({ (wcell 0x31).setCard 9 3 1 1 with member := { (wcell 0x31).member with responses := [{ cohort := 1, lantern := 9, accept := true, payload := [1], earliest := 5, lastAsn := 6 }] } } : State).asn (1 : Fin 4).val ≤ ({ cohort := 1, lantern := 9, accept := true, payload := [1], earliest := 5, lastAsn := 6 } : Response).lastAsn) ∧ (({ cohort := 1, lantern := 9, accept := true, payload := [1], earliest := 5, lastAsn := 6 } : Response).accept = true) ∧ (({ cohort := 1, lantern := 9, accept := true, payload := [1], earliest := 5, lastAsn := 6 } : Response).lantern < 4096) ∧ (({ (wcell 0x31).setCard 9 3 1 1 with member := { (wcell 0x31).member with responses := [{ cohort := 1, lantern := 9, accept := true, payload := [1], earliest := 5, lastAsn := 6 }] } } : State).discFits (1 : Fin 4).val ({ cohort := 1, lantern := 9, accept := true, payload := [1], earliest := 5, lastAsn := 6 } : Response).payload = true) ∧ (({ (wcell 0x31).setCard 9 3 1 1 with member := { (wcell 0x31).member with responses := [{ cohort := 1, lantern := 9, accept := true, payload := [1], earliest := 5, lastAsn := 6 }] } } : State).card ({ cohort := 1, lantern := 9, accept := true, payload := [1], earliest := 5, lastAsn := 6 } : Response).lantern 3 ≠ 0) ∧ (({ (wcell 0x31).setCard 9 3 1 1 with member := { (wcell 0x31).member with responses := [{ cohort := 1, lantern := 9, accept := true, payload := [1], earliest := 5, lastAsn := 6 }] } } : State).card ({ cohort := 1, lantern := 9, accept := true, payload := [1], earliest := 5, lastAsn := 6 } : Response).lantern 3 < 8)) ∧
    ((({ wl 3 with member := { (wl 3).member with enrolling := [(9, 1, 500)] } } : State).member.enrolling = [((9 : Fin 4096).val, (1 : Nat), (500 : Nat))]) ∧ (({ wl 3 with member := { (wl 3).member with enrolling := [(9, 1, 500)] } } : State).card (9 : Fin 4096).val 3 = 3) ∧ (({ wl 3 with member := { (wl 3).member with enrolling := [(9, 1, 500)] } } : State).objN 0x7000 7 ≤ (500 : Nat)) ∧ ((1 : Nat) < 9) ∧ (({ wl 3 with member := { (wl 3).member with enrolling := [(9, 1, 500)] } } : State).card (9 : Fin 4096).val 5 < 4)) ∧
    (((wl 6 : State).card (9 : Fin 4096).val 3 = 6)) ∧
    (((wl 4 : State).card (9 : Fin 4096).val 3 ≠ 6)) ∧
    ((((wl 4 : State).card (9 : Fin 4096).val 3 = 4 ∨ (wl 4 : State).card (9 : Fin 4096).val 3 = 5 ∨ (wl 4 : State).card (9 : Fin 4096).val 3 = 6))) ∧
    (((wl 4 : State).card (9 : Fin 4096).val 3 = 4) ∧ ((List.replicate 8 1 : List Byte).length = 8)) :=
  by
  refine ⟨?_, ?_, ?_, ?_, ?_, ⟨by decide +kernel, by decide +kernel, by decide +kernel, by decide +kernel, by decide +kernel, es_mic _ _ _, by decide +kernel⟩, ⟨by decide +kernel, by decide +kernel, by decide +kernel, by decide +kernel, by decide +kernel, es_mic _ _ _, by decide +kernel, by decide +kernel, by decide +kernel, by decide +kernel⟩, ⟨by decide +kernel, by decide +kernel, by decide +kernel, by decide +kernel, by decide +kernel, es_mic _ _ _, by decide +kernel, by decide +kernel, by decide +kernel, by decide +kernel, by decide +kernel, by decide +kernel, by decide +kernel, by decide +kernel⟩, ⟨by decide +kernel, by decide +kernel, by decide +kernel, by decide +kernel, by decide +kernel, es_mic _ _ _, by decide +kernel, by decide +kernel, by decide +kernel, by decide +kernel⟩, ?_, ?_, ?_, ?_, ?_, ?_, ?_, ?_, ?_⟩ <;> first | decide +kernel | (try unfold State.shaped ; decide +kernel)

/-- ReportsHandoverAndKeyRenewal: its hypotheses are met, clause by clause. -/
theorem witness_ReportsHandoverAndKeyRenewal :
    ((holdsEntry ((wl 4 : State).card (9 : Fin 4096).val 3) = true) ∧ ((List.replicate 16 1 : List Byte).length = 16)) ∧
    ((holdsEntry ((wl 4 : State).card (9 : Fin 4096).val 3) = true) ∧ ((List.replicate 16 1 : List Byte).length = 16)) ∧
    ((holdsEntry ((wl 7 : State).card (9 : Fin 4096).val 3) = false)) ∧
    ((holdsEntry ((wl 4 : State).card (9 : Fin 4096).val 3) = true)) ∧
    (((wlk 4 : State).cardByEui (es (wlk 4) 5 (er 5) : EnrolRequest).eui = some (9 : Nat)) ∧ ((9 : Nat) < 4096) ∧ ((wlk 4 : State).chainCheck 1 = .ok) ∧ ((es (wlk 4) 5 (er 5) : EnrolRequest).mic = (wlk 4 : State).requestMic (9 : Nat) (es (wlk 4) 5 (er 5) : EnrolRequest) 5) ∧ (((wlk 4 : State).card (9 : Nat) 3 = 4 ∨ (wlk 4 : State).card (9 : Nat) 3 = 5 ∨ (wlk 4 : State).card (9 : Nat) 3 = 6))) ∧
    (((wr : State).cardByEui (er 5 : EnrolRequest).eui = none)) ∧
    ((((((wl 4).setCard 9 0x18 1 1).setObjN 0x7000 0x0F 1 1).setObj 0x7000 0x0B (List.replicate 8 7) : State).handoverPeer (List.replicate 8 7 : List Byte) = true) ∧ ((List.replicate 8 9 ++ [1, 2, 100, 1, 0, 0, 0, 0] : List Byte).length = 16) ∧ (((((wl 4).setCard 9 0x18 1 1).setObjN 0x7000 0x0F 1 1).setObj 0x7000 0x0B (List.replicate 8 7) : State).cardByEui ((List.replicate 8 9 ++ [1, 2, 100, 1, 0, 0, 0, 0] : List Byte).take 8) = some (9 : Nat)) ∧ ((9 : Nat) < 4096) ∧ (((((wl 4).setCard 9 0x18 1 1).setObjN 0x7000 0x0F 1 1).setObj 0x7000 0x0B (List.replicate 8 7) : State).card (9 : Nat) 3 = 4) ∧ (((((wl 4).setCard 9 0x18 1 1).setObjN 0x7000 0x0F 1 1).setObj 0x7000 0x0B (List.replicate 8 7) : State).card (9 : Nat) 0x18 = 1) ∧ (((((wl 4).setCard 9 0x18 1 1).setObjN 0x7000 0x0F 1 1).setObj 0x7000 0x0B (List.replicate 8 7) : State).mode.mode = .day) ∧ (((((wl 4).setCard 9 0x18 1 1).setObjN 0x7000 0x0F 1 1).setObj 0x7000 0x0B (List.replicate 8 7) : State).member.probeRuns = []) ∧ (leAt (List.replicate 8 9 ++ [1, 2, 100, 1, 0, 0, 0, 0] : List Byte) 11 1 ≠ 0) ∧ (((((wl 4).setCard 9 0x18 1 1).setObjN 0x7000 0x0F 1 1).setObj 0x7000 0x0B (List.replicate 8 7) : State).objN 0x7000 0x0F = 1) ∧ (((((wl 4).setCard 9 0x18 1 1).setObjN 0x7000 0x0F 1 1).setObj 0x7000 0x0B (List.replicate 8 7) : State).objI (0x6000 + (9 : Nat)) 0x19 8 + ((((wl 4).setCard 9 0x18 1 1).setObjN 0x7000 0x0F 1 1).setObj 0x7000 0x0B (List.replicate 8 7) : State).objN 0x7000 0x0E ≤ sx 8 (leAt (List.replicate 8 9 ++ [1, 2, 100, 1, 0, 0, 0, 0] : List Byte) 10 1))) ∧
    (((wb : State).handoverPeer (List.replicate 8 7 : List Byte) = false)) ∧
    (((wm .nightScheduled : State).renewalMay (1 : Fin 4).val = false)) ∧
    (((wren : State).renewalMay (1 : Fin 4).val = true) ∧ ((wren : State).keyCheck 1 { slot := (wren : State).inactiveSlot (1 : Fin 4).val, parent := 8, kind := 1, twin := (wren : State).activeSlot (1 : Fin 4).val, attr := 0x141 } = 0)) ∧
    ((({ wl 4 with member := { (wl 4).member with renewals := [{ cohort := 1, slot := 19, gen := 263, activate := 90, ready := [2] }] } } : State).member.renewals = [({ cohort := 1, slot := 19, gen := 263, activate := 90, ready := [2] } : Renewal)]) ∧ (({ cohort := 1, slot := 19, gen := 263, activate := 90, ready := [2] } : Renewal).cohort = ({ wl 4 with member := { (wl 4).member with renewals := [{ cohort := 1, slot := 19, gen := 263, activate := 90, ready := [2] }] } } : State).card (9 : Fin 4096).val 5) ∧ (({ cohort := 1, slot := 19, gen := 263, activate := 90, ready := [2] } : Renewal).gen % 256 = (7 : BitVec 8).toNat) ∧ ((9 : Fin 4096).val ∉ ({ cohort := 1, slot := 19, gen := 263, activate := 90, ready := [2] } : Renewal).ready)) ∧
    ((({ wl 4 with member := { (wl 4).member with renewals := [{ cohort := 1, slot := 19, gen := 263, activate := 0, ready := [2] }] } } : State).member.renewals = [({ cohort := 1, slot := 19, gen := 263, activate := 0, ready := [2] } : Renewal)]) ∧ (({ cohort := 1, slot := 19, gen := 263, activate := 0, ready := [2] } : Renewal).cohort = (1 : Fin 4).val) ∧ (({ cohort := 1, slot := 19, gen := 263, activate := 0, ready := [2] } : Renewal).activate ≤ ({ wl 4 with member := { (wl 4).member with renewals := [{ cohort := 1, slot := 19, gen := 263, activate := 0, ready := [2] }] } } : State).asn (1 : Fin 4).val)) ∧
    (((wb : State).coresRun = true) ∧ ((wb : State).mode.mode = .day) ∧ ((wb : State).held 0x7000 0x0D = false)) ∧
    (((wm .nightScheduled : State).coresRun = true) ∧ ((wm .nightScheduled : State).mode.mode = .nightScheduled) ∧ ((wm .nightScheduled : State).held 0x7000 0x0D = false)) :=
  by
  refine ⟨?_, ?_, ?_, ?_, ⟨by decide +kernel, by decide +kernel, by decide +kernel, es_mic _ _ _, by decide +kernel⟩, ?_, ?_, ?_, ?_, ?_, ?_, ?_, ?_, ?_⟩ <;> decide +kernel

/-- TrafficIsCountedAndPassedOn: its hypotheses are met, clause by clause. -/
theorem witness_TrafficIsCountedAndPassedOn :
    ((reportFormed ([1, 1, 2] : List Byte) = false)) ∧
    ((reportFormed (0 :: 1 :: List.replicate 12 0 : List Byte) = true) ∧ (((leAt (0 :: 1 :: List.replicate 12 0 : List Byte) 0 1 + 256 - (wl 4 : State).card (9 : Fin 4096).val 0x28) % 256 = 0 ∨ 128 < (leAt (0 :: 1 :: List.replicate 12 0 : List Byte) 0 1 + 256 - (wl 4 : State).card (9 : Fin 4096).val 0x28) % 256))) ∧
    ((reportFormed ([1, 1, 7, 0, 0, 0, 0, 0, 0, 0, 0, 0, 0, 0] : List Byte) = true) ∧ (leAt ([1, 1, 7, 0, 0, 0, 0, 0, 0, 0, 0, 0, 0, 0] : List Byte) 1 1 = 1) ∧ ((leAt ([1, 1, 7, 0, 0, 0, 0, 0, 0, 0, 0, 0, 0, 0] : List Byte) 0 1 + 256 - ((wl 4).setMac 1 { (wl 4).mac 1 with marks := [(7, 1749999999000000000)] } : State).card (9 : Fin 4096).val 0x28) % 256 = 1) ∧ (Nat.testBit (leAt ([1, 1, 7, 0, 0, 0, 0, 0, 0, 0, 0, 0, 0, 0] : List Byte) 7 1) 1 = false) ∧ (Nat.testBit (leAt ([1, 1, 7, 0, 0, 0, 0, 0, 0, 0, 0, 0, 0, 0] : List Byte) 7 1) 2 = false) ∧ (Nat.testBit (((wl 4).setMac 1 { (wl 4).mac 1 with marks := [(7, 1749999999000000000)] } : State).card (9 : Fin 4096).val 0x22) 1 = false) ∧ (leAt ([1, 1, 7, 0, 0, 0, 0, 0, 0, 0, 0, 0, 0, 0] : List Byte) 13 1 / 2 % 8 < 6) ∧ (((wl 4).setMac 1 { (wl 4).mac 1 with marks := [(7, 1749999999000000000)] } : State).tMark (((wl 4).setMac 1 { (wl 4).mac 1 with marks := [(7, 1749999999000000000)] } : State).card (9 : Fin 4096).val 5) (leAt ([1, 1, 7, 0, 0, 0, 0, 0, 0, 0, 0, 0, 0, 0] : List Byte) 2 5) = some (1749999999000000000 : Nat)) ∧ (((wl 4).setMac 1 { (wl 4).mac 1 with marks := [(7, 1749999999000000000)] } : State).tMark (((wl 4).setMac 1 { (wl 4).mac 1 with marks := [(7, 1749999999000000000)] } : State).card (9 : Fin 4096).val 5) (7 : Nat) = some (1749999999000000000 : Nat)) ∧ (0 ≤ (((1749999999000000000 : Nat) : Int) + leAt ([1, 1, 7, 0, 0, 0, 0, 0, 0, 0, 0, 0, 0, 0] : List Byte) 10 3 * 1000 + ((((wl 4).setMac 1 { (wl 4).mac 1 with marks := [(7, 1749999999000000000)] } : State).extend (((wl 4).setMac 1 { (wl 4).mac 1 with marks := [(7, 1749999999000000000)] } : State).stampCorrected (1749999999123456789 % 2 ^ 32 : Nat) (0 : Nat)) : Int) - (1749999999000000000 : Nat) - ((wl 4).setMac 1 { (wl 4).mac 1 with marks := [(7, 1749999999000000000)] } : State).rdF (Reg.MAC_TIMING (((wl 4).setMac 1 { (wl 4).mac 1 with marks := [(7, 1749999999000000000)] } : State).card (9 : Fin 4096).val 5)) 11 0 * 1000) : Int)) ∧ ((((1749999999000000000 : Nat) : Int) + leAt ([1, 1, 7, 0, 0, 0, 0, 0, 0, 0, 0, 0, 0, 0] : List Byte) 10 3 * 1000 + ((((wl 4).setMac 1 { (wl 4).mac 1 with marks := [(7, 1749999999000000000)] } : State).extend (((wl 4).setMac 1 { (wl 4).mac 1 with marks := [(7, 1749999999000000000)] } : State).stampCorrected (1749999999123456789 % 2 ^ 32 : Nat) (0 : Nat)) : Int) - (1749999999000000000 : Nat) - ((wl 4).setMac 1 { (wl 4).mac 1 with marks := [(7, 1749999999000000000)] } : State).rdF (Reg.MAC_TIMING (((wl 4).setMac 1 { (wl 4).mac 1 with marks := [(7, 1749999999000000000)] } : State).card (9 : Fin 4096).val 5)) 11 0 * 1000) : Int) ≤ (((wl 4).setMac 1 { (wl 4).mac 1 with marks := [(7, 1749999999000000000)] } : State).extend (((wl 4).setMac 1 { (wl 4).mac 1 with marks := [(7, 1749999999000000000)] } : State).stampCorrected (1749999999123456789 % 2 ^ 32 : Nat) (0 : Nat)) : Int)) ∧ ((((wl 4).setMac 1 { (wl 4).mac 1 with marks := [(7, 1749999999000000000)] } : State).time.now : Int) ≤ (((1749999999000000000 : Nat) : Int) + leAt ([1, 1, 7, 0, 0, 0, 0, 0, 0, 0, 0, 0, 0, 0] : List Byte) 10 3 * 1000 + ((((wl 4).setMac 1 { (wl 4).mac 1 with marks := [(7, 1749999999000000000)] } : State).extend (((wl 4).setMac 1 { (wl 4).mac 1 with marks := [(7, 1749999999000000000)] } : State).stampCorrected (1749999999123456789 % 2 ^ 32 : Nat) (0 : Nat)) : Int) - (1749999999000000000 : Nat) - ((wl 4).setMac 1 { (wl 4).mac 1 with marks := [(7, 1749999999000000000)] } : State).rdF (Reg.MAC_TIMING (((wl 4).setMac 1 { (wl 4).mac 1 with marks := [(7, 1749999999000000000)] } : State).card (9 : Fin 4096).val 5)) 11 0 * 1000) : Int) + ((wl 4).setMac 1 { (wl 4).mac 1 with marks := [(7, 1749999999000000000)] } : State).objN 0x2400 3 * 1000000000)) ∧
    ((({ wb with traffic := { wb.traffic with wins := [{ start := 5, stop := 9, length := 4 }, { start := 9, stop := 10, length := 4 }] } } : State).traffic.wins = [({ start := 5, stop := 9, length := 4 } : CountWin), ({ start := 9, stop := 10, length := 4 } : CountWin)]) ∧ (({ start := 5, stop := 9, length := 4 } : CountWin).stop = ({ start := 9, stop := 10, length := 4 } : CountWin).start) ∧ (({ start := 9, stop := 10, length := 4 } : CountWin).start < ({ start := 9, stop := 10, length := 4 } : CountWin).stop)) ∧
    ((({ wb with traffic := { wb.traffic with wins := [{ start := 1749999900000000000, stop := 1749999960000000000, length := 60 }] } } : State).traffic.wins = ({ start := 1749999900000000000, stop := 1749999960000000000, length := 60 } : CountWin) :: ([] : List CountWin)) ∧ (({ start := 1749999900000000000, stop := 1749999960000000000, length := 60 } : CountWin).stop + ({ wb with traffic := { wb.traffic with wins := [{ start := 1749999900000000000, stop := 1749999960000000000, length := 60 }] } } : State).objN 0x2400 2 * 1000000000 ≤ ({ wb with traffic := { wb.traffic with wins := [{ start := 1749999900000000000, stop := 1749999960000000000, length := 60 }] } } : State).time.now)) ∧
    (((wb : State).coresRun = true) ∧ ((wb : State).mode.mode = .day) ∧ ((wb : State).held 0x2400 0x0C = false) ∧ ((wb : State).graphBuild.nodes = [])) ∧
    (((wb.setObjN 0x6009 0x24 4 0x403005 : State).coresRun = true) ∧ ((wb.setObjN 0x6009 0x24 4 0x403005 : State).mode.mode = .day) ∧ ((wb.setObjN 0x6009 0x24 4 0x403005 : State).held 0x2400 0x0C = false) ∧ ((wb.setObjN 0x6009 0x24 4 0x403005 : State).graphBuild.nodes = [({ lantern := 9, zone := wb.card 9 0x20, edges := [0, 0x403005, 0, 0] } : GNode)]) ∧ (({ lantern := 9, zone := wb.card 9 0x20, edges := [0, 0x403005, 0, 0] } : GNode).lantern < 4096) ∧ ((wb.setObjN 0x6009 0x24 4 0x403005 : State).graphReason (wb.setObjN 0x6009 0x24 4 0x403005 : State).graphBuild ({ lantern := 9, zone := wb.card 9 0x20, edges := [0, 0x403005, 0, 0] } : GNode) ≠ 0)) ∧
    ((((wm .islanded : State).mode.mode = .islanded ∨ (wm .islanded : State).mode.mode = .standby))) ∧
    (((wm .nightFollowing : State).mode.mode = .nightFollowing)) ∧
    (((wm .nightFollowing : State).coresRun = true) ∧ ((wm .nightFollowing : State).mode.mode = .nightFollowing) ∧ ((wm .nightFollowing : State).held 0x2490 1 = false) ∧ ((List.replicate 80 1 : List Byte).length = 80) ∧ (leAt (List.replicate 80 1 : List Byte) 10 1 = 1) ∧ ((wm .nightFollowing : State).edgeOk (List.replicate 80 1 : List Byte) = false)) ∧
    ((((wm .nightFollowing).setObj (0x2450 + 1) 1 (List.replicate 8 1) : State).coresRun = true) ∧ (((wm .nightFollowing).setObj (0x2450 + 1) 1 (List.replicate 8 1) : State).mode.mode = .nightFollowing) ∧ (((wm .nightFollowing).setObj (0x2450 + 1) 1 (List.replicate 8 1) : State).held 0x2490 1 = false) ∧ ((List.replicate 80 1 : List Byte).length = 80) ∧ (leAt (List.replicate 80 1 : List Byte) 10 1 = 1) ∧ (((wm .nightFollowing).setObj (0x2450 + 1) 1 (List.replicate 8 1) : State).edgeOk (List.replicate 80 1 : List Byte) = true)) ∧
    ((({ wb.setObjN (0x2450 + 63) 4 1 1 with traffic := { wb.traffic with heard := [(63, 1749999990000000000)] } } : State).objN (0x2450 + (63 : Fin 64).val) 4 = 1) ∧ (({ wb.setObjN (0x2450 + 63) 4 1 1 with traffic := { wb.traffic with heard := [(63, 1749999990000000000)] } } : State).traffic.heard = [((63 : Fin 64).val, (1749999990000000000 : Nat))]) ∧ ((1749999990000000000 : Nat) + ({ wb.setObjN (0x2450 + 63) 4 1 1 with traffic := { wb.traffic with heard := [(63, 1749999990000000000)] } } : State).objN 0x2400 0x0A * ({ wb.setObjN (0x2450 + 63) 4 1 1 with traffic := { wb.traffic with heard := [(63, 1749999990000000000)] } } : State).objN 0x2400 9 * 1000000 ≤ ({ wb.setObjN (0x2450 + 63) 4 1 1 with traffic := { wb.traffic with heard := [(63, 1749999990000000000)] } } : State).time.now)) ∧
    ((({ wb.setObjN (0x2450 + 63) 4 1 1 with traffic := { wb.traffic with heard := [(63, 1749999999000000000)] } } : State).objN (0x2450 + (63 : Fin 64).val) 4 = 1) ∧ (({ wb.setObjN (0x2450 + 63) 4 1 1 with traffic := { wb.traffic with heard := [(63, 1749999999000000000)] } } : State).traffic.heard = [((63 : Fin 64).val, (1749999999000000000 : Nat))]) ∧ (({ wb.setObjN (0x2450 + 63) 4 1 1 with traffic := { wb.traffic with heard := [(63, 1749999999000000000)] } } : State).time.now < (1749999999000000000 : Nat) + ({ wb.setObjN (0x2450 + 63) 4 1 1 with traffic := { wb.traffic with heard := [(63, 1749999999000000000)] } } : State).objN 0x2400 0x0A * ({ wb.setObjN (0x2450 + 63) 4 1 1 with traffic := { wb.traffic with heard := [(63, 1749999999000000000)] } } : State).objN 0x2400 9 * 1000000)) :=
  by
  refine ⟨?_, ?_, ?_, ?_, ?_, ?_, ?_, ?_, ?_, ?_, ?_, ?_, ?_⟩ <;> decide +kernel

/-- SamplesCompleteOrAreMissed: its hypotheses are met, clause by clause. -/
theorem witness_SamplesCompleteOrAreMissed :
    ((({ wb with ctl := { wb.ctl with sample := some { fire := 1749999999104456789, stamp := 1, late := false, core := {} } } } : State).ctl.sample = some ({ fire := 1749999999104456789, stamp := 1, late := false, core := {} } : Sample)) ∧ (({ wb with ctl := { wb.ctl with sample := some { fire := 1749999999104456789, stamp := 1, late := false, core := {} } } } : State).fault.errorAddr = none) ∧ (({ fire := 1749999999104456789, stamp := 1, late := false, core := {} } : Sample).stages = []) ∧ (({ fire := 1749999999104456789, stamp := 1, late := false, core := {} } : Sample).zeroed = none) ∧ (({ fire := 1749999999104456789, stamp := 1, late := false, core := {} } : Sample).dropped = 0) ∧ (max ({ wb with ctl := { wb.ctl with sample := some { fire := 1749999999104456789, stamp := 1, late := false, core := {} } } } : State).time.now (0 : Nat) ≤ ({ fire := 1749999999104456789, stamp := 1, late := false, core := {} } : Sample).fire + ({ wb with ctl := { wb.ctl with sample := some { fire := 1749999999104456789, stamp := 1, late := false, core := {} } } } : State).rdF Reg.CTL_DEADLINE 19 0 * 1000)) ∧
    ((({ wb with ctl := { wb.ctl with sample := some { fire := 1749999999104456788, stamp := 1, late := false, core := {} } } } : State).ctl.sample = some ({ fire := 1749999999104456788, stamp := 1, late := false, core := {} } : Sample)) ∧ (({ fire := 1749999999104456788, stamp := 1, late := false, core := {} } : Sample).fire + ({ wb with ctl := { wb.ctl with sample := some { fire := 1749999999104456788, stamp := 1, late := false, core := {} } } } : State).rdF Reg.CTL_DEADLINE 19 0 * 1000 < max ({ wb with ctl := { wb.ctl with sample := some { fire := 1749999999104456788, stamp := 1, late := false, core := {} } } } : State).time.now (0 : Nat))) ∧
    ((({ wb with ctl := { wb.ctl with sample := some { fire := 1749999999104456789, stamp := 1, late := false, core := {} } } } : State).ctl.sample = some ({ fire := 1749999999104456789, stamp := 1, late := false, core := {} } : Sample)) ∧ (({ fire := 1749999999104456789, stamp := 1, late := false, core := {} } : Sample).fire + ({ wb with ctl := { wb.ctl with sample := some { fire := 1749999999104456789, stamp := 1, late := false, core := {} } } } : State).rdF Reg.CTL_DEADLINE 19 0 * 1000 ≤ max ({ wb with ctl := { wb.ctl with sample := some { fire := 1749999999104456789, stamp := 1, late := false, core := {} } } } : State).time.now (0 : Nat))) ∧
    (((.sup : Initiator).resident = true) ∧ (Nat.testBit (fromLE ([4] : List Byte)) 2 = true) ∧ ((wb.wrB Reg.CTL_LAW 15 true : State).swapPending = false) ∧ ((wb.wrB Reg.CTL_LAW 15 true : State).setLacks (1 - (wb.wrB Reg.CTL_LAW 15 true : State).activeBank) = true)) ∧
    (((.sup : Initiator).resident = true) ∧ (Nat.testBit (fromLE ([4] : List Byte)) 2 = true) ∧ ((wb : State).swapPending = false) ∧ ((wb : State).setLacks (1 - (wb : State).activeBank) = false)) ∧
    ((lightMapMode (wm .standby : State).mode.mode = false ∨ (wm .standby : State).lmCohorts = [])) ∧
    ((({ wr with mode := { wr.mode with mode := .drill } } : State).lmCohorts ≠ []) ∧ (lightMapMode ({ wr with mode := { wr.mode with mode := .drill } } : State).mode.mode = true)) :=
  by
  refine ⟨?_, ?_, ?_, ?_, ?_, ?_, ?_⟩ <;> decide +kernel

/-- SourceOffDarkensEveryLantern: its hypotheses are met, clause by clause. -/
theorem witness_SourceOffDarkensEveryLantern :
    ((((wctl : State).rdF Reg.CTL_CTRL 5 4 = 0 ∨ (wctl : State).rdF Reg.CTL_CTRL 5 4 = 3)) ∧ ((((wctl).ctlCompute true).core.lanterns.headD (0, {})) ∈ ((wctl : State).ctlCompute (true : Bool)).core.lanterns)) ∧
    (((((wctl.wrF Reg.CTL_CTRL 5 4 3) : State).rdF Reg.CTL_CTRL 5 4 = 0 ∨ ((wctl.wrF Reg.CTL_CTRL 5 4 3) : State).rdF Reg.CTL_CTRL 5 4 = 3)) ∧ (((((wctl.wrF Reg.CTL_CTRL 5 4 3)).ctlCompute true).core.lanterns.headD (0, {})) ∈ (((wctl.wrF Reg.CTL_CTRL 5 4 3) : State).ctlCompute (true : Bool)).core.lanterns)) :=
  by
  refine ⟨?_, ?_⟩ <;> decide +kernel

/-- HysteresisHoldsWithinItsBands: its hypotheses are met, clause by clause. -/
theorem witness_HysteresisHoldsWithinItsBands :
    ((((0 : Nat) = 0 ∨ (0 : Nat) = (wb : State).objN (0x2510 + (15 : Nat)) 1 ∨ (9 : Nat) + (wb : State).objN (0x2510 + (15 : Nat)) 2 < (0 : Nat) ∨ (0 : Nat) + (wb : State).objN (0x2510 + (15 : Nat)) 3 < (9 : Nat)))) ∧
    (((200 : Nat) ≠ 0) ∧ ((200 : Nat) ≠ (wb : State).objN (0x2510 + (15 : Nat)) 1) ∧ ((200 : Nat) ≤ (200 : Nat) + (wb : State).objN (0x2510 + (15 : Nat)) 2) ∧ ((200 : Nat) ≤ (200 : Nat) + (wb : State).objN (0x2510 + (15 : Nat)) 3)) :=
  by
  refine ⟨?_, ?_⟩ <;> decide +kernel

/-- MeteringFramesCyclesAndIntervals: its hypotheses are met, clause by clause. -/
theorem witness_MeteringFramesCyclesAndIntervals :
    ((({ (wb.wrB Reg.MTR_CTRL 0 true) with mtr := { wb.mtr with frames := [{ time := 1749999999123000000, half := 31250, vals := [], route := 0 }] } } : State).lastFrame = some (1749999999123000000 : Nat)) ∧ (({ (wb.wrB Reg.MTR_CTRL 0 true) with mtr := { wb.mtr with frames := [{ time := 1749999999123000000, half := 31250, vals := [], route := 0 }] } } : State).fullRate = true) ∧ ((1749999999123000000 : Nat) + 62750 < max ({ (wb.wrB Reg.MTR_CTRL 0 true) with mtr := { wb.mtr with frames := [{ time := 1749999999123000000, half := 31250, vals := [], route := 0 }] } } : State).time.now (0 : Nat))) ∧
    ((({ (wb) with mtr := { wb.mtr with frames := [{ time := 1749999999123000000, half := 31250, vals := [], route := 0 }] } } : State).lastFrame = some (1749999999123000000 : Nat)) ∧ ((({ (wb) with mtr := { wb.mtr with frames := [{ time := 1749999999123000000, half := 31250, vals := [], route := 0 }] } } : State).fullRate = false ∨ max ({ (wb) with mtr := { wb.mtr with frames := [{ time := 1749999999123000000, half := 31250, vals := [], route := 0 }] } } : State).time.now (0 : Nat) ≤ (1749999999123000000 : Nat) + 62750))) ∧
    ((({ ((wb.wrB Reg.MTR_CTRL 0 true).wrB Reg.MTR_CTRL 1 true) with mtr := { wb.mtr with frames := [{ time := 1749999999123000000, half := 31250, vals := [], route := 0 }] } } : State).lastFrame = some (1749999999123000000 : Nat)) ∧ (({ ((wb.wrB Reg.MTR_CTRL 0 true).wrB Reg.MTR_CTRL 1 true) with mtr := { wb.mtr with frames := [{ time := 1749999999123000000, half := 31250, vals := [], route := 0 }] } } : State).rdB Reg.MTR_CTRL 0 = true) ∧ (({ ((wb.wrB Reg.MTR_CTRL 0 true).wrB Reg.MTR_CTRL 1 true) with mtr := { wb.mtr with frames := [{ time := 1749999999123000000, half := 31250, vals := [], route := 0 }] } } : State).rdB Reg.MTR_CTRL 1 = true)) ∧
    ((({ (wb.wrB Reg.MTR_CTRL 0 true) with mtr := { wb.mtr with boundary := some 1749999999100000000 } } : State).mtr.boundary = some (1749999999100000000 : Nat)) ∧ (({ (wb.wrB Reg.MTR_CTRL 0 true) with mtr := { wb.mtr with boundary := some 1749999999100000000 } } : State).rdB Reg.MTR_CTRL 0 = true) ∧ (({ (wb.wrB Reg.MTR_CTRL 0 true) with mtr := { wb.mtr with boundary := some 1749999999100000000 } } : State).rdB Reg.MTR_CTRL 1 = false) ∧ (({ (wb.wrB Reg.MTR_CTRL 0 true) with mtr := { wb.mtr with boundary := some 1749999999100000000 } } : State).mtr.stopped = false) ∧ (({ (wb.wrB Reg.MTR_CTRL 0 true) with mtr := { wb.mtr with boundary := some 1749999999100000000 } } : State).mtr.stopAt = none) ∧ (({ (wb.wrB Reg.MTR_CTRL 0 true) with mtr := { wb.mtr with boundary := some 1749999999100000000 } } : State).mtr.profileDue = none) ∧ ((({ (wb.wrB Reg.MTR_CTRL 0 true) with mtr := { wb.mtr with boundary := some 1749999999100000000 } } : State).mtr.measured = false ∨ ({ (wb.wrB Reg.MTR_CTRL 0 true) with mtr := { wb.mtr with boundary := some 1749999999100000000 } } : State).mtr.present.any id = true)) ∧ (({ (wb.wrB Reg.MTR_CTRL 0 true) with mtr := { wb.mtr with boundary := some 1749999999100000000 } } : State).crossingValid (1749999999130000000 : Nat) = false)) ∧
    ((({ (wb.wrB Reg.MTR_CTRL 0 true) with mtr := { wb.mtr with boundary := some 1749999999100000000 } } : State).mtr.boundary = some (1749999999100000000 : Nat)) ∧ (({ (wb.wrB Reg.MTR_CTRL 0 true) with mtr := { wb.mtr with boundary := some 1749999999100000000 } } : State).rdB Reg.MTR_CTRL 0 = true) ∧ (({ (wb.wrB Reg.MTR_CTRL 0 true) with mtr := { wb.mtr with boundary := some 1749999999100000000 } } : State).rdB Reg.MTR_CTRL 1 = false) ∧ (({ (wb.wrB Reg.MTR_CTRL 0 true) with mtr := { wb.mtr with boundary := some 1749999999100000000 } } : State).mtr.stopped = false) ∧ (({ (wb.wrB Reg.MTR_CTRL 0 true) with mtr := { wb.mtr with boundary := some 1749999999100000000 } } : State).mtr.stopAt = none) ∧ (({ (wb.wrB Reg.MTR_CTRL 0 true) with mtr := { wb.mtr with boundary := some 1749999999100000000 } } : State).mtr.profileDue = none) ∧ ((({ (wb.wrB Reg.MTR_CTRL 0 true) with mtr := { wb.mtr with boundary := some 1749999999100000000 } } : State).mtr.measured = false ∨ ({ (wb.wrB Reg.MTR_CTRL 0 true) with mtr := { wb.mtr with boundary := some 1749999999100000000 } } : State).mtr.present.any id = true)) ∧ (({ (wb.wrB Reg.MTR_CTRL 0 true) with mtr := { wb.mtr with boundary := some 1749999999100000000 } } : State).crossingValid (1749999999120000000 : Nat) = true) ∧ (({ (wb.wrB Reg.MTR_CTRL 0 true) with mtr := { wb.mtr with boundary := some 1749999999100000000 } } : State).cal.armed = none) ∧ (({ (wb.wrB Reg.MTR_CTRL 0 true) with mtr := { wb.mtr with boundary := some 1749999999100000000 } } : State).calGoes = false)) ∧
    ((({ (wb.wrB Reg.MTR_CTRL 0 true) with mtr := { wb.mtr with boundary := some 1749999999100000000 } } : State).mtr.boundary = some (1749999999100000000 : Nat)) ∧ (({ (wb.wrB Reg.MTR_CTRL 0 true) with mtr := { wb.mtr with boundary := some 1749999999100000000 } } : State).rdB Reg.MTR_CTRL 0 = true) ∧ (({ (wb.wrB Reg.MTR_CTRL 0 true) with mtr := { wb.mtr with boundary := some 1749999999100000000 } } : State).rdB Reg.MTR_CTRL 1 = false) ∧ (({ (wb.wrB Reg.MTR_CTRL 0 true) with mtr := { wb.mtr with boundary := some 1749999999100000000 } } : State).mtr.stopped = false) ∧ (({ (wb.wrB Reg.MTR_CTRL 0 true) with mtr := { wb.mtr with boundary := some 1749999999100000000 } } : State).mtr.stopAt = none) ∧ (({ (wb.wrB Reg.MTR_CTRL 0 true) with mtr := { wb.mtr with boundary := some 1749999999100000000 } } : State).mtr.profileDue = none) ∧ (({ (wb.wrB Reg.MTR_CTRL 0 true) with mtr := { wb.mtr with boundary := some 1749999999100000000 } } : State).cal.armed = none) ∧ (({ (wb.wrB Reg.MTR_CTRL 0 true) with mtr := { wb.mtr with boundary := some 1749999999100000000 } } : State).calGoes = false) ∧ ((1749999999100000000 : Nat) * 10 + 12 * ({ (wb.wrB Reg.MTR_CTRL 0 true) with mtr := { wb.mtr with boundary := some 1749999999100000000 } } : State).nominalPeriod ≤ max ({ (wb.wrB Reg.MTR_CTRL 0 true) with mtr := { wb.mtr with boundary := some 1749999999100000000 } } : State).time.now (1749999999124000000 : Nat) * 10)) ∧
    (((wm .commission : State).coresRun = true) ∧ ((wm .commission : State).mode.mode = .commission) ∧ ((wm .commission : State).held 0x2600 0x0A = false)) ∧
    (((wb : State).coresRun = true) ∧ ((wb : State).mode.mode = .day)) ∧
    (((wb : State).mode.mode ≠ .standby) ∧ ((wb : State).mode.mode ≠ .starting) ∧ ((1749998700000000000 : Nat) % ((wb : State).objN 0x2650 1 * 1000000000) = 0) ∧ ((1749998700000000000 : Nat) + (wb : State).objN 0x2650 1 * 1000000000 + (wb : State).objN 0x2650 2 * 1000000000 ≤ (wb : State).time.now)) ∧
    ((((wb : State).mode.mode = .standby ∨ (wb : State).time.now < (1749999600000000000 : Nat) + (wb : State).objN 0x2650 1 * 1000000000 + (wb : State).objN 0x2650 2 * 1000000000))) :=
  by
  refine ⟨?_, ?_, ?_, ?_, ?_, ?_, ?_, ?_, ?_, ?_⟩ <;> decide +kernel

/-- NetEnergyIsBookedWholeToOneDirection: its hypotheses are met, clause by clause. -/
theorem witness_NetEnergyIsBookedWholeToOneDirection :
    ((((11 : Nat) < 4 ∨ (8 ≤ (11 : Nat) ∧ (11 : Nat) < 12))) ∧ ((wb : State).mtr.carries.length = 20)) :=
  by
  refine ?_ <;> decide +kernel

/-- CabinetFramesAreStoredSentAndReturned: its hypotheses are met, clause by clause. -/
theorem witness_CabinetFramesAreStoredSentAndReturned :
    (((wb : State).canOn (1 : Fin 2).val = false)) ∧
    ((((wcan false).wrB (Reg.CAN_CTRL 1) 9 true : State).canOn (1 : Fin 2).val = true) ∧ ((((wcan false).wrB (Reg.CAN_CTRL 1) 9 true : State).queue (24 + (1 : Fin 2).val)).hold = false) ∧ ((((wcan false).wrB (Reg.CAN_CTRL 1) 9 true : State).queue (24 + (1 : Fin 2).val)).stallRead = false) ∧ ((((wcan false).wrB (Reg.CAN_CTRL 1) 9 true : State).queue (24 + (1 : Fin 2).val)).stallWrite = false) ∧ (((((wcan false).wrB (Reg.CAN_CTRL 1) 9 true : State).queue (24 + (1 : Fin 2).val)).seeReads 4 16).wcount 4 < 16) ∧ ((((wcan false).wrB (Reg.CAN_CTRL 1) 9 true : State).canRoute (1 : Fin 2).val ({ id := 5 } : CanFrame) = ((0xFF : Nat), (0 : Fin 2).val + 1) ∨ ((0 : Fin 2).val = 1 ∧ ((wcan false).wrB (Reg.CAN_CTRL 1) 9 true : State).canRoute (1 : Fin 2).val ({ id := 5 } : CanFrame) = ((0xFF : Nat), 3)))) ∧ (((wcan false).wrB (Reg.CAN_CTRL 1) 9 true : State).rdF (fifoStat (1 : Fin 2).val (0 : Fin 2).val) 6 0 ≠ 64)) ∧
    (((((wcan false).wrB (Reg.CAN_CTRL 1) 9 true).wrF (fifoStat 1 0) 6 0 64 : State).canOn (1 : Fin 2).val = true) ∧ (((((wcan false).wrB (Reg.CAN_CTRL 1) 9 true).wrF (fifoStat 1 0) 6 0 64 : State).queue (24 + (1 : Fin 2).val)).hold = false) ∧ (((((wcan false).wrB (Reg.CAN_CTRL 1) 9 true).wrF (fifoStat 1 0) 6 0 64 : State).queue (24 + (1 : Fin 2).val)).stallRead = false) ∧ (((((wcan false).wrB (Reg.CAN_CTRL 1) 9 true).wrF (fifoStat 1 0) 6 0 64 : State).queue (24 + (1 : Fin 2).val)).stallWrite = false) ∧ ((((((wcan false).wrB (Reg.CAN_CTRL 1) 9 true).wrF (fifoStat 1 0) 6 0 64 : State).queue (24 + (1 : Fin 2).val)).seeReads 4 16).wcount 4 < 16) ∧ (((((wcan false).wrB (Reg.CAN_CTRL 1) 9 true).wrF (fifoStat 1 0) 6 0 64 : State).canRoute (1 : Fin 2).val ({ id := 5 } : CanFrame) = ((0xFF : Nat), (0 : Fin 2).val + 1) ∨ ((0 : Fin 2).val = 1 ∧ (((wcan false).wrB (Reg.CAN_CTRL 1) 9 true).wrF (fifoStat 1 0) 6 0 64 : State).canRoute (1 : Fin 2).val ({ id := 5 } : CanFrame) = ((0xFF : Nat), 3)))) ∧ ((((wcan false).wrB (Reg.CAN_CTRL 1) 9 true).wrF (fifoStat 1 0) 6 0 64 : State).rdF (fifoStat (1 : Fin 2).val (0 : Fin 2).val) 6 0 = 64)) ∧
    ((({ wcan false with sys := { (wcan false).sys with queues := setAt (wcan false).sys.queues 25 { hold := false, wptr := 16, wseen := 16, entries := List.replicate 16 9 } } } : State).canOn (1 : Fin 2).val = true) ∧ ((({ wcan false with sys := { (wcan false).sys with queues := setAt (wcan false).sys.queues 25 { hold := false, wptr := 16, wseen := 16, entries := List.replicate 16 9 } } } : State).queue (24 + (1 : Fin 2).val)).hold = false) ∧ (16 ≤ ((({ wcan false with sys := { (wcan false).sys with queues := setAt (wcan false).sys.queues 25 { hold := false, wptr := 16, wseen := 16, entries := List.replicate 16 9 } } } : State).queue (24 + (1 : Fin 2).val)).seeReads 4 16).wcount 4)) ∧
    ((({ wcan false with sys := { (wcan false).sys with queues := setAt (wcan false).sys.queues 25 { hold := false, stallRead := true } } } : State).canOn (1 : Fin 2).val = true) ∧ ((({ wcan false with sys := { (wcan false).sys with queues := setAt (wcan false).sys.queues 25 { hold := false, stallRead := true } } } : State).queue (24 + (1 : Fin 2).val)).hold = false) ∧ (({ wcan false with sys := { (wcan false).sys with queues := setAt (wcan false).sys.queues 25 { hold := false, stallRead := true } } } : State).shaped) ∧ (((({ wcan false with sys := { (wcan false).sys with queues := setAt (wcan false).sys.queues 25 { hold := false, stallRead := true } } } : State).queue (24 + (1 : Fin 2).val)).seeReads 4 16).wcount 4 < 16) ∧ ((({ wcan false with sys := { (wcan false).sys with queues := setAt (wcan false).sys.queues 25 { hold := false, stallRead := true } } } : State).queue (24 + (1 : Fin 2).val)).offered = none) ∧ (((({ wcan false with sys := { (wcan false).sys with queues := setAt (wcan false).sys.queues 25 { hold := false, stallRead := true } } } : State).queue (24 + (1 : Fin 2).val)).stallRead = true ∨ (({ wcan false with sys := { (wcan false).sys with queues := setAt (wcan false).sys.queues 25 { hold := false, stallRead := true } } } : State).queue (24 + (1 : Fin 2).val)).stallWrite = true))) ∧
    (((1 : Nat) ≠ 0) ∧ ((wcan false : State).canOn (1 : Fin 2).val = true) ∧ (((wcan false : State).queue (24 + (1 : Fin 2).val)).hold = false) ∧ ((wcan false : State).canListens (1 : Fin 2).val = false)) ∧
    (((.sup : Initiator).resident = true)) ∧
    (((.sup : Initiator).resident = true) ∧ ((wcan false : State).canListens (1 : Fin 2).val = false)) ∧
    ((((wcan false).wrB (Reg.CAN_STATUS 1) 2 true : State).shaped) ∧ ((.sup : Initiator).resident = true) ∧ (bufsOf (true : Bool) (0x80000000 : Word) = [(63 : Nat)]) ∧ ((((wcan false).wrB (Reg.CAN_STATUS 1) 2 true : State).ctl_ (1 : Fin 2).val).waiting = []) ∧ (((wcan false).wrB (Reg.CAN_STATUS 1) 2 true : State).canListens (1 : Fin 2).val = true) ∧ (((wcan false).wrB (Reg.CAN_STATUS 1) 2 true : State).bufPending (1 : Fin 2).val (63 : Nat) = false)) ∧
    (((wcan true : State).shaped) ∧ ((.sup : Initiator).resident = true) ∧ (bufsOf (true : Bool) (0x80000000 : Word) = [(63 : Nat)]) ∧ (((wcan true : State).ctl_ (1 : Fin 2).val).waiting = []) ∧ ((wcan true : State).bufPending (1 : Fin 2).val (63 : Nat) = true)) ∧
    (((wcan true : State).shaped) ∧ ((.sup : Initiator).resident = true) ∧ (bufsOf (true : Bool) (0x80000000 : Word) = [(63 : Nat)]) ∧ (((wcan true : State).ctl_ (1 : Fin 2).val).waiting = []) ∧ ((wcan true : State).bufPending (1 : Fin 2).val (63 : Nat) = true)) ∧
    (((wcan false : State).shaped) ∧ ((.sup : Initiator).resident = true) ∧ (bufsOf (true : Bool) (0x80000000 : Word) = [(63 : Nat)]) ∧ (((wcan false : State).ctl_ (1 : Fin 2).val).waiting = []) ∧ ((wcan false : State).bufPending (1 : Fin 2).val (63 : Nat) = false)) ∧
    (((wcan true : State).shaped) ∧ (((wcan true : State).ctl_ (1 : Fin 2).val).waiting = []) ∧ (((wcan true : State).upTo (0 : Nat)).mayBegin (1 : Fin 2).val (63 : Fin 64).val (7 : Nat) (((wcan true : State).upTo (0 : Nat)).frameStart (1 : Fin 2).val (7 : Nat) (0 : Nat)) = true) ∧ ((wcan true : State).rdB (bufReg (1 : Fin 2).val 0x48 (63 : Fin 64).val) ((63 : Fin 64).val % 32) = false)) ∧
    (((wcan true : State).shaped) ∧ (((wcan true : State).ctl_ (1 : Fin 2).val).waiting = []) ∧ (((wcan true : State).upTo (0 : Nat)).mayBegin (1 : Fin 2).val (63 : Fin 64).val (7 : Nat) (((wcan true : State).upTo (0 : Nat)).frameStart (1 : Fin 2).val (7 : Nat) (0 : Nat)) = true) ∧ ((wcan true : State).rdB (bufReg (1 : Fin 2).val 0x48 (63 : Fin 64).val) ((63 : Fin 64).val % 32) = false) ∧ ((wcan true : State).aon.flushing = false)) ∧
    (((wcan true : State).shaped) ∧ (((wcan true : State).ctl_ (1 : Fin 2).val).waiting = []) ∧ (((wcan true : State).upTo (0 : Nat)).mayBegin (1 : Fin 2).val (63 : Fin 64).val (7 : Nat) (((wcan true : State).upTo (0 : Nat)).frameStart (1 : Fin 2).val (7 : Nat) (0 : Nat)) = true) ∧ ((wcan true : State).rdB (bufReg (1 : Fin 2).val 0x48 (63 : Fin 64).val) ((63 : Fin 64).val % 32) = false) ∧ ((wcan true : State).aon.flushing = false) ∧ ((wcan true : State).rdF (Reg.CAN_ERR (1 : Fin 2).val) 7 0 < 248)) ∧
    (((let s := wcan true; s.setCtl 1 { s.ctl_ 1 with ratesDue := true } : State).shaped) ∧ (((let s := wcan true; s.setCtl 1 { s.ctl_ 1 with ratesDue := true } : State).ctl_ (1 : Fin 2).val).ratesDue = true)) ∧
    ((((wcan true).wrB (Reg.CAN_CTRL 1) 1 true : State).shaped) ∧ (((wcan true).wrB (Reg.CAN_CTRL 1) 1 true : State).rdB (Reg.CAN_CTRL (1 : Fin 2).val) 1 ≠ ((wcan true).wrB (Reg.CAN_CTRL 1) 1 true : State).canListens (1 : Fin 2).val)) ∧
    (((((wcan false).wrF (Reg.CAN_STATUS 1) 1 0 2).wrB (Reg.CAN_CTRL 1) 8 true : State).rdF (Reg.CAN_STATUS (1 : Fin 2).val) 1 0 = 2) ∧ (((((wcan false).wrF (Reg.CAN_STATUS 1) 1 0 2).wrB (Reg.CAN_CTRL 1) 8 true : State).rdB (Reg.CAN_CTRL (1 : Fin 2).val) 8 = true ∨ ((((wcan false).wrF (Reg.CAN_STATUS 1) 1 0 2).wrB (Reg.CAN_CTRL 1) 8 true : State).ctl_ (1 : Fin 2).val).recover = true))) :=
  by
  refine ⟨?_, ?_, ?_, ?_, ?_, ?_, ?_, ?_, ?_, ?_, ?_, ?_, ?_, ?_, ?_, ?_, ?_, ?_⟩ <;> first | decide +kernel | (try unfold State.shaped ; decide +kernel)

/-- TimetableAndBell: its hypotheses are met, clause by clause. -/
theorem witness_TimetableAndBell :
    (((wbell : State).shaped) ∧ ((wbell : State).canTimed (1 : Fin 2).val = true) ∧ ((0 : Fin 32).val < ((wbell : State).ctl_ (1 : Fin 2).val).table.cols.length) ∧ (80 * ((wbell : State).ctl_ (1 : Fin 2).val).table.cols.getD (0 : Fin 32).val 0 ≤ countsSince ((wbell : State).ctl_ (1 : Fin 2).val).cycleCount (128000 : Nat))) ∧
    (((wbell.wr (Reg.CAN_CYCLE_LEN 1) 999 : State).tableBad (1 : Fin 2).val ((wbell.wr (Reg.CAN_CYCLE_LEN 1) 999 : State).tableStaged (1 : Fin 2).val) ≠ 0)) ∧
    ((((wbell.wr (Reg.CAN_COLS 1) 1).wrN (canBase 1 + 0x8800) 0x80 : State).tableBad (1 : Fin 2).val (((wbell.wr (Reg.CAN_COLS 1) 1).wrN (canBase 1 + 0x8800) 0x80 : State).tableStaged (1 : Fin 2).val) = 0) ∧ (((wbell.wr (Reg.CAN_COLS 1) 1).wrN (canBase 1 + 0x8800) 0x80 : State).rdB (Reg.CAN_CTRL (1 : Fin 2).val) 0 = true)) ∧
    (((wbell.wrB (Reg.CAN_STATUS 1) 4 true : State).shaped) ∧ ((wbell.wrB (Reg.CAN_STATUS 1) 4 true : State).canSends (1 : Fin 2).val = true) ∧ ((wbell.wrB (Reg.CAN_STATUS 1) 4 true : State).rdB (Reg.CAN_CTRL (1 : Fin 2).val) 2 = true) ∧ ((wbell.wrB (Reg.CAN_STATUS 1) 4 true : State).rdB (Reg.CAN_STATUS (1 : Fin 2).val) 4 = true) ∧ (((wbell.wrB (Reg.CAN_STATUS 1) 4 true : State).ctl_ (1 : Fin 2).val).table.cycles ≤ 64) ∧ (0 < ((wbell.wrB (Reg.CAN_STATUS 1) 4 true : State).ctl_ (1 : Fin 2).val).table.cycles) ∧ (((true : Bool) = true ∨ ((wbell.wrB (Reg.CAN_STATUS 1) 4 true : State).ctl_ (1 : Fin 2).val).onGrid ((wbell.wrB (Reg.CAN_STATUS 1) 4 true : State).ctl_ (1 : Fin 2).val).nextShift (0 : Nat) = true))) ∧
    (((wbell : State).shaped) ∧ ((wbell : State).canOn (1 : Fin 2).val = true) ∧ ((wbell : State).rdB (Reg.CAN_CTRL (1 : Fin 2).val) 2 = true) ∧ (((wbell : State).rdB (Reg.CAN_STATUS (1 : Fin 2).val) 4 = false ∨ (3 : Fin 8).val ≤ (wbell : State).rdF (Reg.CAN_CTRL (1 : Fin 2).val) 7 5))) ∧
    (((wbell.wrB (Reg.CAN_STATUS 1) 4 true : State).rdB (Reg.CAN_STATUS (1 : Fin 2).val) 4 = true) ∧ ((wbell.wrB (Reg.CAN_STATUS 1) 4 true : State).rdF (Reg.CAN_CTRL (1 : Fin 2).val) 7 5 < (3 : Fin 8).val)) ∧
    (((wbell : State).shaped) ∧ ((wbell : State).canSends (1 : Fin 2).val = true) ∧ ((wbell : State).rdB (Reg.CAN_CTRL (1 : Fin 2).val) 2 = true) ∧ ((wbell : State).rdB (Reg.CAN_STATUS (1 : Fin 2).val) 3 = true) ∧ ((wbell : State).bellRole (1 : Fin 2).val ≠ 0) ∧ (80 * (((wbell : State).ctl_ (1 : Fin 2).val).table.len + (wbell : State).objN 0x2700 0x0C) ≤ countsSince ((wbell : State).ctl_ (1 : Fin 2).val).cycleCount (1600000 : Nat))) ∧
    ((((wbell : State).ctl_ (1 : Fin 2).val).cycleAt = some (1749999999100000000 : Nat)) ∧ ((wbell : State).rdB (Reg.CAN_STATUS (1 : Fin 2).val) 3 = true) ∧ ((1749999999100000000 : Nat) * 2 + (((wbell : State).ctl_ (1 : Fin 2).val).table.len + 2 * (wbell : State).objN 0x2700 0x0C) * 2000 + (wbell : State).canDuration (1 : Fin 2).val { id := 0, brs := false, data := List.replicate 12 0 } * 25 ≤ 2 * max (wbell : State).time.now (0 : Nat))) ∧
    (((wcan false : State).shaped) ∧ ((wcan false : State).rdB (Reg.CAN_CTRL (1 : Fin 2).val) 0 = true) ∧ ((wcan false : State).clockPresent .canf = true) ∧ ((wcan false : State).canTimed (1 : Fin 2).val = false) ∧ ((((wcan false : State).ctl_ (1 : Fin 2).val).mark = none ∨ 80 * ((wcan false : State).ctl_ (1 : Fin 2).val).table.len ≤ countsSince ((wcan false : State).ctl_ (1 : Fin 2).val).cycleCount (128000 : Nat)))) :=
  by
  refine ⟨?_, ?_, ?_, ?_, ?_, ?_, ?_, ?_, ?_⟩ <;> first | decide +kernel | (try unfold State.shaped ; decide +kernel)

/-- RollCallFindsThePeripherals: its hypotheses are met, clause by clause. -/
theorem witness_RollCallFindsThePeripherals :
    ((((wcan false).setCtl 1 { (wcan false).ctl_ 1 with partials := [{ node := 5, dst := 1, index := 2, bytes := [1], at_ := 1749999999000000000 }] } : State).shaped) ∧ ((((wcan false).setCtl 1 { (wcan false).ctl_ 1 with partials := [{ node := 5, dst := 1, index := 2, bytes := [1], at_ := 1749999999000000000 }] } : State).ctl_ (1 : Fin 2).val).partials = [({ node := 5, dst := 1, index := 2, bytes := [1], at_ := 1749999999000000000 } : Partial)]) ∧ (({ node := 5, dst := 1, index := 2, bytes := [1], at_ := 1749999999000000000 } : Partial).node = (5 : Nat)) ∧ (({ node := 5, dst := 1, index := 2, bytes := [1], at_ := 1749999999000000000 } : Partial).at_ + 100000000 < max ((wcan false).setCtl 1 { (wcan false).ctl_ 1 with partials := [{ node := 5, dst := 1, index := 2, bytes := [1], at_ := 1749999999000000000 }] } : State).time.now (1749999999200000000 : Nat))) ∧
    ((((wcan false).setCtl 1 { (wcan false).ctl_ 1 with partials := [{ node := 5, dst := 1, index := 2, bytes := [1], at_ := 1749999999100000000 }] } : State).shaped) ∧ ((((wcan false).setCtl 1 { (wcan false).ctl_ 1 with partials := [{ node := 5, dst := 1, index := 2, bytes := [1], at_ := 1749999999100000000 }] } : State).ctl_ (1 : Fin 2).val).partials = [({ node := 5, dst := 1, index := 2, bytes := [1], at_ := 1749999999100000000 } : Partial)]) ∧ (({ node := 5, dst := 1, index := 2, bytes := [1], at_ := 1749999999100000000 } : Partial).node = (5 : Nat)) ∧ (max ((wcan false).setCtl 1 { (wcan false).ctl_ 1 with partials := [{ node := 5, dst := 1, index := 2, bytes := [1], at_ := 1749999999100000000 }] } : State).time.now (0 : Nat) ≤ ({ node := 5, dst := 1, index := 2, bytes := [1], at_ := 1749999999100000000 } : Partial).at_ + 100000000)) ∧
    (((1750000000000000000 : Nat) % 1000000000 = 0) ∧ ((wcan false : State).mode.mode ≠ .standby) ∧ ((wcan false : State).mode.mode ≠ .starting) ∧ ((wcan false : State).mode.mode ≠ .batteryWatch) ∧ ((wcan false : State).mode.mode ≠ .deepSleep)) ∧
    ((((1749999999200000000 : Nat) % 1000000000 ≠ 0 ∨ (wcan false : State).mode.mode = .standby))) ∧
    ((1 ≤ (5 : Nat)) ∧ ((5 : Nat) ≤ 126) ∧ (((wnode 2 8 : State).ctl_ (1 : Fin 2).val).callAt = some (1749999999000000000 : Nat)) ∧ (leAt (wpb (wnode 2 8) : List (BitVec 8)) 0 4 = (wnode 2 8 : State).can.round) ∧ (leAt (wpb (wnode 2 8) : List (BitVec 8)) 5 1 = (wnode 2 8 : State).entry (5 : Nat) 6) ∧ (2 ≤ (wnode 2 8 : State).entry (5 : Nat) 3) ∧ ((1749999999200000000 : Nat) ≤ (1749999999000000000 : Nat) + 200000000) ∧ ((wnode 2 8 : State).chainCheck 24 = .ok) ∧ (slice (wpb (wnode 2 8) : List (BitVec 8)) 8 8 = (wnode 2 8 : State).presentMic (5 : Nat) (wpb (wnode 2 8) : List (BitVec 8)))) ∧
    ((1 ≤ (5 : Nat)) ∧ ((5 : Nat) ≤ 126) ∧ (((((((wcan false).setObj (0x2780 + 5) 1 (List.replicate 8 6)).setObjN (0x2780 + 5) 3 1 2).setObjN (0x2780 + 5) 8 2 8).setCtl 1 { (wcan false).ctl_ 1 with callAt := some 1749999999000000000 } : State).ctl_ (1 : Fin 2).val).callAt = some (1749999999000000000 : Nat)) ∧ (leAt ([0, 0, 0, 0, 0, 0] : List (BitVec 8)) 0 4 = (((((wcan false).setObj (0x2780 + 5) 1 (List.replicate 8 6)).setObjN (0x2780 + 5) 3 1 2).setObjN (0x2780 + 5) 8 2 8).setCtl 1 { (wcan false).ctl_ 1 with callAt := some 1749999999000000000 } : State).can.round) ∧ (leAt ([0, 0, 0, 0, 0, 0] : List (BitVec 8)) 5 1 = (((((wcan false).setObj (0x2780 + 5) 1 (List.replicate 8 6)).setObjN (0x2780 + 5) 3 1 2).setObjN (0x2780 + 5) 8 2 8).setCtl 1 { (wcan false).ctl_ 1 with callAt := some 1749999999000000000 } : State).entry (5 : Nat) 6) ∧ (2 ≤ (((((wcan false).setObj (0x2780 + 5) 1 (List.replicate 8 6)).setObjN (0x2780 + 5) 3 1 2).setObjN (0x2780 + 5) 8 2 8).setCtl 1 { (wcan false).ctl_ 1 with callAt := some 1749999999000000000 } : State).entry (5 : Nat) 3) ∧ (((((((wcan false).setObj (0x2780 + 5) 1 (List.replicate 8 6)).setObjN (0x2780 + 5) 3 1 2).setObjN (0x2780 + 5) 8 2 8).setCtl 1 { (wcan false).ctl_ 1 with callAt := some 1749999999000000000 } : State).chainCheck 24 ≠ .ok ∨ slice ([0, 0, 0, 0, 0, 0] : List (BitVec 8)) 8 8 ≠ (((((wcan false).setObj (0x2780 + 5) 1 (List.replicate 8 6)).setObjN (0x2780 + 5) 3 1 2).setObjN (0x2780 + 5) 8 2 8).setCtl 1 { (wcan false).ctl_ 1 with callAt := some 1749999999000000000 } : State).presentMic (5 : Nat) ([0, 0, 0, 0, 0, 0] : List (BitVec 8))))) ∧
    ((1 ≤ (5 : Nat)) ∧ ((5 : Nat) ≤ 126) ∧ (((((((wcan false).setObj (0x2780 + 5) 1 (List.replicate 8 6)).setObjN (0x2780 + 5) 3 1 2).setObjN (0x2780 + 5) 8 2 8).setCtl 1 { (wcan false).ctl_ 1 with callAt := some 1749999999000000000 } : State).ctl_ (1 : Fin 2).val).callAt = some (1749999999000000000 : Nat)) ∧ (leAt ([0, 0, 0, 0, 0, 0] : List (BitVec 8)) 0 4 = (((((wcan false).setObj (0x2780 + 5) 1 (List.replicate 8 6)).setObjN (0x2780 + 5) 3 1 2).setObjN (0x2780 + 5) 8 2 8).setCtl 1 { (wcan false).ctl_ 1 with callAt := some 1749999999000000000 } : State).can.round) ∧ (leAt ([0, 0, 0, 0, 0, 0] : List (BitVec 8)) 5 1 = (((((wcan false).setObj (0x2780 + 5) 1 (List.replicate 8 6)).setObjN (0x2780 + 5) 3 1 2).setObjN (0x2780 + 5) 8 2 8).setCtl 1 { (wcan false).ctl_ 1 with callAt := some 1749999999000000000 } : State).entry (5 : Nat) 6) ∧ (2 ≤ (((((wcan false).setObj (0x2780 + 5) 1 (List.replicate 8 6)).setObjN (0x2780 + 5) 3 1 2).setObjN (0x2780 + 5) 8 2 8).setCtl 1 { (wcan false).ctl_ 1 with callAt := some 1749999999000000000 } : State).entry (5 : Nat) 3) ∧ ((1749999999000000000 : Nat) + 200000000 < (1749999999200000001 : Nat))) ∧
    ((({ wb with can := { wb.can with rollOpen := some 1749999999000000000 } } : State).can.rollOpen = some (1749999999000000000 : Nat)) ∧ ((1749999999000000000 : Nat) + 200000000 ≤ max ({ wb with can := { wb.can with rollOpen := some 1749999999000000000 } } : State).time.now (1749999999200000000 : Nat))) ∧
    (((wcan false : State).can.rollOpen = none)) ∧
    (((∀ q, 1 ≤ q → q ≤ 126 → 1 ≤ (wcan false : State).entry q 3 → (wcan false : State).obj (0x2780 + q) 1 ≠ slice (List.replicate 8 6 ++ [0, 0, 9, 0] : List (BitVec 8)) 0 8))) ∧
    (((upFrom 1 126).find? (fun q => Nat.ble 1 (((((wcan false).setObj (0x2780 + 5) 1 (List.replicate 8 6)).setObjN (0x2780 + 5) 3 1 2).setObjN (0x2780 + 5) 8 2 9 : State).entry q 3) && decide (((((wcan false).setObj (0x2780 + 5) 1 (List.replicate 8 6)).setObjN (0x2780 + 5) 3 1 2).setObjN (0x2780 + 5) 8 2 9 : State).obj (0x2780 + q) 1 = slice (List.replicate 8 6 ++ [0, 0, 9, 0] : List (BitVec 8)) 0 8)) = some (5 : Nat)) ∧ ((((((wcan false).setObj (0x2780 + 5) 1 (List.replicate 8 6)).setObjN (0x2780 + 5) 3 1 2).setObjN (0x2780 + 5) 8 2 9 : State).chainCheck 1 ≠ .ok ∨ slice (List.replicate 8 6 ++ [0, 0, 9, 0] : List (BitVec 8)) 12 8 ≠ ((((wcan false).setObj (0x2780 + 5) 1 (List.replicate 8 6)).setObjN (0x2780 + 5) 3 1 2).setObjN (0x2780 + 5) 8 2 9 : State).announceMic (5 : Nat) (List.replicate 8 6 ++ [0, 0, 9, 0] : List (BitVec 8))))) ∧
    (((upFrom 1 126).find? (fun q => Nat.ble 1 ((wnode 2 9 : State).entry q 3) && decide ((wnode 2 9 : State).obj (0x2780 + q) 1 = slice (wab (wnode 2 9) : List (BitVec 8)) 0 8)) = some (5 : Nat)) ∧ ((wnode 2 9 : State).chainCheck 1 = .ok) ∧ (slice (wab (wnode 2 9) : List (BitVec 8)) 12 8 = (wnode 2 9 : State).announceMic (5 : Nat) (wab (wnode 2 9) : List (BitVec 8))) ∧ (leAt (wab (wnode 2 9) : List (BitVec 8)) 10 2 ≤ (wnode 2 9 : State).entry (5 : Nat) 8)) ∧
    (((upFrom 1 126).find? (fun q => Nat.ble 1 (((wnode 1 8).setObjN 0x2700 0x0D 1 0 : State).entry q 3) && decide (((wnode 1 8).setObjN 0x2700 0x0D 1 0 : State).obj (0x2780 + q) 1 = slice (wab ((wnode 1 8).setObjN 0x2700 0x0D 1 0) : List (BitVec 8)) 0 8)) = some (5 : Nat)) ∧ (((wnode 1 8).setObjN 0x2700 0x0D 1 0 : State).chainCheck 1 = .ok) ∧ (slice (wab ((wnode 1 8).setObjN 0x2700 0x0D 1 0) : List (BitVec 8)) 12 8 = ((wnode 1 8).setObjN 0x2700 0x0D 1 0 : State).announceMic (5 : Nat) (wab ((wnode 1 8).setObjN 0x2700 0x0D 1 0) : List (BitVec 8))) ∧ (((wnode 1 8).setObjN 0x2700 0x0D 1 0 : State).entry (5 : Nat) 8 < leAt (wab ((wnode 1 8).setObjN 0x2700 0x0D 1 0) : List (BitVec 8)) 10 2) ∧ (((wnode 1 8).setObjN 0x2700 0x0D 1 0 : State).objN 0x2700 0x0D = 0) ∧ (((wnode 1 8).setObjN 0x2700 0x0D 1 0 : State).entry (5 : Nat) 3 = 1)) ∧
    (((upFrom 1 126).find? (fun q => Nat.ble 1 ((wnode 4 8 : State).entry q 3) && decide ((wnode 4 8 : State).obj (0x2780 + q) 1 = slice (wab (wnode 4 8) : List (BitVec 8)) 0 8)) = some (5 : Nat)) ∧ ((wnode 4 8 : State).chainCheck 1 = .ok) ∧ ((wnode 4 8 : State).chainCheck 24 = .ok) ∧ (slice (wab (wnode 4 8) : List (BitVec 8)) 12 8 = (wnode 4 8 : State).announceMic (5 : Nat) (wab (wnode 4 8) : List (BitVec 8))) ∧ ((wnode 4 8 : State).entry (5 : Nat) 8 < leAt (wab (wnode 4 8) : List (BitVec 8)) 10 2) ∧ (((wnode 4 8 : State).objN 0x2700 0x0D ≠ 0 ∨ 2 ≤ (wnode 4 8 : State).entry (5 : Nat) 3))) :=
  by
  refine ⟨?_, ?_, ?_, ?_, ⟨by decide +kernel, by decide +kernel, by decide +kernel, by decide +kernel, by decide +kernel, by decide +kernel, by decide +kernel, by decide +kernel, wpb_mic _⟩, ?_, ?_, ?_, ?_, fun q h1 h2 => (by decide +kernel : ∀ q, q < 127 → 1 ≤ q → 1 ≤ (wcan false).entry q 3 → (wcan false).obj (0x2780 + q) 1 ≠ slice (List.replicate 8 6 ++ [0, 0, 9, 0]) 0 8) q (by omega) h1, ?_, ⟨by decide +kernel, by decide +kernel, wab_mic _, by decide +kernel⟩, ⟨by decide +kernel, by decide +kernel, wab_mic _, by decide +kernel, by decide +kernel, by decide +kernel⟩, ⟨by decide +kernel, by decide +kernel, by decide +kernel, wab_mic _, by decide +kernel, by decide +kernel⟩⟩ <;> first | decide +kernel | (try unfold State.shaped ; decide +kernel)

/-- OpticsAndLinks: its hypotheses are met, clause by clause. -/
theorem witness_OpticsAndLinks :
    (((wnet : State).rdB (Reg.NET_SFP (1 : Fin 2).val) 0 = true)) ∧
    (((wb : State).rdB (Reg.NET_SFP (1 : Fin 2).val) 0 = false)) ∧
    (((wb : State).rdB (Reg.NET_SFP (1 : Fin 2).val) 0 = false)) ∧
    (((wnet : State).rdB (Reg.NET_SFP (1 : Fin 2).val) 0 = true) ∧ ((wnet : State).net.cageOff.length = 2)) ∧
    (((wnet : State).rdB Reg.NET_CTRL (1 : Fin 2).val = true) ∧ ((wnet : State).clockPresent (portDomain (1 : Fin 2).val) = true) ∧ ((wnet : State).rdB (Reg.NET_SFP (1 : Fin 2).val) 0 = true) ∧ ((wnet : State).cageIsOff (1 : Fin 2).val = false)) ∧
    ((((wnet.setObjN 0x2800 0x0C 1 1).wrB Reg.NET_CTRL 2 true : State).objN 0x2800 0x0C = 1) ∧ (((wnet.setObjN 0x2800 0x0C 1 1).wrB Reg.NET_CTRL 2 true : State).rdB Reg.NET_CTRL 2 = true)) ∧
    (((wnet.setObjN 0x2800 0x0C 1 0 : State).objN 0x2800 0x0C ≠ 1)) :=
  by
  refine ⟨?_, ?_, ?_, ?_, ?_, ?_, ?_⟩ <;> decide +kernel

/-- RingFramesAreSwitched: its hypotheses are met, clause by clause. -/
theorem witness_RingFramesAreSwitched :
    ((((wb : State).rdB Reg.NET_CTRL (1 : Fin 3).val = false ∨ (wb : State).linked (1 : Fin 3).val = false))) ∧
    (((((wnet.wrB Reg.NET_CTRL 2 true).wrB Reg.NET_STATUS 2 true) : State).rdB Reg.NET_CTRL 2 = true) ∧ ((((wnet.wrB Reg.NET_CTRL 2 true).wrB Reg.NET_STATUS 2 true) : State).linked 2 = true) ∧ (1522 < (List.replicate 9219 0 : List (BitVec 8)).length + 4)) ∧
    (((((wnet.wrB Reg.NET_CTRL 2 true).wrB Reg.NET_STATUS 2 true).wr (Reg.DMA_CH_CFG 0) 0xD : State).rdB Reg.NET_CTRL 2 = true) ∧ ((((wnet.wrB Reg.NET_CTRL 2 true).wrB Reg.NET_STATUS 2 true).wr (Reg.DMA_CH_CFG 0) 0xD : State).linked 2 = true) ∧ (64 ≤ ([2, 2, 2, 2, 2, 2] ++ [4, 4, 4, 4, 4, 4, 8, 0] ++ List.replicate 50 0 : List (BitVec 8)).length + 4) ∧ (([2, 2, 2, 2, 2, 2] ++ [4, 4, 4, 4, 4, 4, 8, 0] ++ List.replicate 50 0 : List (BitVec 8)).length + 4 ≤ 1522) ∧ (isLldp ([2, 2, 2, 2, 2, 2] ++ [4, 4, 4, 4, 4, 4, 8, 0] ++ List.replicate 50 0 : List (BitVec 8)) = false) ∧ (([2, 2, 2, 2, 2, 2] ++ [4, 4, 4, 4, 4, 4, 8, 0] ++ List.replicate 50 0 : List (BitVec 8)).take 6 = (((wnet.wrB Reg.NET_CTRL 2 true).wrB Reg.NET_STATUS 2 true).wr (Reg.DMA_CH_CFG 0) 0xD : State).hostMac) ∧ ((((wnet.wrB Reg.NET_CTRL 2 true).wrB Reg.NET_STATUS 2 true).wr (Reg.DMA_CH_CFG 0) 0xD : State).rxChannel ((((wnet.wrB Reg.NET_CTRL 2 true).wrB Reg.NET_STATUS 2 true).wr (Reg.DMA_CH_CFG 0) 0xD : State).hostChannel 2 (ethHead (untag ([2, 2, 2, 2, 2, 2] ++ [4, 4, 4, 4, 4, 4, 8, 0] ++ List.replicate 50 0 : List (BitVec 8)))).etype) 2 = true) ∧ ((((wnet.wrB Reg.NET_CTRL 2 true).wrB Reg.NET_STATUS 2 true).wr (Reg.DMA_CH_CFG 0) 0xD : State).hostBytes + (untag ([2, 2, 2, 2, 2, 2] ++ [4, 4, 4, 4, 4, 4, 8, 0] ++ List.replicate 50 0 : List (BitVec 8))).length + 4 ≤ 524288)) ∧
    (((1 : Fin 3).val < 2) ∧ ((wnet : State).rdB Reg.NET_CTRL (1 : Fin 3).val = true) ∧ ((wnet : State).linked (1 : Fin 3).val = true) ∧ (((wnet : State).queue (if (1 : Fin 3).val = 0 then 8 else 10)).hold = false) ∧ (((wnet : State).queue (if (1 : Fin 3).val = 0 then 8 else 10)).stallRead = false) ∧ (((wnet : State).queue (if (1 : Fin 3).val = 0 then 8 else 10)).stallWrite = false) ∧ (9222 < (List.replicate 9219 0 : List (BitVec 8)).length + 4)) ∧
    (((1 : Fin 3).val < 2) ∧ ((wnet : State).rdB Reg.NET_CTRL (1 : Fin 3).val = true) ∧ ((wnet : State).linked (1 : Fin 3).val = true) ∧ (((wnet : State).queue (if (1 : Fin 3).val = 0 then 8 else 10)).hold = false) ∧ (((wnet : State).queue (if (1 : Fin 3).val = 0 then 8 else 10)).stallRead = false) ∧ (((wnet : State).queue (if (1 : Fin 3).val = 0 then 8 else 10)).stallWrite = false) ∧ ((List.replicate 59 0 : List (BitVec 8)).length + 4 < 64)) ∧
    (((1 : Fin 3).val < 2) ∧ ((wnet : State).rdB Reg.NET_CTRL (1 : Fin 3).val = true) ∧ ((wnet : State).linked (1 : Fin 3).val = true) ∧ (((wnet : State).queue (if (1 : Fin 3).val = 0 then 8 else 10)).hold = false) ∧ (((wnet : State).queue (if (1 : Fin 3).val = 0 then 8 else 10)).stallRead = false) ∧ (((wnet : State).queue (if (1 : Fin 3).val = 0 then 8 else 10)).stallWrite = false) ∧ (64 ≤ (List.replicate 60 0 : List (BitVec 8)).length + 4) ∧ ((List.replicate 60 0 : List (BitVec 8)).length + 4 ≤ 9222) ∧ ((wnet : State).rdB Reg.NET_STATUS 4 = true) ∧ ((ethHead (List.replicate 60 0 : List (BitVec 8))).seq = none)) ∧
    (((1 : Fin 3).val < 2) ∧ ((wnet : State).rdB Reg.NET_CTRL (1 : Fin 3).val = true) ∧ ((wnet : State).linked (1 : Fin 3).val = true) ∧ (((wnet : State).queue (if (1 : Fin 3).val = 0 then 8 else 10)).hold = false) ∧ (((wnet : State).queue (if (1 : Fin 3).val = 0 then 8 else 10)).stallRead = false) ∧ (((wnet : State).queue (if (1 : Fin 3).val = 0 then 8 else 10)).stallWrite = false) ∧ (64 ≤ ([2, 2, 2, 2, 2, 2] ++ [2, 2, 2, 2, 2, 2, 0x89, 0x2F, 0, 0, 0, 7, 8, 0] ++ List.replicate 40 0 : List (BitVec 8)).length + 4) ∧ (([2, 2, 2, 2, 2, 2] ++ [2, 2, 2, 2, 2, 2, 0x89, 0x2F, 0, 0, 0, 7, 8, 0] ++ List.replicate 40 0 : List (BitVec 8)).length + 4 ≤ 9222) ∧ ((wnet : State).rdB Reg.NET_STATUS 4 = true) ∧ ((ethHead ([2, 2, 2, 2, 2, 2] ++ [2, 2, 2, 2, 2, 2, 0x89, 0x2F, 0, 0, 0, 7, 8, 0] ++ List.replicate 40 0 : List (BitVec 8))).seq = some (7)) ∧ (slice ([2, 2, 2, 2, 2, 2] ++ [2, 2, 2, 2, 2, 2, 0x89, 0x2F, 0, 0, 0, 7, 8, 0] ++ List.replicate 40 0 : List (BitVec 8)) 6 6 = (wnet : State).hostMac)) ∧
    (((1 : Fin 3).val < 2) ∧ (({ wnet with net := { wnet.net with dups := [(0x040404040404, 7, 1749999999123456789)] } } : State).rdB Reg.NET_CTRL (1 : Fin 3).val = true) ∧ (({ wnet with net := { wnet.net with dups := [(0x040404040404, 7, 1749999999123456789)] } } : State).linked (1 : Fin 3).val = true) ∧ ((({ wnet with net := { wnet.net with dups := [(0x040404040404, 7, 1749999999123456789)] } } : State).queue (if (1 : Fin 3).val = 0 then 8 else 10)).hold = false) ∧ ((({ wnet with net := { wnet.net with dups := [(0x040404040404, 7, 1749999999123456789)] } } : State).queue (if (1 : Fin 3).val = 0 then 8 else 10)).stallRead = false) ∧ ((({ wnet with net := { wnet.net with dups := [(0x040404040404, 7, 1749999999123456789)] } } : State).queue (if (1 : Fin 3).val = 0 then 8 else 10)).stallWrite = false) ∧ (64 ≤ (hf [2, 2, 2, 2, 2, 2] : List (BitVec 8)).length + 4) ∧ ((hf [2, 2, 2, 2, 2, 2] : List (BitVec 8)).length + 4 ≤ 9222) ∧ (({ wnet with net := { wnet.net with dups := [(0x040404040404, 7, 1749999999123456789)] } } : State).rdB Reg.NET_STATUS 4 = true) ∧ ((ethHead (hf [2, 2, 2, 2, 2, 2] : List (BitVec 8))).seq = some (7)) ∧ (slice (hf [2, 2, 2, 2, 2, 2] : List (BitVec 8)) 6 6 ≠ ({ wnet with net := { wnet.net with dups := [(0x040404040404, 7, 1749999999123456789)] } } : State).hostMac) ∧ ((({ wnet with net := { wnet.net with dups := [(0x040404040404, 7, 1749999999123456789)] } } : State).upTo ((6999999996493827156 : Nat) / 4)).dupHeld (beAt (hf [2, 2, 2, 2, 2, 2] : List (BitVec 8)) 6 6) (7) = true)) ∧
    (((1 : Fin 3).val < 2) ∧ ((wnet : State).rdB Reg.NET_CTRL (1 : Fin 3).val = true) ∧ ((wnet : State).linked (1 : Fin 3).val = true) ∧ (((wnet : State).queue (if (1 : Fin 3).val = 0 then 8 else 10)).hold = false) ∧ (((wnet : State).queue (if (1 : Fin 3).val = 0 then 8 else 10)).stallRead = false) ∧ (((wnet : State).queue (if (1 : Fin 3).val = 0 then 8 else 10)).stallWrite = false) ∧ (64 ≤ (hf [6, 6, 6, 6, 6, 6] : List (BitVec 8)).length + 4) ∧ ((hf [6, 6, 6, 6, 6, 6] : List (BitVec 8)).length + 4 ≤ 9222) ∧ ((wnet : State).rdB Reg.NET_STATUS 4 = true) ∧ ((ethHead (hf [6, 6, 6, 6, 6, 6] : List (BitVec 8))).seq = some (7)) ∧ (slice (hf [6, 6, 6, 6, 6, 6] : List (BitVec 8)) 6 6 ≠ (wnet : State).hostMac) ∧ (((wnet : State).upTo ((6999999996493827156 : Nat) / 4)).dupHeld (beAt (hf [6, 6, 6, 6, 6, 6] : List (BitVec 8)) 6 6) (7) = false) ∧ (isLldp (hf [6, 6, 6, 6, 6, 6] : List (BitVec 8)) = false) ∧ ((hf [6, 6, 6, 6, 6, 6] : List (BitVec 8)).take 6 ≠ (wnet : State).hostMac) ∧ (groupAddr (hf [6, 6, 6, 6, 6, 6] : List (BitVec 8)) = false) ∧ (ptpAt (hf [6, 6, 6, 6, 6, 6] : List (BitVec 8)) = none) ∧ ((wnet : State).linked (1 - (1 : Fin 3).val) = true) ∧ ((wnet : State).rdB Reg.NET_CTRL (1 - (1 : Fin 3).val) = true) ∧ ((wnet : State).egressBytes (1 - (1 : Fin 3).val) + (hf [6, 6, 6, 6, 6, 6] : List (BitVec 8)).length ≤ 262144) ∧ ((wnet : State).net.line.length = 3)) ∧
    (((1 : Fin 3).val < 2) ∧ ((wnet.wr (Reg.DMA_CH_CFG 0) 5 : State).rdB Reg.NET_CTRL (1 : Fin 3).val = true) ∧ ((wnet.wr (Reg.DMA_CH_CFG 0) 5 : State).linked (1 : Fin 3).val = true) ∧ (((wnet.wr (Reg.DMA_CH_CFG 0) 5 : State).queue (if (1 : Fin 3).val = 0 then 8 else 10)).hold = false) ∧ (((wnet.wr (Reg.DMA_CH_CFG 0) 5 : State).queue (if (1 : Fin 3).val = 0 then 8 else 10)).stallRead = false) ∧ (((wnet.wr (Reg.DMA_CH_CFG 0) 5 : State).queue (if (1 : Fin 3).val = 0 then 8 else 10)).stallWrite = false) ∧ (64 ≤ (hf [2, 2, 2, 2, 2, 2] : List (BitVec 8)).length + 4) ∧ ((hf [2, 2, 2, 2, 2, 2] : List (BitVec 8)).length + 4 ≤ 9222) ∧ ((wnet.wr (Reg.DMA_CH_CFG 0) 5 : State).rdB Reg.NET_STATUS 4 = true) ∧ ((ethHead (hf [2, 2, 2, 2, 2, 2] : List (BitVec 8))).seq = some (7)) ∧ (slice (hf [2, 2, 2, 2, 2, 2] : List (BitVec 8)) 6 6 ≠ (wnet.wr (Reg.DMA_CH_CFG 0) 5 : State).hostMac) ∧ (((wnet.wr (Reg.DMA_CH_CFG 0) 5 : State).upTo ((6999999996493827156 : Nat) / 4)).dupHeld (beAt (hf [2, 2, 2, 2, 2, 2] : List (BitVec 8)) 6 6) (7) = false) ∧ (isLldp (hf [2, 2, 2, 2, 2, 2] : List (BitVec 8)) = false) ∧ ((hf [2, 2, 2, 2, 2, 2] : List (BitVec 8)).take 6 = (wnet.wr (Reg.DMA_CH_CFG 0) 5 : State).hostMac) ∧ ((wnet.wr (Reg.DMA_CH_CFG 0) 5 : State).rxChannel ((wnet.wr (Reg.DMA_CH_CFG 0) 5 : State).hostChannel (1 : Fin 3).val (ethHead (untag (hf [2, 2, 2, 2, 2, 2] : List (BitVec 8)))).etype) (1 : Fin 3).val = true) ∧ ((wnet.wr (Reg.DMA_CH_CFG 0) 5 : State).hostBytes + (untag (hf [2, 2, 2, 2, 2, 2] : List (BitVec 8))).length + 4 ≤ 524288) ∧ ((untag (hf [2, 2, 2, 2, 2, 2] : List (BitVec 8))).length + 4 ≤ 9216)) ∧
    (((wnet : State).rdB Reg.NET_STATUS 4 = true) ∧ ((wnet : State).linked 0 = true) ∧ ((wnet : State).linked 1 = true) ∧ ((wnet : State).net.line.length = 3)) ∧
    (((wnet : State).rdB Reg.NET_STATUS 4 = true) ∧ ((wnet : State).rdB Reg.NET_STATUS 3 = false) ∧ ((wnet : State).net.supAt + 3 * (wnet : State).rdF Reg.NET_HSR_CFG 23 8 * 1000000 ≤ max (wnet : State).time.now (0 : Nat))) ∧
    ((({ wnet with net := { wnet.net with supAt := 1749999999000000000 } } : State).rdB Reg.NET_STATUS 4 = true) ∧ (({ wnet with net := { wnet.net with supAt := 1749999999000000000 } } : State).rdB Reg.NET_STATUS 3 = false) ∧ (max ({ wnet with net := { wnet.net with supAt := 1749999999000000000 } } : State).time.now (0 : Nat) < ({ wnet with net := { wnet.net with supAt := 1749999999000000000 } } : State).net.supAt + 3 * ({ wnet with net := { wnet.net with supAt := 1749999999000000000 } } : State).rdF Reg.NET_HSR_CFG 23 8 * 1000000)) ∧
    (((wnet : State).linked (1 : Fin 3).val = true) ∧ ((wnet : State).coresRun = true) ∧ ((wnet : State).net.line.length = 3)) ∧
    ((((wb : State).linked (1 : Fin 3).val = false ∨ (wb : State).coresRun = false))) ∧
    ((({ wnet.setObj (0x2810 + 1) 5 (List.replicate 40 0) with net := { wnet.net with neighbourAt := [none, some 1749999990000000000, none] } } : State).net.neighbourAt.getD (1 : Fin 3).val none = some (1749999990000000000 : Nat)) ∧ ((1749999990000000000 : Nat) + leAt (({ wnet.setObj (0x2810 + 1) 5 (List.replicate 40 0) with net := { wnet.net with neighbourAt := [none, some 1749999990000000000, none] } } : State).obj (0x2810 + (1 : Fin 3).val) 5) 32 2 * 1000000000 ≤ max ({ wnet.setObj (0x2810 + 1) 5 (List.replicate 40 0) with net := { wnet.net with neighbourAt := [none, some 1749999990000000000, none] } } : State).time.now (0 : Nat))) ∧
    ((({ wnet.setObj (0x2810 + 1) 5 (List.replicate 32 0 ++ [10, 0, 0, 0, 0, 0, 0, 0]) with net := { wnet.net with neighbourAt := [none, some 1749999990000000000, none] } } : State).net.neighbourAt.getD (1 : Fin 3).val none = some (1749999990000000000 : Nat)) ∧ (max ({ wnet.setObj (0x2810 + 1) 5 (List.replicate 32 0 ++ [10, 0, 0, 0, 0, 0, 0, 0]) with net := { wnet.net with neighbourAt := [none, some 1749999990000000000, none] } } : State).time.now (0 : Nat) < (1749999990000000000 : Nat) + leAt (({ wnet.setObj (0x2810 + 1) 5 (List.replicate 32 0 ++ [10, 0, 0, 0, 0, 0, 0, 0]) with net := { wnet.net with neighbourAt := [none, some 1749999990000000000, none] } } : State).obj (0x2810 + (1 : Fin 3).val) 5) 32 2 * 1000000000)) :=
  by
  refine ⟨?_, ?_, ?_, ?_, ?_, ?_, ?_, ?_, ?_, ?_, ?_, ?_, ?_, ?_, ?_, ?_, ?_⟩ <;> decide +kernel

/-- DmaDescriptors: its hypotheses are met, clause by clause. -/
theorem witness_DmaDescriptors :
    (((wdma 0 64 : State).shaped) ∧ ((wdma 0 64 : State).rdB (Reg.DMA_CH_CFG (15 : Fin 16).val) 0 = true) ∧ ((wdma 0 64 : State).dmaHalted (15 : Fin 16).val = false) ∧ ((wdma 0 64 : State).aon.flushing = false) ∧ ((wdma 0 64 : State).dmaKind (15 : Fin 16).val ≠ 2) ∧ (((wdma 0 64 : State).dmaCh (15 : Fin 16).val).desc = none) ∧ ((wdma 0 64 : State).descOwned (15 : Fin 16).val 0 = some ([0, 0x10, 0, 0x98, 0, 1, 1, 0] ++ List.replicate 24 0 : List Byte)) ∧ (((wdma 0 64 : State).descCheck (15 : Fin 16).val ([0, 0x10, 0, 0x98, 0, 1, 1, 0] ++ List.replicate 24 0 : List Byte)).1 = 0)) ∧
    (((wdma 0 0 : State).shaped) ∧ ((wdma 0 0 : State).rdB (Reg.DMA_CH_CFG (15 : Fin 16).val) 0 = true) ∧ ((wdma 0 0 : State).dmaHalted (15 : Fin 16).val = false) ∧ ((wdma 0 0 : State).aon.flushing = false) ∧ ((wdma 0 0 : State).dmaKind (15 : Fin 16).val ≠ 2) ∧ (((wdma 0 0 : State).dmaCh (15 : Fin 16).val).desc = none) ∧ ((wdma 0 0 : State).descOwned (15 : Fin 16).val 0 = some ([0, 0x10, 0, 0x98, 0, 1, 1, 0] ++ List.replicate 24 0 : List Byte)) ∧ (((wdma 0 0 : State).descCheck (15 : Fin 16).val ([0, 0x10, 0, 0x98, 0, 1, 1, 0] ++ List.replicate 24 0 : List Byte)).1 ≠ 0)) ∧
    ((((wb : State).rdB (Reg.DMA_CH_CFG (15 : Fin 16).val) 0 = false ∨ (wb : State).dmaHalted (15 : Fin 16).val = true ∨ (wb : State).aon.flushing = true ∨ (wb : State).descOwned (15 : Fin 16).val 0 = none))) ∧
    (((wdd false : State).shaped) ∧ (((wdd false : State).dmaCh (15 : Fin 16).val).desc = some ({ bytes := [0, 0x10, 0, 0x98, 0, 1, 1, 0] ++ List.replicate 24 0, pairs := [(0x98002000, 64, 0x98003000)] } : DmaDesc)) ∧ (({ bytes := [0, 0x10, 0, 0x98, 0, 1, 1, 0] ++ List.replicate 24 0, pairs := [(0x98002000, 64, 0x98003000)] } : DmaDesc).waits = false) ∧ ((wdd false : State).dmaKind (15 : Fin 16).val = 0) ∧ ((wdd false : State).fault.errorAddr = none)) ∧
    (((wdd false : State).shaped) ∧ ((wdd false : State).fault.errorAddr = none) ∧ (((wdd false : State).dmaCh (15 : Fin 16).val).desc = some ({ bytes := [0, 0x10, 0, 0x98, 0, 1, 1, 0] ++ List.replicate 24 0, pairs := [(0x98002000, 64, 0x98003000)] } : DmaDesc)) ∧ ((wdd false : State).dmaKind (15 : Fin 16).val = 0) ∧ (admits true .dma ((wdd false : State).dmaGranted (15 : Fin 16).val) ((wdd false : State).descAddr (15 : Fin 16).val ((wdd false : State).dmaTail (15 : Fin 16).val)) 32 = true) ∧ (({ bytes := [0, 0x10, 0, 0x98, 0, 1, 1, 0] ++ List.replicate 24 0, pairs := [(0x98002000, 64, 0x98003000)] } : DmaDesc).bytes.length = 32)) ∧
    (((.sup : Initiator).resident = true) ∧ (((wdma 0 64).wrB (Reg.DMA_CH_STAT 15) 1 true : State).dmaHalted (15 : Fin 16).val = true)) ∧
    (((.sup : Initiator).resident = true) ∧ ((wdma 0 64 : State).dmaHalted (15 : Fin 16).val = false)) ∧
    (((.sup : Initiator).resident = true) ∧ ((wb : State).rdB (Reg.DMA_CH_CFG (15 : Fin 16).val) 0 = false)) ∧
    (((.sup : Initiator).resident = true) ∧ ((wdma 0 64 : State).shaped) ∧ ((wdma 0 64 : State).rdB (Reg.DMA_CH_CFG (15 : Fin 16).val) 0 = true)) ∧
    ((((wdma 2 64).wrF (Reg.DMA_CH_RING_SIZE 15) 12 0 0 : State).shaped) ∧ (((wdma 2 64).wrF (Reg.DMA_CH_RING_SIZE 15) 12 0 0 : State).rdB (Reg.DMA_CH_CFG (15 : Fin 16).val) 0 = true) ∧ (((wdma 2 64).wrF (Reg.DMA_CH_RING_SIZE 15) 12 0 0 : State).dmaKind (15 : Fin 16).val = 2) ∧ (((wdma 2 64).wrF (Reg.DMA_CH_RING_SIZE 15) 12 0 0 : State).dmaHalted (15 : Fin 16).val = false) ∧ (((wdma 2 64).wrF (Reg.DMA_CH_RING_SIZE 15) 12 0 0 : State).aon.flushing = false) ∧ (((wdma 2 64).wrF (Reg.DMA_CH_RING_SIZE 15) 12 0 0 : State).fault.errorAddr = none) ∧ (((wdma 2 64).wrF (Reg.DMA_CH_RING_SIZE 15) 12 0 0 : State).hostHead (15 : Fin 16).val = some ({ chan := 15, port := 0, bytes := List.replicate 64 1, q := 0, epoch := 0, headAt := some 1749999999000000000 } : HostFrame)) ∧ (0 < ((wdma 2 64).wrF (Reg.DMA_CH_RING_SIZE 15) 12 0 0 : State).dmaBuf (15 : Fin 16).val) ∧ (((wdma 2 64).wrF (Reg.DMA_CH_RING_SIZE 15) 12 0 0 : State).rdF (Reg.DMA_CH_RING_SIZE (15 : Fin 16).val) 12 0 < ((({ chan := 15, port := 0, bytes := List.replicate 64 1, q := 0, epoch := 0, headAt := some 1749999999000000000 } : HostFrame).bytes.length + ((wdma 2 64).wrF (Reg.DMA_CH_RING_SIZE 15) 12 0 0 : State).dmaBuf (15 : Fin 16).val - 1) / ((wdma 2 64).wrF (Reg.DMA_CH_RING_SIZE 15) 12 0 0 : State).dmaBuf (15 : Fin 16).val))) ∧
    ((((wdma 2 64).wrN (Reg.DMA_CH_HEAD 15) 0 : State).shaped) ∧ (((wdma 2 64).wrN (Reg.DMA_CH_HEAD 15) 0 : State).rdB (Reg.DMA_CH_CFG (15 : Fin 16).val) 0 = true) ∧ (((wdma 2 64).wrN (Reg.DMA_CH_HEAD 15) 0 : State).dmaKind (15 : Fin 16).val = 2) ∧ (((wdma 2 64).wrN (Reg.DMA_CH_HEAD 15) 0 : State).dmaHalted (15 : Fin 16).val = false) ∧ (((wdma 2 64).wrN (Reg.DMA_CH_HEAD 15) 0 : State).aon.flushing = false) ∧ (((wdma 2 64).wrN (Reg.DMA_CH_HEAD 15) 0 : State).fault.errorAddr = none) ∧ (((wdma 2 64).wrN (Reg.DMA_CH_HEAD 15) 0 : State).hostHead (15 : Fin 16).val = some ({ chan := 15, port := 0, bytes := List.replicate 64 1, q := 0, epoch := 0, headAt := some 1749999999000000000 } : HostFrame)) ∧ (0 < ((wdma 2 64).wrN (Reg.DMA_CH_HEAD 15) 0 : State).dmaBuf (15 : Fin 16).val) ∧ (((({ chan := 15, port := 0, bytes := List.replicate 64 1, q := 0, epoch := 0, headAt := some 1749999999000000000 } : HostFrame).bytes.length + ((wdma 2 64).wrN (Reg.DMA_CH_HEAD 15) 0 : State).dmaBuf (15 : Fin 16).val - 1) / ((wdma 2 64).wrN (Reg.DMA_CH_HEAD 15) 0 : State).dmaBuf (15 : Fin 16).val) ≤ ((wdma 2 64).wrN (Reg.DMA_CH_HEAD 15) 0 : State).rdF (Reg.DMA_CH_RING_SIZE (15 : Fin 16).val) 12 0) ∧ ((∃ i, i < ((({ chan := 15, port := 0, bytes := List.replicate 64 1, q := 0, epoch := 0, headAt := some 1749999999000000000 } : HostFrame).bytes.length + ((wdma 2 64).wrN (Reg.DMA_CH_HEAD 15) 0 : State).dmaBuf (15 : Fin 16).val - 1) / ((wdma 2 64).wrN (Reg.DMA_CH_HEAD 15) 0 : State).dmaBuf (15 : Fin 16).val) ∧ ((wdma 2 64).wrN (Reg.DMA_CH_HEAD 15) 0 : State).descOwned (15 : Fin 16).val i = none))) ∧
    (((wdma 2 64 : State).shaped) ∧ ((wdma 2 64 : State).rdB (Reg.DMA_CH_CFG (15 : Fin 16).val) 0 = true) ∧ ((wdma 2 64 : State).dmaKind (15 : Fin 16).val = 2) ∧ ((wdma 2 64 : State).dmaHalted (15 : Fin 16).val = false) ∧ ((wdma 2 64 : State).aon.flushing = false) ∧ ((wdma 2 64 : State).fault.errorAddr = none) ∧ ((wdma 2 64 : State).hostHead (15 : Fin 16).val = some ({ chan := 15, port := 0, bytes := List.replicate 64 1, q := 0, epoch := 0, headAt := some 1749999999000000000 } : HostFrame)) ∧ (0 < (wdma 2 64 : State).dmaBuf (15 : Fin 16).val) ∧ (((({ chan := 15, port := 0, bytes := List.replicate 64 1, q := 0, epoch := 0, headAt := some 1749999999000000000 } : HostFrame).bytes.length + (wdma 2 64 : State).dmaBuf (15 : Fin 16).val - 1) / (wdma 2 64 : State).dmaBuf (15 : Fin 16).val) = 1) ∧ (1 ≤ (wdma 2 64 : State).rdF (Reg.DMA_CH_RING_SIZE (15 : Fin 16).val) 12 0) ∧ ((wdma 2 64 : State).descOwned (15 : Fin 16).val 0 = some ([0, 0x10, 0, 0x98, 0, 1, 1, 0] ++ List.replicate 24 0)) ∧ (((wdma 2 64 : State).descCheck (15 : Fin 16).val ([0, 0x10, 0, 0x98, 0, 1, 1, 0] ++ List.replicate 24 0)).1 = 0)) ∧
    ((((wdma 2 64).wrB (Reg.DMA_CH_STAT 15) 4 true : State).hostHead (15 : Fin 16).val = some ({ chan := 15, port := 0, bytes := List.replicate 64 1, q := 0, epoch := 0, headAt := some 1749999999000000000 } : HostFrame)) ∧ (({ chan := 15, port := 0, bytes := List.replicate 64 1, q := 0, epoch := 0, headAt := some 1749999999000000000 } : HostFrame).headAt = some (1749999999000000000 : Nat)) ∧ (((wdma 2 64).wrB (Reg.DMA_CH_STAT 15) 4 true : State).rdB (Reg.DMA_CH_STAT (15 : Fin 16).val) 4 = true) ∧ ((1749999999000000000 : Nat) + 1000000 ≤ max ((wdma 2 64).wrB (Reg.DMA_CH_STAT 15) 4 true : State).time.now (0 : Nat))) ∧
    ((({ (wdma 2 64).wrB (Reg.DMA_CH_STAT 15) 4 true with time := { wb.time with now := 1749999999000000000 } } : State).hostHead (15 : Fin 16).val = some ({ chan := 15, port := 0, bytes := List.replicate 64 1, q := 0, epoch := 0, headAt := some 1749999999000000000 } : HostFrame)) ∧ (({ chan := 15, port := 0, bytes := List.replicate 64 1, q := 0, epoch := 0, headAt := some 1749999999000000000 } : HostFrame).headAt = some (1749999999000000000 : Nat)) ∧ (({ (wdma 2 64).wrB (Reg.DMA_CH_STAT 15) 4 true with time := { wb.time with now := 1749999999000000000 } } : State).rdB (Reg.DMA_CH_STAT (15 : Fin 16).val) 4 = true) ∧ (max ({ (wdma 2 64).wrB (Reg.DMA_CH_STAT 15) 4 true with time := { wb.time with now := 1749999999000000000 } } : State).time.now (1749999999000999999 : Nat) < (1749999999000000000 : Nat) + 1000000)) ∧
    (((wb : State).egressNext (2 : Fin 3).val = none)) ∧
    ((({ wb.wrF Reg.NET_STATUS 2 0 4 with net := { wb.net with egress := [{ port := 2, cls := 0, chan := 3, frameId := 4, stamp := false, wb := true, bytes := [1] }] } } : State).egressNext (2 : Fin 3).val = some ({ port := 2, cls := 0, chan := 3, frameId := 4, stamp := false, wb := true, bytes := [1] } : TxEntry)) ∧ (({ port := 2, cls := 0, chan := 3, frameId := 4, stamp := false, wb := true, bytes := [1] } : TxEntry).stamp = false) ∧ (({ wb.wrF Reg.NET_STATUS 2 0 4 with net := { wb.net with egress := [{ port := 2, cls := 0, chan := 3, frameId := 4, stamp := false, wb := true, bytes := [1] }] } } : State).net.line.length = 3) ∧ (({ wb.wrF Reg.NET_STATUS 2 0 4 with net := { wb.net with egress := [{ port := 2, cls := 0, chan := 3, frameId := 4, stamp := false, wb := true, bytes := [1] }] } } : State).linked (2 : Fin 3).val = true)) ∧
    ((({ wb.wrF Reg.NET_STATUS 2 0 3 with net := { wb.net with egress := [{ port := 2, cls := 0, chan := 3, frameId := 4, stamp := false, wb := true, bytes := [1] }] } } : State).egressNext (2 : Fin 3).val = some ({ port := 2, cls := 0, chan := 3, frameId := 4, stamp := false, wb := true, bytes := [1] } : TxEntry)) ∧ (({ port := 2, cls := 0, chan := 3, frameId := 4, stamp := false, wb := true, bytes := [1] } : TxEntry).stamp = false) ∧ (({ wb.wrF Reg.NET_STATUS 2 0 3 with net := { wb.net with egress := [{ port := 2, cls := 0, chan := 3, frameId := 4, stamp := false, wb := true, bytes := [1] }] } } : State).net.line.length = 3) ∧ (({ wb.wrF Reg.NET_STATUS 2 0 3 with net := { wb.net with egress := [{ port := 2, cls := 0, chan := 3, frameId := 4, stamp := false, wb := true, bytes := [1] }] } } : State).linked (2 : Fin 3).val = false)) :=
  by
  refine ⟨?_, ?_, ?_, ?_, ?_, ?_, ?_, ?_, ?_, ?_, (by refine ⟨?_, ?_, ?_, ?_, ?_, ?_, ?_, ?_, ?_, 0, ?_, ?_⟩ <;> first | decide +kernel | (unfold State.shaped; decide +kernel)), ?_, ?_, ?_, ?_, ?_, ?_⟩ <;> first | decide +kernel | (try unfold State.shaped ; decide +kernel)

/-- LoopTicksApplySettingsAndSteerTheSupply: its hypotheses are met, clause by clause. -/
theorem witness_LoopTicksApplySettingsAndSteerTheSupply :
    ((({ wb with aon := { wb.aon with appOff := true } } : State).snk.chans.length = 24) ∧ (({ wb with aon := { wb.aon with appOff := true } } : State).aon.appOff = true)) ∧
    (((wb : State).snk.chans.length = 24) ∧ ((wb : State).aon.appOff = false)) :=
  by
  refine ⟨?_, ?_⟩ <;> decide +kernel

/-- SinkChannelsAreCutDeratedAndFlagged: its hypotheses are met, clause by clause. -/
theorem witness_SinkChannelsAreCutDeratedAndFlagged :
    (((let s := wb.wrB Reg.SNK_CTRL 0 true; { s with snk := { s.snk with chans := setAt s.snk.chans 23 { cfg := 0x10FFF } } } : State).snk.chans.length = 24) ∧ ((let s := wb.wrB Reg.SNK_CTRL 0 true; { s with snk := { s.snk with chans := setAt s.snk.chans 23 { cfg := 0x10FFF } } } : State).snkOn = true ∧ bit ((let s := wb.wrB Reg.SNK_CTRL 0 true; { s with snk := { s.snk with chans := setAt s.snk.chans 23 { cfg := 0x10FFF } } } : State).snkCh (23 : Fin 24).val).cfg 16 = true ∧ (let s := wb.wrB Reg.SNK_CTRL 0 true; { s with snk := { s.snk with chans := setAt s.snk.chans 23 { cfg := 0x10FFF } } } : State).snkCut (23 : Fin 24).val = false)) ∧
    (((wb : State).snk.chans.length = 24) ∧ (¬((wb : State).snkOn = true ∧ bit ((wb : State).snkCh (23 : Fin 24).val).cfg 16 = true ∧ (wb : State).snkCut (23 : Fin 24).val = false))) ∧
    ((((.app2 : Initiator) = .app3 → (wb : State).permAdmits 0x10 true = true))) ∧
    (((wb : State).aon.appOff = false) ∧ ((wb : State).snk.factors.length = 3)) ∧
    (((if (true : Bool) then (({ wb with snk := { wb.snk with chans := setAt wb.snk.chans 23 { shortOn := some 1749999999000000000 } } } : State).snkCh (23 : Fin 24).val).shortOn else (({ wb with snk := { wb.snk with chans := setAt wb.snk.chans 23 { shortOn := some 1749999999000000000 } } } : State).snkCh (23 : Fin 24).val).openOn) = some (1749999999000000000 : Nat)) ∧ ((1749999999000000000 : Nat) + 10000000 ≤ max ({ wb with snk := { wb.snk with chans := setAt wb.snk.chans 23 { shortOn := some 1749999999000000000 } } } : State).time.now (0 : Nat)) ∧ (({ wb with snk := { wb.snk with chans := setAt wb.snk.chans 23 { shortOn := some 1749999999000000000 } } } : State).rdB (Reg.SNK_CH_STAT (23 : Fin 24).val) (if (true : Bool) then 3 else 2) = false)) ∧
    (((if (true : Bool) then (({ wb with snk := { wb.snk with chans := setAt wb.snk.chans 23 { shortOff := some 1749999999000000000 } } } : State).snkCh (23 : Fin 24).val).shortOff else (({ wb with snk := { wb.snk with chans := setAt wb.snk.chans 23 { shortOff := some 1749999999000000000 } } } : State).snkCh (23 : Fin 24).val).openOff) = some (1749999999000000000 : Nat)) ∧ ((1749999999000000000 : Nat) + 10000000 ≤ max ({ wb with snk := { wb.snk with chans := setAt wb.snk.chans 23 { shortOff := some 1749999999000000000 } } } : State).time.now (0 : Nat))) ∧
    (((if (true : Bool) then ((wb : State).snkCh (23 : Fin 24).val).shortOn else ((wb : State).snkCh (23 : Fin 24).val).openOn) = none)) ∧
    ((({ wb with snk := { wb.snk with clampSince := some 1749999999000000000 } } : State).snk.clampSince = some (1749999999000000000 : Nat)) ∧ ((1749999999000000000 : Nat) + 100000000 ≤ max ({ wb with snk := { wb.snk with clampSince := some 1749999999000000000 } } : State).time.now (0 : Nat))) ∧
    ((({ wb with snk := { wb.snk with clampSince := some 1749999999100000000 } } : State).snk.clampSince = some (1749999999100000000 : Nat)) ∧ (max ({ wb with snk := { wb.snk with clampSince := some 1749999999100000000 } } : State).time.now (0 : Nat) < (1749999999100000000 : Nat) + 100000000)) :=
  by
  refine ⟨?_, ?_, ?_, ?_, ?_, ?_, ?_, ?_, ?_⟩ <;> decide +kernel

/-- HalyardFramesCarryWholeCommits: its hypotheses are met, clause by clause. -/
theorem witness_HalyardFramesCarryWholeCommits :
    (((wb : State).hal.length = 2) ∧ (((.sup : Initiator) = .app3 → (wb : State).permAdmits 0x11 true = true))) ∧
    ((({ wb.wrB (Reg.HAL_CTRL 1) 0 true with hal := [{}, { commit := some 1749999999000000000 }] } : State).hal.length = 2) ∧ (({ wb.wrB (Reg.HAL_CTRL 1) 0 true with hal := [{}, { commit := some 1749999999000000000 }] } : State).rdB (Reg.HAL_CTRL (1 : Fin 2).val) 0 = true) ∧ (({ wb.wrB (Reg.HAL_CTRL 1) 0 true with hal := [{}, { commit := some 1749999999000000000 }] } : State).rdB (Reg.HAL_CTRL (1 : Fin 2).val) 3 = false) ∧ (({ wb.wrB (Reg.HAL_CTRL 1) 0 true with hal := [{}, { commit := some 1749999999000000000 }] } : State).aon.flushing = false) ∧ (({ wb.wrB (Reg.HAL_CTRL 1) 0 true with hal := [{}, { commit := some 1749999999000000000 }] } : State).aon.appOff = false) ∧ (({ wb.wrB (Reg.HAL_CTRL 1) 0 true with hal := [{}, { commit := some 1749999999000000000 }] } : State).rdB (Reg.HAL_STATUS (1 : Fin 2).val) 0 = false) ∧ ((∀ e, (({ wb.wrB (Reg.HAL_CTRL 1) 0 true with hal := [{}, { commit := some 1749999999000000000 }] } : State).halyard (1 : Fin 2).val).endedAt = some e → e + 1000 * (({ wb.wrB (Reg.HAL_CTRL 1) 0 true with hal := [{}, { commit := some 1749999999000000000 }] } : State).halyard (1 : Fin 2).val).gap ≤ max ({ wb.wrB (Reg.HAL_CTRL 1) 0 true with hal := [{}, { commit := some 1749999999000000000 }] } : State).time.now (0 : Nat))) ∧ (({ wb.wrB (Reg.HAL_CTRL 1) 0 true with hal := [{}, { commit := some 1749999999000000000 }] } : State).rdB (Reg.HAL_CTRL (1 : Fin 2).val) 1 = true ∨ (decide (∃ a, (({ wb.wrB (Reg.HAL_CTRL 1) 0 true with hal := [{}, { commit := some 1749999999000000000 }] } : State).halyard (1 : Fin 2).val).commit = some a ∧ a + 5000 ≤ max ({ wb.wrB (Reg.HAL_CTRL 1) 0 true with hal := [{}, { commit := some 1749999999000000000 }] } : State).time.now (0 : Nat))) = true)) ∧
    ((({ wb.wrB (Reg.HAL_CTRL 1) 0 true with hal := [{}, {  }] } : State).hal.length = 2) ∧ (({ wb.wrB (Reg.HAL_CTRL 1) 0 true with hal := [{}, {  }] } : State).rdB (Reg.HAL_CTRL (1 : Fin 2).val) 0 = true) ∧ (({ wb.wrB (Reg.HAL_CTRL 1) 0 true with hal := [{}, {  }] } : State).rdB (Reg.HAL_CTRL (1 : Fin 2).val) 3 = false) ∧ (({ wb.wrB (Reg.HAL_CTRL 1) 0 true with hal := [{}, {  }] } : State).aon.flushing = false) ∧ (({ wb.wrB (Reg.HAL_CTRL 1) 0 true with hal := [{}, {  }] } : State).aon.appOff = false) ∧ (({ wb.wrB (Reg.HAL_CTRL 1) 0 true with hal := [{}, {  }] } : State).rdB (Reg.HAL_STATUS (1 : Fin 2).val) 0 = false) ∧ ((∀ e, (({ wb.wrB (Reg.HAL_CTRL 1) 0 true with hal := [{}, {  }] } : State).halyard (1 : Fin 2).val).endedAt = some e → e + 1000 * (({ wb.wrB (Reg.HAL_CTRL 1) 0 true with hal := [{}, {  }] } : State).halyard (1 : Fin 2).val).gap ≤ max ({ wb.wrB (Reg.HAL_CTRL 1) 0 true with hal := [{}, {  }] } : State).time.now (0 : Nat))) ∧ (({ wb.wrB (Reg.HAL_CTRL 1) 0 true with hal := [{}, {  }] } : State).rdB (Reg.HAL_CTRL (1 : Fin 2).val) 1 = false ∧ (decide (∃ a, (({ wb.wrB (Reg.HAL_CTRL 1) 0 true with hal := [{}, {  }] } : State).halyard (1 : Fin 2).val).commit = some a ∧ a + 5000 ≤ max ({ wb.wrB (Reg.HAL_CTRL 1) 0 true with hal := [{}, {  }] } : State).time.now (0 : Nat))) = false)) ∧
    ((({ wb.wrB (Reg.HAL_CTRL 1) 0 true with hal := [{}, { frameAt := some 1749999999000000000, count := 1 }] } : State).hal.length = 2) ∧ ((({ wb.wrB (Reg.HAL_CTRL 1) 0 true with hal := [{}, { frameAt := some 1749999999000000000, count := 1 }] } : State).halyard (1 : Fin 2).val).frameAt = some (1749999999000000000 : Nat)) ∧ (((1749999999000000000 : Nat) + 48000 * (({ wb.wrB (Reg.HAL_CTRL 1) 0 true with hal := [{}, { frameAt := some 1749999999000000000, count := 1 }] } : State).halyard (1 : Fin 2).val).count) ≤ max ({ wb.wrB (Reg.HAL_CTRL 1) 0 true with hal := [{}, { frameAt := some 1749999999000000000, count := 1 }] } : State).time.now (0 : Nat)) ∧ ((∀ e, (({ wb.wrB (Reg.HAL_CTRL 1) 0 true with hal := [{}, { frameAt := some 1749999999000000000, count := 1 }] } : State).halyard (1 : Fin 2).val).stopsAt = some e → ((1749999999000000000 : Nat) + 48000 * (({ wb.wrB (Reg.HAL_CTRL 1) 0 true with hal := [{}, { frameAt := some 1749999999000000000, count := 1 }] } : State).halyard (1 : Fin 2).val).count) ≤ e))) ∧
    ((({ wb.wrB (Reg.HAL_CTRL 1) 0 true with hal := [{}, { frameAt := some 1749999999000000000, stopsAt := some 1749999999000050000 }] } : State).hal.length = 2) ∧ ((({ wb.wrB (Reg.HAL_CTRL 1) 0 true with hal := [{}, { frameAt := some 1749999999000000000, stopsAt := some 1749999999000050000 }] } : State).halyard (1 : Fin 2).val).frameAt = some (1749999999000000000 : Nat)) ∧ ((({ wb.wrB (Reg.HAL_CTRL 1) 0 true with hal := [{}, { frameAt := some 1749999999000000000, stopsAt := some 1749999999000050000 }] } : State).halyard (1 : Fin 2).val).stopsAt = some (1749999999000050000)) ∧ ((1749999999000050000) < ((1749999999000000000 : Nat) + 48000 * (({ wb.wrB (Reg.HAL_CTRL 1) 0 true with hal := [{}, { frameAt := some 1749999999000000000, stopsAt := some 1749999999000050000 }] } : State).halyard (1 : Fin 2).val).count)) ∧ ((1749999999000050000) ≤ max ({ wb.wrB (Reg.HAL_CTRL 1) 0 true with hal := [{}, { frameAt := some 1749999999000000000, stopsAt := some 1749999999000050000 }] } : State).time.now (0 : Nat))) ∧
    ((({ wb.wrB (Reg.HAL_CTRL 1) 0 true with hal := [{}, { frameAt := some 1749999999120000000 }] } : State).hal.length = 2) ∧ ((({ wb.wrB (Reg.HAL_CTRL 1) 0 true with hal := [{}, { frameAt := some 1749999999120000000 }] } : State).halyard (1 : Fin 2).val).frameAt = some (1749999999120000000 : Nat)) ∧ (max ({ wb.wrB (Reg.HAL_CTRL 1) 0 true with hal := [{}, { frameAt := some 1749999999120000000 }] } : State).time.now (0 : Nat) < ((1749999999120000000 : Nat) + 48000 * (({ wb.wrB (Reg.HAL_CTRL 1) 0 true with hal := [{}, { frameAt := some 1749999999120000000 }] } : State).halyard (1 : Fin 2).val).count)) ∧ ((({ wb.wrB (Reg.HAL_CTRL 1) 0 true with hal := [{}, { frameAt := some 1749999999120000000 }] } : State).halyard (1 : Fin 2).val).stopsAt = none)) :=
  by
  refine ⟨?_, ?_, ?_, ?_, ?_, ?_⟩ <;> decide +kernel

/-- CalibrationStepsMeasureAndSwap: its hypotheses are met, clause by clause. -/
theorem witness_CalibrationStepsMeasureAndSwap :
    ((({ wca 0 with cal := { wb.cal with remaining := [1] } } : State).objN 0x2A10 1 = 1) ∧ ((1750032000000000000 : Nat) % (({ wca 0 with cal := { wb.cal with remaining := [1] } } : State).objN 0x2A10 2 * 1000000000) = 0) ∧ (({ wca 0 with cal := { wb.cal with remaining := [1] } } : State).calRuns = true) ∧ (({ wca 0 with cal := { wb.cal with remaining := [1] } } : State).cal.remaining ≠ [])) ∧
    (((wca 0 : State).objN 0x2A10 1 = 1) ∧ ((1750032000000000000 : Nat) % ((wca 0 : State).objN 0x2A10 2 * 1000000000) = 0) ∧ ((wca 0 : State).calRuns = true) ∧ ((wca 0 : State).cal.remaining = []) ∧ ((wca 0 : State).calStep = 0) ∧ ((wca 0 : State).refOk = true) ∧ ((wca 0 : State).rdB Reg.CAL_CTRL 2 = false) ∧ ((wca 0 : State).chainSkips 0 = false) ∧ ((wca 0 : State).chainLeft 0 = none)) ∧
    ((({ wca 0 with cal := { wb.cal with settle := some 1750000000000000001 } } : State).calGoes = true) ∧ (({ wca 0 with cal := { wb.cal with settle := some 1750000000000000001 } } : State).cal.settle = some (1750000000000000001)) ∧ (max ({ wca 0 with cal := { wb.cal with settle := some 1750000000000000001 } } : State).time.now (1750000000000000000 : Nat) < (1750000000000000001))) ∧
    ((({ wca 0 with cal := { wb.cal with settle := some 1750000000000000000 } } : State).calGoes = true) ∧ (({ wca 0 with cal := { wb.cal with settle := some 1750000000000000000 } } : State).cal.settle = some (1750000000000000000)) ∧ ((1750000000000000000) ≤ max ({ wca 0 with cal := { wb.cal with settle := some 1750000000000000000 } } : State).time.now (1750000000000000000 : Nat))) ∧
    (((.sup : Initiator).resident = true)) ∧
    (((((wca 2).wrF (Reg.CAL_ACC_CTRL 1) 16 8 0x101).wrF (Reg.CAL_ACC_STAT 1) 15 0 1 : State).rdB (Reg.CAL_ACC_CTRL (1 : Fin 2).val) 16 = true) ∧ ((((wca 2).wrF (Reg.CAL_ACC_CTRL 1) 16 8 0x101).wrF (Reg.CAL_ACC_STAT 1) 15 0 1 : State).rdF (Reg.CAL_ACC_CTRL (1 : Fin 2).val) 15 8 ≤ (((wca 2).wrF (Reg.CAL_ACC_CTRL 1) 16 8 0x101).wrF (Reg.CAL_ACC_STAT 1) 15 0 1 : State).rdF (Reg.CAL_ACC_STAT (1 : Fin 2).val) 15 0) ∧ (((1 : Fin 2).val = 1 ∨ (((wca 2).wrF (Reg.CAL_ACC_CTRL 1) 16 8 0x101).wrF (Reg.CAL_ACC_STAT 1) 15 0 1 : State).cal.measuring = false))) ∧
    (((wca 5 : State).rdB (Reg.CAL_ACC_CTRL 0) 16 = true) ∧ ((wca 5 : State).rdF (Reg.CAL_ACC_CTRL 0) 15 8 ≤ (wca 5 : State).rdF (Reg.CAL_ACC_STAT 0) 15 0) ∧ ((wca 5 : State).cal.measuring = true) ∧ ((wca 5 : State).calGoes = true) ∧ ((wca 5 : State).lowSignal (-5 : Int) (2000000000 : Nat) = false) ∧ ((wca 5 : State).calPos < 8) ∧ ((wca 5 : State).time.trig.length = 16) ∧ ((wca 5 : State).calStep = 2 ∨ (wca 5 : State).calStep = 5) ∧ ((-5 : Int).natAbs ≤ 100 * (wca 5 : State).objN 0x2A10 4) ∧ ((5000 : Int).natAbs ≤ 5000) ∧ ((wca 5 : State).objN 0x2A10 4 ≤ (wca 5 : State).objN 0x2A10 6) ∧ ((wca 5 : State).cal.repeated = false) ∧ ((wca 5 : State).cal.faulty = false) ∧ ((wca 5 : State).rdB Reg.MTR_EVENT_STAT 5 = false) ∧ ((wca 5 : State).cal.synthetic = false) ∧ ((wca 5 : State).phasePresent (wca 5 : State).calPos = true)) ∧
    (((wca 2 : State).rdB (Reg.CAL_ACC_CTRL 0) 16 = true) ∧ ((wca 2 : State).rdF (Reg.CAL_ACC_CTRL 0) 15 8 ≤ (wca 2 : State).rdF (Reg.CAL_ACC_STAT 0) 15 0) ∧ ((wca 2 : State).cal.measuring = true) ∧ ((wca 2 : State).calGoes = true) ∧ ((wca 2 : State).lowSignal (-100000000 : Int) (2000000000 : Nat) = false) ∧ ((wca 2 : State).calPos < 8) ∧ ((wca 2 : State).time.trig.length = 16) ∧ ((wca 2 : State).calStep = 2) ∧ ((wca 2 : State).cal.repeated = false) ∧ (100 * (wca 2 : State).objN 0x2A10 6 < (-100000000 : Int).natAbs) ∧ ((wca 2 : State).refOk = true)) ∧
    (((wca 2 : State).rdB (Reg.CAL_ACC_CTRL 0) 16 = true) ∧ ((wca 2 : State).rdF (Reg.CAL_ACC_CTRL 0) 15 8 ≤ (wca 2 : State).rdF (Reg.CAL_ACC_STAT 0) 15 0) ∧ ((wca 2 : State).cal.measuring = true) ∧ ((wca 2 : State).calGoes = true) ∧ ((wca 2 : State).lowSignal (-20001 : Int) (2000000000 : Nat) = false) ∧ ((wca 2 : State).calPos < 8) ∧ ((wca 2 : State).time.trig.length = 16) ∧ ((wca 2 : State).calStep = 2 ∨ (wca 2 : State).calStep = 5) ∧ (100 * (wca 2 : State).objN 0x2A10 4 < (-20001 : Int).natAbs) ∧ ((-20001 : Int).natAbs ≤ 100 * (wca 2 : State).objN 0x2A10 6) ∧ ((5000 : Int).natAbs ≤ 200000) ∧ ((wca 2 : State).cal.repeated = false) ∧ ((wca 2 : State).cal.faulty = false)) ∧
    (((wb : State).rdB Reg.CAL_CTRL 0 = false)) ∧
    (((wca 0 : State).rdB Reg.CAL_CTRL 0 = true) ∧ ((50 : Int).natAbs ≤ 50) ∧ ((wca 0 : State).refOk = true)) ∧
    ((({ wca 0 with cal := { wb.cal with refBad := 1 } } : State).rdB Reg.CAL_CTRL 0 = true) ∧ (50 < (-51 : Int).natAbs) ∧ (({ wca 0 with cal := { wb.cal with refBad := 1 } } : State).cal.refBad = 1) ∧ (({ wca 0 with cal := { wb.cal with refBad := 1 } } : State).calStep ≠ 1) ∧ (({ wca 0 with cal := { wb.cal with refBad := 1 } } : State).calStep ≠ 4)) ∧
    ((({ (wca 0).wrB Reg.CAL_STATUS 2 false with cal := { wb.cal with refGood := 9 } } : State).rdB Reg.CAL_CTRL 0 = true) ∧ ((50 : Int).natAbs ≤ 50) ∧ (({ (wca 0).wrB Reg.CAL_STATUS 2 false with cal := { wb.cal with refGood := 9 } } : State).refOk = false) ∧ (({ (wca 0).wrB Reg.CAL_STATUS 2 false with cal := { wb.cal with refGood := 9 } } : State).cal.refGood = 9) ∧ (({ (wca 0).wrB Reg.CAL_STATUS 2 false with cal := { wb.cal with refGood := 9 } } : State).cal.remaining = [])) :=
  by
  refine ⟨?_, ?_, ?_, ?_, ?_, ?_, ?_, ?_, ?_, ?_, ?_, ?_, ?_⟩ <;> decide +kernel

/-- SlowEstimatesFollowTheirMeasurements: its hypotheses are met, clause by clause. -/
theorem witness_SlowEstimatesFollowTheirMeasurements :
    (((3 : Nat) < 4) ∧ (((wm .commission).setObjN (0x2A20 + 3) 3 1 1 : State).coresRun = true) ∧ (((wm .commission).setObjN (0x2A20 + 3) 3 1 1 : State).mode.mode = .commission) ∧ (((wm .commission).setObjN (0x2A20 + 3) 3 1 1 : State).objN (0x2A20 + (3 : Nat)) 3 = 1) ∧ (((wm .commission).setObjN (0x2A20 + 3) 3 1 1 : State).cal.remaining = [])) ∧
    (((wm .nightScheduled : State).coresRun = true) ∧ ((wm .nightScheduled : State).mode.mode = .nightScheduled)) ∧
    (((wca 0 : State).calGoes = true ∧ (wca 0 : State).calFunction 2 = true ∧ (wca 0 : State).calBit 2 = false) ∧ ((wca 0 : State).cal.initial = none)) ∧
    ((¬((wb.setObjN 0x2A00 4 1 0 : State).calGoes = true ∧ (wb.setObjN 0x2A00 4 1 0 : State).calFunction 2 = true ∧ (wb.setObjN 0x2A00 4 1 0 : State).calBit 2 = false))) ∧
    (((wca 0 : State).calGoes = true) ∧ ((wca 0 : State).calFunction 2 = true) ∧ ((wca 0 : State).cal.initial = none)) ∧
    (((wca 0 : State).calFunction 3 = true) ∧ ((wca 0 : State).cal.initial = none) ∧ ((radPpm (320000000 : Nat)).natAbs ≤ 10000) ∧ (((wca 0 : State).obj 0x2A40 2).length = 16)) ∧
    (((wb.setObjN 0x2A00 4 1 0 : State).calFunction 3 = false)) ∧
    ((({ wca 0 with aon := { wb.aon with aonClockLost := true }, time := { wb.time with servoState := 2 }, cal := { (wca 0).cal with curveDone := some { start := 5, last := 9, temp := 2500 } } } : State).cal.curveDone = some ({ start := 5, last := 9, temp := 2500 } : CurveRun)) ∧ (({ wca 0 with aon := { wb.aon with aonClockLost := true }, time := { wb.time with servoState := 2 }, cal := { (wca 0).cal with curveDone := some { start := 5, last := 9, temp := 2500 } } } : State).time.servoState = 2) ∧ (({ wca 0 with aon := { wb.aon with aonClockLost := true }, time := { wb.time with servoState := 2 }, cal := { (wca 0).cal with curveDone := some { start := 5, last := 9, temp := 2500 } } } : State).calFunction 1 = true) ∧ (({ start := 5, last := 9, temp := 2500 } : CurveRun).most - ({ start := 5, last := 9, temp := 2500 } : CurveRun).least ≤ 100) ∧ (({ start := 5, last := 9, temp := 2500 } : CurveRun).start < ({ start := 5, last := 9, temp := 2500 } : CurveRun).last) ∧ (({ wca 0 with aon := { wb.aon with aonClockLost := true }, time := { wb.time with servoState := 2 }, cal := { (wca 0).cal with curveDone := some { start := 5, last := 9, temp := 2500 } } } : State).calGoes = true) ∧ (({ wca 0 with aon := { wb.aon with aonClockLost := true }, time := { wb.time with servoState := 2 }, cal := { (wca 0).cal with curveDone := some { start := 5, last := 9, temp := 2500 } } } : State).aonTakes = false) ∧ ((({ wca 0 with aon := { wb.aon with aonClockLost := true }, time := { wb.time with servoState := 2 }, cal := { (wca 0).cal with curveDone := some { start := 5, last := 9, temp := 2500 } } } : State).obj 0x2A30 2).length = 66)) ∧
    ((({ wb with cal := { wb.cal with curveDone := some { start := 5, last := 9, temp := 2500 } } } : State).cal.curveDone = some ({ start := 5, last := 9, temp := 2500 } : CurveRun)) ∧ ((({ wb with cal := { wb.cal with curveDone := some { start := 5, last := 9, temp := 2500 } } } : State).time.servoState ≠ 2 ∨ ({ wb with cal := { wb.cal with curveDone := some { start := 5, last := 9, temp := 2500 } } } : State).calFunction 1 = false ∨ 100 < ({ start := 5, last := 9, temp := 2500 } : CurveRun).most - ({ start := 5, last := 9, temp := 2500 } : CurveRun).least))) ∧
    (((wb : State).cal.curveDone = none)) ∧
    (((wca 0 : State).calFunction 4 = true) ∧ ((wca 0 : State).cal.windowStart + (wca 0 : State).objN 0x2A50 1 * 3600000000000 ≤ (1799999999123456789 : Nat))) ∧
    ((((wca 0 : State).calFunction 4 = false ∨ (0 : Nat) < (wca 0 : State).cal.windowStart + (wca 0 : State).objN 0x2A50 1 * 3600000000000))) :=
  by
  refine ⟨?_, ?_, ?_, ?_, ?_, ?_, ?_, ?_, ?_, ?_, ?_, ?_⟩ <;> decide +kernel

/-- KeyCommandsWriteInvalidateAndErase: its hypotheses are met, clause by clause. -/
theorem witness_KeyCommandsWriteInvalidateAndErase :
    ((((Instr.keyErase, 7)) ∈ [(Instr.keyGenerate, 1), (Instr.keyDerive, 2), (Instr.importPublic, 3), (Instr.importWrapped, 4), (Instr.keyAgree, 5), (Instr.keyInvalidate, 6), (Instr.keyErase, 7)]) ∧ ((.sup : Initiator).resident = true) ∧ ((wk.wrF Reg.AON_TAMPER_STAT 2 0 1 : State).tamperLatched = true)) ∧
    ((((Instr.keyInvalidate, 6)) ∈ [(Instr.keyGenerate, 1), (Instr.keyDerive, 2), (Instr.importPublic, 3), (Instr.importWrapped, 4), (Instr.keyAgree, 5), (Instr.keyInvalidate, 6), (Instr.keyErase, 7)]) ∧ ((.sup : Initiator).resident = true) ∧ ((wk : State).tamperLatched = false) ∧ (({ slot := 4 } : KeyCmd).slot = 0 ∨ ({ slot := 4 } : KeyCmd).slot = 4)) ∧
    ((((Instr.keyErase, 7)) ∈ [(Instr.keyGenerate, 1), (Instr.keyDerive, 2), (Instr.importPublic, 3), (Instr.importWrapped, 4), (Instr.keyAgree, 5), (Instr.keyInvalidate, 6), (Instr.keyErase, 7)]) ∧ ((.sup : Initiator).resident = true) ∧ ((wk : State).keyCheck ((Instr.keyErase, 7)).2 ({ slot := 16 } : KeyCmd) ≠ 0)) ∧
    ((((Instr.keyGenerate, 1)) ∈ [(Instr.keyGenerate, 1), (Instr.keyDerive, 2), (Instr.importPublic, 3), (Instr.importWrapped, 4), (Instr.keyAgree, 5), (Instr.keyInvalidate, 6), (Instr.keyErase, 7)]) ∧ ((.sup : Initiator).resident = true) ∧ ((wk.wrF Reg.CRY_STATUS 5 4 3 : State).keyCheck ((Instr.keyGenerate, 1)).2 ({ slot := 16, parent := 8, kind := 1 } : KeyCmd) = 0)) ∧
    (((true : Bool) = true) ∧ (({ wk with key := { wk.key with scrubNext := 3 } } : State).tagged (({ wk with key := { wk.key with scrubNext := 3 } } : State).key.scrubNext % 256) = true)) ∧
    (((false : Bool) = false ∨ (wk : State).tagged ((wk : State).key.scrubNext % 256) = false)) :=
  by
  refine ⟨⟨by simp, ?_, ?_⟩, ⟨by simp, ?_, ?_, ?_⟩, ⟨by simp, ?_, ?_⟩, ⟨by simp, ?_, ?_⟩, ?_, ?_⟩ <;> decide +kernel

/-- KeysAreSharedAndEntropyIsWatched: its hypotheses are met, clause by clause. -/
theorem witness_KeysAreSharedAndEntropyIsWatched :
    ((({ wk with mode := { wk.mode with mode := .commission } } : State).coresRun = true) ∧ (({ wk with mode := { wk.mode with mode := .commission } } : State).mode.mode = .commission) ∧ ((List.replicate 97 1 : List (BitVec 8)).length = 97) ∧ (({ wk with mode := { wk.mode with mode := .commission } } : State).tamperLatched = false) ∧ (({ wk with mode := { wk.mode with mode := .commission } } : State).held 0x2B01 1 = false)) ∧
    (((wb : State).coresRun = true) ∧ (1 ≤ leAt (List.replicate 8 2 ++ [9] ++ List.replicate 291 0 : List (BitVec 8)) 8 1) ∧ (leAt (List.replicate 8 2 ++ [9] ++ List.replicate 291 0 : List (BitVec 8)) 8 1 ≤ 9) ∧ ((List.replicate 8 2 ++ [9] ++ List.replicate 291 0 : List (BitVec 8)).length = 12 + 32 * leAt (List.replicate 8 2 ++ [9] ++ List.replicate 291 0 : List (BitVec 8)) 8 1) ∧ ((wb : State).tamperLatched = false) ∧ ((wb : State).held 0x2B02 1 = false) ∧ ((wb : State).mode.mode = .day)) ∧
    (((wm .standby : State).coresRun = true) ∧ (1 ≤ leAt (List.replicate 8 2 ++ [9] ++ List.replicate 291 0 : List (BitVec 8)) 8 1) ∧ (leAt (List.replicate 8 2 ++ [9] ++ List.replicate 291 0 : List (BitVec 8)) 8 1 ≤ 9) ∧ ((List.replicate 8 2 ++ [9] ++ List.replicate 291 0 : List (BitVec 8)).length = 12 + 32 * leAt (List.replicate 8 2 ++ [9] ++ List.replicate 291 0 : List (BitVec 8)) 8 1) ∧ ((wm .standby : State).tamperLatched = false) ∧ ((wm .standby : State).held 0x2B02 1 = false) ∧ ((wm .standby : State).mode.mode = .standby) ∧ ((wm .standby : State).importAccepts (List.replicate 8 2 ++ [9] ++ List.replicate 291 0 : List (BitVec 8)) = false)) ∧
    (((wm .standby : State).coresRun = true) ∧ (1 ≤ leAt (List.replicate 8 2 ++ [1] ++ List.replicate 35 0 : List (BitVec 8)) 8 1) ∧ (leAt (List.replicate 8 2 ++ [1] ++ List.replicate 35 0 : List (BitVec 8)) 8 1 ≤ 9) ∧ ((List.replicate 8 2 ++ [1] ++ List.replicate 35 0 : List (BitVec 8)).length = 12 + 32 * leAt (List.replicate 8 2 ++ [1] ++ List.replicate 35 0 : List (BitVec 8)) 8 1) ∧ ((wm .standby : State).tamperLatched = false) ∧ ((wm .standby : State).held 0x2B02 1 = false) ∧ ((wm .standby : State).mode.mode = .standby) ∧ (leAt (List.replicate 8 2 ++ [1] ++ List.replicate 35 0 : List (BitVec 8)) 8 1 = 1)) ∧
    (((true : Bool) = true) ∧ (({ wp with key := { wk.key with slots := wk.key.slots ++ [(24, { state := 1, kind := 1, key := [1] })] } } : State).pairState = 1) ∧ (({ wp with key := { wk.key with slots := wk.key.slots ++ [(24, { state := 1, kind := 1, key := [1] })] } } : State).chainCheck 5 = .ok) ∧ (({ wp with key := { wk.key with slots := wk.key.slots ++ [(24, { state := 1, kind := 1, key := [1] })] } } : State).shareEntries ≠ [])) ∧
    (((true : Bool) = false ∨ (wb : State).pairState ≠ 1 ∨ (wb : State).chainCheck 5 ≠ .ok)) ∧
    ((({ wb with cry := { wb.cry with trngFailed := true } } : State).cry.trngFailed = true)) ∧
    ((({ wb with cry := { wb.cry with trngFailed := true } } : State).cry.trngFailed = true)) ∧
    (((wb : State).cry.trngFailed = false)) ∧
    (((wb : State).cry.trngFailed = false)) :=
  by
  refine ⟨?_, ?_, ?_, ?_, ?_, ?_, ?_, ?_, ?_, ?_⟩ <;> decide +kernel

/-- CryptoJobsReturnInOrder: its hypotheses are met, clause by clause. -/
theorem witness_CryptoJobsReturnInOrder :
    ((((Instr.aesCmac, 3)) ∈ [(Instr.aesCcm, 1), (Instr.aesGcm, 2), (Instr.aesCmac, 3), (Instr.sha256, 4), (Instr.sha384, 5), (Instr.ecdsa, 6), (Instr.ecdh, 7), (Instr.randomJob, 8), (Instr.wrapLink, 0x10), (Instr.wrapCb, 0x11), (Instr.wrapSlot, 0x12), (Instr.storeCode, 0x13)]) ∧ ((wjob 3 1 16 : State).jobReady (2 : Fin 4) ((Instr.aesCmac, 3)).2 (wdesc 3 1 16 : Desc)) ∧ ((((wjob 3 1 16 : State).cryCompute (2 : Fin 4).val (wdesc 3 1 16 : Desc) ((Instr.aesCmac, 3)).2).1.written = true → admits true .cry (Nat.beq (2 : Fin 4).val 3) (((wdesc 3 1 16 : Desc).buf 36).1) (((wjob 3 1 16 : State).cryCompute (2 : Fin 4).val (wdesc 3 1 16 : Desc) ((Instr.aesCmac, 3)).2).1.result.length) = true ∧ ((((wdesc 3 1 16 : Desc).buf 36).1) + (((wjob 3 1 16 : State).cryCompute (2 : Fin 4).val (wdesc 3 1 16 : Desc) ((Instr.aesCmac, 3)).2).1.result.length) ≤ ((wjob 3 1 16 : State).cryDesc (2 : Fin 4).val) ∨ ((wjob 3 1 16 : State).cryDesc (2 : Fin 4).val) + 64 ≤ (((wdesc 3 1 16 : Desc).buf 36).1)))) ∧ (((wjob 3 1 16 : State).cryCompute (2 : Fin 4).val (wdesc 3 1 16 : Desc) ((Instr.aesCmac, 3)).2).2.fault.errorAddr = none)) ∧
    ((((Instr.aesCmac, 3)) ∈ [(Instr.aesCcm, 1), (Instr.aesGcm, 2), (Instr.aesCmac, 3), (Instr.sha256, 4), (Instr.sha384, 5), (Instr.ecdsa, 6), (Instr.ecdh, 7), (Instr.randomJob, 8), (Instr.wrapLink, 0x10), (Instr.wrapCb, 0x11), (Instr.wrapSlot, 0x12), (Instr.storeCode, 0x13)]) ∧ ((wjob 3 1 16 : State).jobReady (2 : Fin 4) ((Instr.aesCmac, 3)).2 (wdesc 3 1 16 : Desc)) ∧ (cryKeyed ((Instr.aesCmac, 3)).2 = true) ∧ ((wjob 3 1 16 : State).chainCheck (wdesc 3 1 16 : Desc).slot ≠ .ok)) ∧
    ((((Instr.sha256, 4)) ∈ [(Instr.aesCcm, 1), (Instr.aesGcm, 2), (Instr.aesCmac, 3), (Instr.sha256, 4), (Instr.sha384, 5), (Instr.ecdsa, 6), (Instr.ecdh, 7), (Instr.randomJob, 8), (Instr.wrapLink, 0x10), (Instr.wrapCb, 0x11), (Instr.wrapSlot, 0x12), (Instr.storeCode, 0x13)]) ∧ ((wjob 4 1 0 : State).jobReady (2 : Fin 4) ((Instr.sha256, 4)).2 (wdesc 4 1 0 : Desc)) ∧ (((Instr.sha256, 4)).2 = 4) ∧ ((wjob 4 1 0 : State).fault.errorAddr = none) ∧ (0 < ((wdesc 4 1 0 : Desc).buf 20).2) ∧ (admits false .cry (Nat.beq (2 : Fin 4).val 3) ((wdesc 4 1 0 : Desc).buf 20).1 ((wdesc 4 1 0 : Desc).buf 20).2 = true) ∧ ((2 : Fin 4).val < 3) ∧ ((wdesc 4 1 0 : Desc).mode = 0) ∧ (32 ≤ ((wdesc 4 1 0 : Desc).buf 36).2)) ∧
    ((((Instr.ecdsa, 6)) ∈ [(Instr.aesCcm, 1), (Instr.aesGcm, 2), (Instr.aesCmac, 3), (Instr.sha256, 4), (Instr.sha384, 5), (Instr.ecdsa, 6), (Instr.ecdh, 7), (Instr.randomJob, 8), (Instr.wrapLink, 0x10), (Instr.wrapCb, 0x11), (Instr.wrapSlot, 0x12), (Instr.storeCode, 0x13)]) ∧ ((wjob 6 5 32 : State).jobReady (2 : Fin 4) ((Instr.ecdsa, 6)).2 (wdesc 6 5 32 : Desc)) ∧ (((Instr.ecdsa, 6)).2 = 6) ∧ ((wdesc 6 5 32 : Desc).opens = true) ∧ ((wdesc 6 5 32 : Desc).mode = 0) ∧ ((wjob 6 5 32 : State).fault.errorAddr = none) ∧ (0 < ((wdesc 6 5 32 : Desc).buf 20).2) ∧ (admits false .cry (Nat.beq (2 : Fin 4).val 3) ((wdesc 6 5 32 : Desc).buf 20).1 ((wdesc 6 5 32 : Desc).buf 20).2 = true) ∧ ((wjob 6 5 32 : State).cryChain (wdesc 6 5 32 : Desc) 6 = 0) ∧ ((wjob 6 5 32 : State).cryPermitted (2 : Fin 4).val (wdesc 6 5 32 : Desc) 6 = true) ∧ ((wdesc 6 5 32 : Desc).limits 6 ((wdesc 6 5 32 : Desc).buf 20).2 ((wjob 6 5 32 : State).slot (wdesc 6 5 32 : Desc).slot).kind = true)) ∧
    ((((Instr.ecdsa, 6)) ∈ [(Instr.aesCcm, 1), (Instr.aesGcm, 2), (Instr.aesCmac, 3), (Instr.sha256, 4), (Instr.sha384, 5), (Instr.ecdsa, 6), (Instr.ecdh, 7), (Instr.randomJob, 8), (Instr.wrapLink, 0x10), (Instr.wrapCb, 0x11), (Instr.wrapSlot, 0x12), (Instr.storeCode, 0x13)]) ∧ ((wjob 6 5 32 : State).jobReady (2 : Fin 4) ((Instr.ecdsa, 6)).2 (wdesc 6 5 32 : Desc)) ∧ (cryKeyed ((Instr.ecdsa, 6)).2 = true) ∧ ((32 : Fin 256).val = (wdesc 6 5 32 : Desc).slot) ∧ ((wjob 6 5 32 : State).tagged (32 : Fin 256).val = true)) :=
  by
  refine ⟨⟨by simp, ?_, ?_, ?_⟩, ⟨by simp, ?_, ?_, ?_⟩, ⟨by simp, ?_, ?_, ?_, ?_, ?_, ?_, ?_, ?_⟩, ⟨by simp, ?_, ?_, ?_, ?_, ?_, ?_, ?_, ?_, ?_, ?_⟩, ⟨by simp, ?_, ?_, ?_, ?_⟩⟩ <;> first | decide +kernel | (try unfold State.jobReady ; decide +kernel)

/-- UpdatesAreStagedBlockByBlock: its hypotheses are met, clause by clause. -/
theorem witness_UpdatesAreStagedBlockByBlock :
    (((wb.wrF Reg.AON_TAMPER_STAT 2 0 1 : State).coresRun = true) ∧ ((wb.wrF Reg.AON_TAMPER_STAT 2 0 1 : State).mode.mode = .day) ∧ (672 ≤ (wman : List (BitVec 8)).length) ∧ ((wman : List (BitVec 8)).length ≤ 2720) ∧ ((wb.wrF Reg.AON_TAMPER_STAT 2 0 1 : State).held 0x2C00 2 = false) ∧ ((wb.wrF Reg.AON_TAMPER_STAT 2 0 1 : State).upd.banks.length = 2) ∧ ((wb.wrF Reg.AON_TAMPER_STAT 2 0 1 : State).tamperLatched = true)) ∧
    (((wb.setObjN 0x1010 2 1 1 : State).coresRun = true) ∧ ((wb.setObjN 0x1010 2 1 1 : State).mode.mode = .day) ∧ (672 ≤ (wman : List (BitVec 8)).length) ∧ ((wman : List (BitVec 8)).length ≤ 2720) ∧ ((wb.setObjN 0x1010 2 1 1 : State).held 0x2C00 2 = false) ∧ ((wb.setObjN 0x1010 2 1 1 : State).upd.banks.length = 2) ∧ ((wb.setObjN 0x1010 2 1 1 : State).tamperLatched = false) ∧ ((wb.setObjN 0x1010 2 1 1 : State).objN 0x1010 2 = 1)) ∧
    (((wup 0 [] : State).coresRun = true) ∧ ((wup 0 [] : State).mode.mode = .day) ∧ (672 ≤ (wman : List (BitVec 8)).length) ∧ ((wman : List (BitVec 8)).length ≤ 2720) ∧ ((wup 0 [] : State).held 0x2C00 2 = false) ∧ ((wup 0 [] : State).upd.banks.length = 2) ∧ ((wup 0 [] : State).updReasons true = 0) ∧ ((wup 0 [] : State).manifestSigned (wman : List (BitVec 8)) = false)) ∧
    (((wb : State).coresRun = true) ∧ ((wb : State).mode.mode = .day) ∧ (672 ≤ (wman : List (BitVec 8)).length) ∧ ((wman : List (BitVec 8)).length ≤ 2720) ∧ ((wb : State).held 0x2C00 2 = false) ∧ ((wb : State).upd.banks.length = 2) ∧ ((wb : State).manifestReason (wman : List (BitVec 8)) ≠ 0) ∧ ((wb : State).manifestReason (wman : List (BitVec 8)) < 256)) ∧
    ((({ wup 0 [] with key := { wk.key with slots := wk.key.slots ++ [(4, { state := 1, kind := 1, parent := 0, parentGen := 1, depth := 1 })] } } : State).coresRun = true) ∧ (({ wup 0 [] with key := { wk.key with slots := wk.key.slots ++ [(4, { state := 1, kind := 1, parent := 0, parentGen := 1, depth := 1 })] } } : State).mode.mode = .day) ∧ (672 ≤ (wman : List (BitVec 8)).length) ∧ ((wman : List (BitVec 8)).length ≤ 2720) ∧ (({ wup 0 [] with key := { wk.key with slots := wk.key.slots ++ [(4, { state := 1, kind := 1, parent := 0, parentGen := 1, depth := 1 })] } } : State).held 0x2C00 2 = false) ∧ (({ wup 0 [] with key := { wk.key with slots := wk.key.slots ++ [(4, { state := 1, kind := 1, parent := 0, parentGen := 1, depth := 1 })] } } : State).upd.banks.length = 2) ∧ (({ wup 0 [] with key := { wk.key with slots := wk.key.slots ++ [(4, { state := 1, kind := 1, parent := 0, parentGen := 1, depth := 1 })] } } : State).updReasons true = 0) ∧ (({ wup 0 [] with key := { wk.key with slots := wk.key.slots ++ [(4, { state := 1, kind := 1, parent := 0, parentGen := 1, depth := 1 })] } } : State).chainCheck 4 = .ok) ∧ (({ wup 0 [] with key := { wk.key with slots := wk.key.slots ++ [(4, { state := 1, kind := 1, parent := 0, parentGen := 1, depth := 1 })] } } : State).manifestFormed (wman : List (BitVec 8)) = true) ∧ (manifestSeq ({ wup 0 [] with key := { wk.key with slots := wk.key.slots ++ [(4, { state := 1, kind := 1, parent := 0, parentGen := 1, depth := 1 })] } } : State).activeSet.manifest < manifestSeq (wman : List (BitVec 8))) ∧ (manifestSeq (wman : List (BitVec 8)) ≠ ({ wup 0 [] with key := { wk.key with slots := wk.key.slots ++ [(4, { state := 1, kind := 1, parent := 0, parentGen := 1, depth := 1 })] } } : State).objN 0x2C00 0x0F) ∧ ((({ wup 0 [] with key := { wk.key with slots := wk.key.slots ++ [(4, { state := 1, kind := 1, parent := 0, parentGen := 1, depth := 1 })] } } : State).metrologyChange (wman : List (BitVec 8)) = false ∨ ({ wup 0 [] with key := { wk.key with slots := wk.key.slots ++ [(4, { state := 1, kind := 1, parent := 0, parentGen := 1, depth := 1 })] } } : State).sealOpen = true))) ∧
    (((wup 0 [] : State).coresRun = true) ∧ ((wup 0 [] : State).mode.mode = .day) ∧ (9 ≤ ([7, 0, 0, 0, 0, 0, 0, 0, 1] : List (BitVec 8)).length) ∧ (([7, 0, 0, 0, 0, 0, 0, 0, 1] : List (BitVec 8)).length ≤ 65536) ∧ ((wup 0 [] : State).held 0x2C00 3 = false) ∧ ((wup 0 [] : State).updReasons false = 0) ∧ ((wup 0 [] : State).upd.banks.length = 2) ∧ ((wup 0 [] : State).updState = 0)) ∧
    (((wup 1 (List.replicate 8 [1]) : State).coresRun = true) ∧ ((wup 1 (List.replicate 8 [1]) : State).mode.mode = .day) ∧ (9 ≤ ([7, 0, 0, 0, 0, 0, 0, 0, 1] : List (BitVec 8)).length) ∧ (([7, 0, 0, 0, 0, 0, 0, 0, 1] : List (BitVec 8)).length ≤ 65536) ∧ ((wup 1 (List.replicate 8 [1]) : State).held 0x2C00 3 = false) ∧ ((wup 1 (List.replicate 8 [1]) : State).updReasons false = 0) ∧ ((wup 1 (List.replicate 8 [1]) : State).upd.banks.length = 2) ∧ ((wup 1 (List.replicate 8 [1]) : State).updState = 1) ∧ ((leAt ([7, 0, 0, 0, 0, 0, 0, 0, 1] : List (BitVec 8)) 0 1) < manifestParts ((wup 1 (List.replicate 8 [1]) : State).bankSet (wup 1 (List.replicate 8 [1]) : State).spareBank).manifest) ∧ ((leAt ([7, 0, 0, 0, 0, 0, 0, 0, 1] : List (BitVec 8)) 4 4) + (([7, 0, 0, 0, 0, 0, 0, 0, 1] : List (BitVec 8)).length - 8) ≤ ((((wup 1 (List.replicate 8 [1]) : State).bankSet (wup 1 (List.replicate 8 [1]) : State).spareBank).parts.getD (leAt ([7, 0, 0, 0, 0, 0, 0, 0, 1] : List (BitVec 8)) 0 1) []).length))) ∧
    (((wup 1 (List.replicate 8 [1]) : State).coresRun = true) ∧ ((wup 1 (List.replicate 8 [1]) : State).mode.mode = .day) ∧ (9 ≤ ([7, 0, 0, 0, 0, 1, 0, 0, 1] : List (BitVec 8)).length) ∧ (([7, 0, 0, 0, 0, 1, 0, 0, 1] : List (BitVec 8)).length ≤ 65536) ∧ ((wup 1 (List.replicate 8 [1]) : State).held 0x2C00 3 = false) ∧ ((wup 1 (List.replicate 8 [1]) : State).updReasons false = 0) ∧ ((wup 1 (List.replicate 8 [1]) : State).upd.banks.length = 2) ∧ ((wup 1 (List.replicate 8 [1]) : State).updState = 1) ∧ ((leAt ([7, 0, 0, 0, 0, 1, 0, 0, 1] : List (BitVec 8)) 0 1) < manifestParts ((wup 1 (List.replicate 8 [1]) : State).bankSet (wup 1 (List.replicate 8 [1]) : State).spareBank).manifest) ∧ (((((wup 1 (List.replicate 8 [1]) : State).bankSet (wup 1 (List.replicate 8 [1]) : State).spareBank).parts.getD (leAt ([7, 0, 0, 0, 0, 1, 0, 0, 1] : List (BitVec 8)) 0 1) []).length) < (leAt ([7, 0, 0, 0, 0, 1, 0, 0, 1] : List (BitVec 8)) 4 4) + (([7, 0, 0, 0, 0, 1, 0, 0, 1] : List (BitVec 8)).length - 8)) ∧ ((leAt ([7, 0, 0, 0, 0, 1, 0, 0, 1] : List (BitVec 8)) 4 4) ≠ ((((wup 1 (List.replicate 8 [1]) : State).bankSet (wup 1 (List.replicate 8 [1]) : State).spareBank).parts.getD (leAt ([7, 0, 0, 0, 0, 1, 0, 0, 1] : List (BitVec 8)) 0 1) []).length) ∨ partLength ((wup 1 (List.replicate 8 [1]) : State).bankSet (wup 1 (List.replicate 8 [1]) : State).spareBank).manifest (leAt ([7, 0, 0, 0, 0, 1, 0, 0, 1] : List (BitVec 8)) 0 1) < (leAt ([7, 0, 0, 0, 0, 1, 0, 0, 1] : List (BitVec 8)) 4 4) + (([7, 0, 0, 0, 0, 1, 0, 0, 1] : List (BitVec 8)).length - 8))) ∧
    (((wup 1 (List.replicate 8 []) : State).coresRun = true) ∧ ((wup 1 (List.replicate 8 []) : State).mode.mode = .day) ∧ (9 ≤ ([7, 0, 0, 0, 0, 0, 0, 0, 1] : List (BitVec 8)).length) ∧ (([7, 0, 0, 0, 0, 0, 0, 0, 1] : List (BitVec 8)).length ≤ 65536) ∧ ((wup 1 (List.replicate 8 []) : State).held 0x2C00 3 = false) ∧ ((wup 1 (List.replicate 8 []) : State).updReasons false = 0) ∧ ((wup 1 (List.replicate 8 []) : State).upd.banks.length = 2) ∧ ((wup 1 (List.replicate 8 []) : State).updState = 1) ∧ ((leAt ([7, 0, 0, 0, 0, 0, 0, 0, 1] : List (BitVec 8)) 0 1) < manifestParts ((wup 1 (List.replicate 8 []) : State).bankSet (wup 1 (List.replicate 8 []) : State).spareBank).manifest) ∧ ((leAt ([7, 0, 0, 0, 0, 0, 0, 0, 1] : List (BitVec 8)) 0 1) < ((wup 1 (List.replicate 8 []) : State).bankSet (wup 1 (List.replicate 8 []) : State).spareBank).parts.length) ∧ ((leAt ([7, 0, 0, 0, 0, 0, 0, 0, 1] : List (BitVec 8)) 4 4) = ((((wup 1 (List.replicate 8 []) : State).bankSet (wup 1 (List.replicate 8 []) : State).spareBank).parts.getD (leAt ([7, 0, 0, 0, 0, 0, 0, 0, 1] : List (BitVec 8)) 0 1) []).length)) ∧ ((leAt ([7, 0, 0, 0, 0, 0, 0, 0, 1] : List (BitVec 8)) 4 4) + (([7, 0, 0, 0, 0, 0, 0, 0, 1] : List (BitVec 8)).length - 8) < partLength ((wup 1 (List.replicate 8 []) : State).bankSet (wup 1 (List.replicate 8 []) : State).spareBank).manifest (leAt ([7, 0, 0, 0, 0, 0, 0, 0, 1] : List (BitVec 8)) 0 1))) ∧
    (((wup 2 [] : State).coresRun = true) ∧ ((wup 2 [] : State).mode.mode = .day) ∧ ((wup 2 [] : State).held 0x2C00 6 = false) ∧ ((wup 2 [] : State).upd.banks.length = 2) ∧ ((wup 2 [] : State).updState = 1 ∨ (wup 2 [] : State).updState = 2)) ∧
    (((wup 4 [] : State).coresRun = true) ∧ ((wup 4 [] : State).updState = 4)) ∧
    (((wm .commission : State).coresRun = true) ∧ ((wm .commission : State).mode.mode = .commission) ∧ ((1440 : Nat) ≤ 1440) ∧ ((wm .commission : State).held 0x2C00 0x0C = false)) ∧
    ((({ wb with upd := { wb.upd with sealUntil := some 1749999999000000000 } } : State).upd.sealUntil = some (1749999999000000000 : Nat)) ∧ (({ wb with upd := { wb.upd with sealUntil := some 1749999999000000000 } } : State).time.loaded = true) ∧ ((1749999999000000000 : Nat) ≤ max ({ wb with upd := { wb.upd with sealUntil := some 1749999999000000000 } } : State).time.now (0 : Nat))) ∧
    ((({ wb with upd := { wb.upd with sealUntil := some 1750000000000000000 } } : State).upd.sealUntil = some (1750000000000000000 : Nat)) ∧ (({ wb with upd := { wb.upd with sealUntil := some 1750000000000000000 } } : State).time.loaded = true) ∧ (max ({ wb with upd := { wb.upd with sealUntil := some 1750000000000000000 } } : State).time.now (0 : Nat) < (1750000000000000000 : Nat))) :=
  by
  refine ⟨?_, ?_, ?_, ?_, ?_, ?_, ?_, ?_, ?_, ?_, ?_, ?_, ?_, ?_⟩ <;> decide +kernel

/-- SetsActivateConfirmOrFallBack: its hypotheses are met, clause by clause. -/
theorem witness_SetsActivateConfirmOrFallBack :
    (((wup 2 [] : State).coresRun = true) ∧ ((wup 2 [] : State).mode.mode = .day) ∧ ((wup 2 [] : State).held 0x2C00 5 = false) ∧ ((wup 2 [] : State).activateReason = 0)) ∧
    (((wup 0 [] : State).coresRun = true) ∧ ((wup 0 [] : State).mode.mode = .day) ∧ ((wup 0 [] : State).held 0x2C00 5 = false) ∧ ((wup 0 [] : State).updReasons true = 0) ∧ ((wup 0 [] : State).updState = 0)) ∧
    (((.sup : Initiator).resident = true) ∧ ((wup 4 [] : State).upd.banks.length = 2) ∧ ((wup 4 [] : State).healthy = true) ∧ ((wup 4 [] : State).updState = 4) ∧ ((0 : Word) = (wup 4 [] : State).rd Reg.UPD_ACTIVE_SEQ)) ∧
    (((.sup : Initiator).resident = true) ∧ ((wup 4 [] : State).upd.banks.length = 2) ∧ ((wup 4 [] : State).updState ≠ 4 ∨ (1 : Word) ≠ (wup 4 [] : State).rd Reg.UPD_ACTIVE_SEQ)) ∧
    (((wb : State).coresRun = true) ∧ ((wb : State).mode.mode = .day) ∧ ((wb : State).held 0x2C00 9 = false)) ∧
    ((({ wup 4 [] with upd := { (wup 4 []).upd with countingSince := some 1749999999000000000 } } : State).updState = 4) ∧ (({ wup 4 [] with upd := { (wup 4 []).upd with countingSince := some 1749999999000000000 } } : State).upd.countingSince = some (1749999999000000000 : Nat)) ∧ ((1749999999000000000 : Nat) ≤ ({ wup 4 [] with upd := { (wup 4 []).upd with countingSince := some 1749999999000000000 } } : State).time.now)) ∧
    ((((wup 4 []).wrF Reg.UPD_PROB_LIMIT 15 0 0 : State).updState = 4) ∧ (((wup 4 []).wrF Reg.UPD_PROB_LIMIT 15 0 0 : State).rdF Reg.UPD_PROB_LIMIT 15 0 ≤ (((wup 4 []).wrF Reg.UPD_PROB_LIMIT 15 0 0 : State).upTo (0 : Nat)).probElapsed)) ∧
    (((wup 4 [] : State).updState ≠ 4 ∨ ((wup 4 [] : State).upTo (0 : Nat)).probElapsed < (wup 4 [] : State).rdF Reg.UPD_PROB_LIMIT 15 0)) :=
  by
  refine ⟨?_, ?_, ?_, ?_, ?_, ?_, ?_, ?_⟩ <;> decide +kernel

/-- LanternImagesAreTrackedByTheirCards: its hypotheses are met, clause by clause. -/
theorem witness_LanternImagesAreTrackedByTheirCards :
    ((([2, 5, 0, 0, 0, 1, 2, 3, 0, 0, 0, 0] : List (BitVec 8)).length = 12) ∧ (leAt ([2, 5, 0, 0, 0, 1, 2, 3, 0, 0, 0, 0] : List (BitVec 8)) 0 1 = 2) ∧ (leAt ([2, 5, 0, 0, 0, 1, 2, 3, 0, 0, 0, 0] : List (BitVec 8)) 1 4 = (((wl 4).setCard 9 0x51 4 5).setCard 9 0x50 1 3 : State).card (9 : Fin 4096).val 0x51) ∧ (1 ≤ (((wl 4).setCard 9 0x51 4 5).setCard 9 0x50 1 3 : State).card (9 : Fin 4096).val 0x50) ∧ ((((wl 4).setCard 9 0x51 4 5).setCard 9 0x50 1 3 : State).card (9 : Fin 4096).val 0x50 ≤ 3) ∧ ((((wl 4).setCard 9 0x51 4 5).setCard 9 0x50 1 3 : State).card (9 : Fin 4096).val 3 = 4) ∧ (((((wl 4).setCard 9 0x51 4 5).setCard 9 0x50 1 3 : State).upd.transfers.find? (fun e => Nat.beq e.lantern (9 : Fin 4096).val)) = none)) ∧
    (((([2] : List (BitVec 8)).length ≠ 12 ∨ leAt ([2] : List (BitVec 8)) 1 4 ≠ (((wl 4).setCard 9 0x51 4 5).setCard 9 0x50 1 3 : State).card (9 : Fin 4096).val 0x51 ∨ (((wl 4).setCard 9 0x51 4 5).setCard 9 0x50 1 3 : State).card (9 : Fin 4096).val 0x50 = 0))) ∧
    (((wb : State).coresRun = true) ∧ ((wb : State).mode.mode = .day) ∧ ((65535 : Nat) < 65536) ∧ ((wb : State).held 0x2C10 5 = false)) ∧
    (((let s := (wl 4).setCard 9 0x50 1 4; { s.setAsn 1 99999 with upd := { s.upd with activating := [(9, 7)] } } : State).upd.activating.find? (fun (x : Nat × Nat) => Nat.beq x.1 (9 : Fin 4096).val) = some ((9, 7) : Nat × Nat)) ∧ ((let s := (wl 4).setCard 9 0x50 1 4; { s.setAsn 1 99999 with upd := { s.upd with activating := [(9, 7)] } } : State).card (9 : Fin 4096).val 0x50 = 4) ∧ ((((9, 7) : Nat × Nat).2 + 60000 + 2 * ((let s := (wl 4).setCard 9 0x50 1 4; { s.setAsn 1 99999 with upd := { s.upd with activating := [(9, 7)] } } : State).mac ((let s := (wl 4).setCard 9 0x50 1 4; { s.setAsn 1 99999 with upd := { s.upd with activating := [(9, 7)] } } : State).card (9 : Fin 4096).val 5)).len < (let s := (wl 4).setCard 9 0x50 1 4; { s.setAsn 1 99999 with upd := { s.upd with activating := [(9, 7)] } } : State).asn ((let s := (wl 4).setCard 9 0x50 1 4; { s.setAsn 1 99999 with upd := { s.upd with activating := [(9, 7)] } } : State).card (9 : Fin 4096).val 5)))) ∧
    (((let s := (wl 4).setCard 9 0x50 1 4; { s with upd := { s.upd with activating := [(9, 7)] } } : State).upd.activating.find? (fun (x : Nat × Nat) => Nat.beq x.1 (9 : Fin 4096).val) = some ((9, 7) : Nat × Nat)) ∧ ((let s := (wl 4).setCard 9 0x50 1 4; { s with upd := { s.upd with activating := [(9, 7)] } } : State).card (9 : Fin 4096).val 0x50 = 4) ∧ (¬(((9, 7) : Nat × Nat).2 + 60000 + 2 * ((let s := (wl 4).setCard 9 0x50 1 4; { s with upd := { s.upd with activating := [(9, 7)] } } : State).mac ((let s := (wl 4).setCard 9 0x50 1 4; { s with upd := { s.upd with activating := [(9, 7)] } } : State).card (9 : Fin 4096).val 5)).len < (let s := (wl 4).setCard 9 0x50 1 4; { s with upd := { s.upd with activating := [(9, 7)] } } : State).asn ((let s := (wl 4).setCard 9 0x50 1 4; { s with upd := { s.upd with activating := [(9, 7)] } } : State).card (9 : Fin 4096).val 5)))) :=
  by
  refine ⟨?_, ?_, ?_, ?_, ?_⟩ <;> decide +kernel

/-- RecordsAreBufferedFlushedReadAndCleared: its hypotheses are met, clause by clause. -/
theorem witness_RecordsAreBufferedFlushedReadAndCleared :
    (((.sup : Initiator).resident = true) ∧ (({ wb.wrB Reg.EVR_CTRL 0 true with evr := { wb.evr with buffer := [], log := [] } } : State).rdB Reg.EVR_CTRL 0 = true) ∧ (({ wb.wrB Reg.EVR_CTRL 0 true with evr := { wb.evr with buffer := [], log := [] } } : State).rdB Reg.EVR_CTRL 2 = false)) ∧
    (((wlog 1 ({ time := 5, source := 4, flags := 0, code := 1, seq := 9, p0 := 0, p1 := 0, p2 := 0 }) : State).evr.flushDue = false)) ∧
    (((wflu 262079 ({ time := 5, source := 4, flags := 0, code := 1, seq := 9, p0 := 0, p1 := 0, p2 := 0 }) : State).evr.flushDue = true) ∧ ((wflu 262079 ({ time := 5, source := 4, flags := 0, code := 1, seq := 9, p0 := 0, p1 := 0, p2 := 0 }) : State).evr.log.length + (wflu 262079 ({ time := 5, source := 4, flags := 0, code := 1, seq := 9, p0 := 0, p1 := 0, p2 := 0 }) : State).evr.buffer.length ≤ 262080)) ∧
    (((wflu 262080 ({ time := 5, source := 4, flags := 0, code := 1, seq := 9, p0 := 0, p1 := 0, p2 := 0 }) : State).evr.flushDue = true) ∧ ((wflu 262080 ({ time := 5, source := 4, flags := 0, code := 1, seq := 9, p0 := 0, p1 := 0, p2 := 0 }) : State).evr.buffer = [({ time := 5, source := 4, flags := 0, code := 1, seq := 9, p0 := 0, p1 := 0, p2 := 0 } : Rec)]) ∧ (({ time := 5, source := 4, flags := 0, code := 1, seq := 9, p0 := 0, p1 := 0, p2 := 0 } : Rec).reserve = false) ∧ (262080 ≤ (wflu 262080 ({ time := 5, source := 4, flags := 0, code := 1, seq := 9, p0 := 0, p1 := 0, p2 := 0 }) : State).evr.log.length)) ∧
    (((wflu 262143 ({ time := 5, source := 1, flags := 0, code := 1, seq := 9, p0 := 0, p1 := 0, p2 := 0 }) : State).evr.flushDue = true) ∧ ((wflu 262143 ({ time := 5, source := 1, flags := 0, code := 1, seq := 9, p0 := 0, p1 := 0, p2 := 0 }) : State).evr.buffer = [({ time := 5, source := 1, flags := 0, code := 1, seq := 9, p0 := 0, p1 := 0, p2 := 0 } : Rec)]) ∧ (({ time := 5, source := 1, flags := 0, code := 1, seq := 9, p0 := 0, p1 := 0, p2 := 0 } : Rec).reserve = true) ∧ (262080 ≤ (wflu 262143 ({ time := 5, source := 1, flags := 0, code := 1, seq := 9, p0 := 0, p1 := 0, p2 := 0 }) : State).evr.log.length) ∧ ((wflu 262143 ({ time := 5, source := 1, flags := 0, code := 1, seq := 9, p0 := 0, p1 := 0, p2 := 0 }) : State).evr.log.length < 262144)) ∧
    ((({ wb.wrB Reg.EVR_CTRL 0 true with evr := { wb.evr with buffer := [], log := [] } } : State).coresRun = true) ∧ (({ wb.wrB Reg.EVR_CTRL 0 true with evr := { wb.evr with buffer := [], log := [] } } : State).mode.mode = .day) ∧ (([1, 0, 0, 0] : List Byte).length = 4) ∧ (({ wb.wrB Reg.EVR_CTRL 0 true with evr := { wb.evr with buffer := [], log := [] } } : State).held 0x2D00 5 = false) ∧ (fromLE ([1, 0, 0, 0] : List Byte) ≠ (({ wb.wrB Reg.EVR_CTRL 0 true with evr := { wb.evr with buffer := [], log := [] } } : State).flushLog).evr.lastSeq)) ∧
    ((({ wb.wrB Reg.EVR_CTRL 0 true with evr := { wb.evr with buffer := [], log := [] } } : State).coresRun = true) ∧ (({ wb.wrB Reg.EVR_CTRL 0 true with evr := { wb.evr with buffer := [], log := [] } } : State).mode.mode = .day) ∧ ((List.replicate 4 0 : List Byte).length = 4) ∧ (({ wb.wrB Reg.EVR_CTRL 0 true with evr := { wb.evr with buffer := [], log := [] } } : State).held 0x2D00 5 = false) ∧ (fromLE (List.replicate 4 0 : List Byte) = (({ wb.wrB Reg.EVR_CTRL 0 true with evr := { wb.evr with buffer := [], log := [] } } : State).flushLog).evr.lastSeq)) ∧
    ((({ wb.wrB Reg.EVR_CTRL 0 true with evr := { wb.evr with buffer := [], log := [] } } : State).coresRun = true) ∧ (({ wb.wrB Reg.EVR_CTRL 0 true with evr := { wb.evr with buffer := [], log := [] } } : State).mode.mode = .day) ∧ ((List.replicate 12 1 : List Byte).length = 12) ∧ (({ wb.wrB Reg.EVR_CTRL 0 true with evr := { wb.evr with buffer := [], log := [] } } : State).held 0x2D01 1 = false) ∧ ((3 : Nat) ≠ 0)) ∧
    ((({ wb.wrB Reg.EVR_CTRL 0 true with evr := { wb.evr with buffer := [], log := [] } } : State).coresRun = true) ∧ (({ wb.wrB Reg.EVR_CTRL 0 true with evr := { wb.evr with buffer := [], log := [] } } : State).mode.mode = .day) ∧ ((List.replicate 12 1 : List Byte).length = 12) ∧ (({ wb.wrB Reg.EVR_CTRL 0 true with evr := { wb.evr with buffer := [], log := [] } } : State).held 0x2D01 1 = false) ∧ ((({ wb.wrB Reg.EVR_CTRL 0 true with evr := { wb.evr with buffer := [], log := [] } } : State).evr.integratorTimes.filter (fun t => decide (({ wb.wrB Reg.EVR_CTRL 0 true with evr := { wb.evr with buffer := [], log := [] } } : State).time.now < t + 1000000000))).length < 100) ∧ (({ wb.wrB Reg.EVR_CTRL 0 true with evr := { wb.evr with buffer := [], log := [] } } : State).rdB Reg.EVR_CTRL 0 = true) ∧ (({ wb.wrB Reg.EVR_CTRL 0 true with evr := { wb.evr with buffer := [], log := [] } } : State).rdB Reg.EVR_CTRL 2 = false) ∧ (({ wb.wrB Reg.EVR_CTRL 0 true with evr := { wb.evr with buffer := [], log := [] } } : State).evr.buffer.length < 4032)) ∧
    ((({ wb with evr := { wb.evr with integratorTimes := List.replicate 100 1749999999000000000 } } : State).coresRun = true) ∧ (({ wb with evr := { wb.evr with integratorTimes := List.replicate 100 1749999999000000000 } } : State).mode.mode = .day) ∧ ((List.replicate 12 1 : List Byte).length = 12) ∧ (({ wb with evr := { wb.evr with integratorTimes := List.replicate 100 1749999999000000000 } } : State).held 0x2D01 1 = false) ∧ (100 ≤ (({ wb with evr := { wb.evr with integratorTimes := List.replicate 100 1749999999000000000 } } : State).evr.integratorTimes.filter (fun t => decide (({ wb with evr := { wb.evr with integratorTimes := List.replicate 100 1749999999000000000 } } : State).time.now < t + 1000000000))).length)) ∧
    (((ws [] : State).hears (we : Sess) 0x10 { ({ tid := 7 } : Msg) with idx := 0x2D00, sub := 8 }) ∧ (((((if (ws [] : State).evr.log.length ≤ (we : Sess).readIndex + 2048 then (ws [] : State).flushLog else (ws [] : State)).evr.log.drop (we : Sess).readIndex).take 2048).flatMap Rec.bytes).length + 16 ≤ (we : Sess).buf)) :=
  by
  refine ⟨?_, ?_, ⟨rfl, (wflu_length _ _).symm ▸ by decide +kernel⟩, ⟨rfl, rfl, by decide +kernel, Nat.le_of_eq (wflu_length _ _).symm⟩, ⟨rfl, rfl, by decide +kernel, (wflu_length _ _).symm ▸ by decide, (wflu_length _ _).symm ▸ by decide⟩, ?_, ?_, ?_, ?_, ?_, ?_⟩ <;> first | decide +kernel | (try unfold State.hears ; decide +kernel)

/-- DetectionsResetOrRestart: its hypotheses are met, clause by clause. -/
theorem witness_DetectionsResetOrRestart :
    ((((.railFault, 11)) ∈ [(Instr.lockstepMismatch, 0), (.registerParityError, 6), (.railFault, 11), (.timeCheckMismatch, 13)]) ∧ ((wb : State).aon.inReset = false)) ∧
    (((wb : State).coreRuns (2 : Fin 4).val = true)) ∧
    (((if (3 : Fin 4).val = 0 then (wb : State).aon.supRunning else (wb : State).coresRun) = true)) ∧
    (((0x15A : Word).toNat % 256 = 0x5A ∨ (0x15A : Word).toNat % 256 = 0xA5) ∧ ((2 : Fin 4).val < (wb : State).fault.kicks.length) ∧ ((((wb : State).fault.kicks.getD (2 : Fin 4).val none).map Prod.fst) ≠ some (BitVec.ofNat 8 (0x15A : Word).toNat)) ∧ (((((wb : State).fault.kicks.getD (2 : Fin 4).val none).map Prod.fst) = none ∨ (((2 : Fin 4).val ≠ 0 ∨ 1600000 ≤ (8000000 : Nat)) ∧ (8000000 : Nat) ≤ 8000000)))) ∧
    (((0x15A : Word).toNat % 256 = 0x5A ∨ (0x15A : Word).toNat % 256 = 0xA5) ∧ ((0 : Fin 4).val < ({ wb with fault := { wb.fault with kicks := [some (0xA5, 0), none, none, none] } } : State).fault.kicks.length) ∧ (((({ wb with fault := { wb.fault with kicks := [some (0xA5, 0), none, none, none] } } : State).fault.kicks.getD (0 : Fin 4).val none).map Prod.fst) ≠ some (BitVec.ofNat 8 (0x15A : Word).toNat)) ∧ (((({ wb with fault := { wb.fault with kicks := [some (0xA5, 0), none, none, none] } } : State).fault.kicks.getD (0 : Fin 4).val none).map Prod.fst) ≠ none) ∧ ((0 : Fin 4).val = 0) ∧ ((1599999 : Nat) < 1600000)) ∧
    (((0x15A : Word).toNat % 256 = 0x5A ∨ (0x15A : Word).toNat % 256 = 0xA5) ∧ ((2 : Fin 4).val < ({ wb with fault := { wb.fault with kicks := [none, none, some (0x5A, 0), none] } } : State).fault.kicks.length) ∧ (((({ wb with fault := { wb.fault with kicks := [none, none, some (0x5A, 0), none] } } : State).fault.kicks.getD (2 : Fin 4).val none).map Prod.fst) = some (BitVec.ofNat 8 (0x15A : Word).toNat))) ∧
    (((wb : State).aon.asleep = false) ∧ ((wb : State).mode.mode ≠ .drill) ∧ ((none : Option (Fin 16)) = none) ∧ (regionOf (0xB8000000 : Nat) = .integrator)) ∧
    (((wb : State).aon.asleep = false) ∧ ((wb : State).mode.mode ≠ .drill) ∧ ((none : Option (Fin 16)) = none) ∧ (regionOf (0x80000000 : Nat) = .supervisor)) :=
  by
  refine ⟨⟨by simp, ?_⟩, ?_, ?_, ?_, ?_, ?_, ?_, ?_⟩ <;> decide +kernel

/-- FlagsFollowTheirConditions: its hypotheses are met, clause by clause. -/
theorem witness_FlagsFollowTheirConditions :
    ((((fun (b : Bool) => Instr.trigReadbackMismatch (if b then 1 else 0), 14)) ∈ [(fun (b : Bool) => Instr.trigReadbackMismatch (if b then 1 else 0), 14), (fun b => .overtemp (if b then 12501 else 11500) 2500, 12), (fun b => .clockRateError (if b then -101 else 100), 9)]) ∧ ((wb : State).aon.inReset = false) ∧ ((wb : State).aonTakes = true)) ∧
    (((wb : State).aon.inReset = false) ∧ ((∀ m ∈ [(20 : Nat), (1 : Nat), (100 : Nat), (0 : Nat)], m < 2 ∨ 20 ≤ m))) ∧
    ((({ wb with ctl := { wb.ctl with sample := some { fire := 5, stamp := 5, late := false, core := {} } } } : State).ctl.sample ≠ none) ∧ (({ wb with ctl := { wb.ctl with sample := some { fire := 5, stamp := 5, late := false, core := {} } } } : State).rdB Reg.DRL_INJECT 31 = false)) ∧
    (((wb : State).ctl.sample = none)) ∧
    (((wb : State).aon.inReset = false)) ∧
    (((wb : State).aon.asleep = false)) ∧
    (((wb.wrB Reg.SUP_ACTIVE 5 true : State).coresRun = true) ∧ ((wb.wrB Reg.SUP_ACTIVE 5 true : State).mode.mode = .day) ∧ (([32, 0, 0, 0] : List Byte).length = 4) ∧ ((wb.wrB Reg.SUP_ACTIVE 5 true : State).held 0x2E00 2 = false) ∧ ((BitVec.ofNat 32 (fromLE ([32, 0, 0, 0] : List Byte))) &&& (wb.wrB Reg.SUP_ACTIVE 5 true : State).rd Reg.SUP_ACTIVE ≠ 0)) ∧
    (((wb : State).coresRun = true) ∧ ((wb : State).mode.mode = .day) ∧ (([0, 0, 0, 0x80] : List Byte).length = 4) ∧ ((wb : State).held 0x2E00 2 = false) ∧ ((BitVec.ofNat 32 (fromLE ([0, 0, 0, 0x80] : List Byte))) &&& (wb : State).rd Reg.SUP_ACTIVE = 0) ∧ (2 ^ 31 ≤ fromLE ([0, 0, 0, 0x80] : List Byte))) ∧
    (((wb : State).coresRun = true) ∧ ((wb : State).mode.mode = .day) ∧ (([0, 0, 0, 0x7F] : List Byte).length = 4) ∧ ((wb : State).held 0x2E00 2 = false) ∧ ((BitVec.ofNat 32 (fromLE ([0, 0, 0, 0x7F] : List Byte))) &&& (wb : State).rd Reg.SUP_ACTIVE = 0) ∧ (fromLE ([0, 0, 0, 0x7F] : List Byte) < 2 ^ 31)) ∧
    (((wb : State).coresRun = true) ∧ ((List.replicate 16 1 : List Byte).length = 16) ∧ ((wb : State).held 0x2E00 8 = false) ∧ ((wb : State).mode.mode = .day)) ∧
    (((wm .commission : State).coresRun = true) ∧ ((List.replicate 16 1 : List Byte).length = 16) ∧ ((wm .commission : State).held 0x2E00 8 = false) ∧ ((wm .commission : State).mode.mode = .commission) ∧ ((List.replicate 16 1 : List Byte) ≠ (wm .commission : State).eui ++ List.replicate 8 0)) ∧
    ((((wm .commission).setObj 0x1000 4 (List.replicate 8 0) : State).coresRun = true) ∧ ((List.replicate 16 0 : List Byte).length = 16) ∧ (((wm .commission).setObj 0x1000 4 (List.replicate 8 0) : State).held 0x2E00 8 = false) ∧ (((wm .commission).setObj 0x1000 4 (List.replicate 8 0) : State).mode.mode = .commission) ∧ ((List.replicate 16 0 : List Byte) = ((wm .commission).setObj 0x1000 4 (List.replicate 8 0) : State).eui ++ List.replicate 8 0)) ∧
    (((wb : State).fault.debugUnlocked = false)) ∧
    ((({ wb with fault := { wb.fault with debugUnlocked := true } } : State).fault.debugUnlocked = true)) :=
  by
  refine ⟨⟨List.mem_cons_self, by decide +kernel, by decide +kernel⟩, ?_, ?_, ?_, ?_, ?_, ?_, ?_, ?_, ?_, ?_, ?_, ?_, ?_⟩ <;> decide +kernel

/-- DrillsPerturbWithinTheirLimits: its hypotheses are met, clause by clause. -/
theorem witness_DrillsPerturbWithinTheirLimits :
    (((Instr.injectTrngStuck) ∈ [Instr.injectOneBitEcc, .injectTwoBitEcc, .injectLockstep, .injectClockMonitor, .injectGrayParity, .injectErrorResponse, .injectRetirementChecker, .injectCtlResidue, .injectWatchdogExpiry, .injectSinkOvercurrent, .injectTrngStuck, .injectLocalClockCounter]) ∧ ((.sup : Initiator).resident = true) ∧ ((((wb : State).mode.mode ≠ .drill ∧ (wb : State).mode.mode ≠ .day) ∨ (wb : State).rdB Reg.DRL_CTRL 0 = false))) ∧
    (((.sup : Initiator).resident = true) ∧ (((wm .drill).wrB Reg.DRL_CTRL 0 true : State).mode.mode = .drill) ∧ (((wm .drill).wrB Reg.DRL_CTRL 0 true : State).rdB Reg.DRL_CTRL 0 = true) ∧ (((Instr.injectSinkOvercurrent, 23, decide (((23 : BitVec 8)).toNat ≤ 23))) ∈ [(Instr.injectLockstep, 0, decide ((23 : BitVec 8).toNat = 0)), (.injectLocalClockCounter, 13, decide ((23 : BitVec 8).toNat = 0)), (.injectRetirementChecker, if (23 : BitVec 8).toNat = 3 then 4 else 3, decide ((23 : BitVec 8).toNat ≤ 3) && ((wm .drill).wrB Reg.DRL_CTRL 0 true : State).coreRuns (23 : BitVec 8).toNat), (.injectWatchdogExpiry, if (23 : BitVec 8).toNat = 0 then 1 else if (23 : BitVec 8).toNat ≤ 3 then 2 else if (23 : BitVec 8).toNat ≤ 6 then 3 else 4, decide ((23 : BitVec 8).toNat ≤ 7) && ((wm .drill).wrB Reg.DRL_CTRL 0 true : State).watchdogArmed (23 : BitVec 8).toNat), (.injectTrngStuck, 25, decide ((23 : BitVec 8).toNat = 0)), (.injectSinkOvercurrent, 23, decide ((23 : BitVec 8).toNat ≤ 23)), (.injectGrayParity, 10, decide ((23 : BitVec 8).toNat ≤ 33) && ((wm .drill).wrB Reg.DRL_CTRL 0 true : State).queueExists (23 : BitVec 8).toNat), (.injectClockMonitor, 8, decide ((23 : BitVec 8).toNat ≤ 18) && ((wm .drill).wrB Reg.DRL_CTRL 0 true : State).rdB Reg.SYS_CLKMON (23 : BitVec 8).toNat), (.injectCtlResidue, 16, decide ((23 : BitVec 8).toNat = 0) && ((wm .drill).wrB Reg.DRL_CTRL 0 true : State).ctl.sample.isSome)]) ∧ (((Instr.injectSinkOvercurrent, 23, decide (((23 : BitVec 8)).toNat ≤ 23))).2.2 = true)) ∧
    (((.sup : Initiator).resident = true) ∧ (((wm .drill).wrB Reg.DRL_CTRL 0 true : State).mode.mode = .drill) ∧ (((wm .drill).wrB Reg.DRL_CTRL 0 true : State).rdB Reg.DRL_CTRL 0 = true) ∧ ((18 : BitVec 8).toNat ≤ 18) ∧ (((wm .drill).wrB Reg.DRL_CTRL 0 true : State).rdB Reg.SYS_CLKMON (18 : BitVec 8).toNat = true)) ∧
    (((.sup : Initiator).resident = true) ∧ (((wm .drill).wrB Reg.DRL_CTRL 0 true : State).mode.mode = .drill) ∧ (((wm .drill).wrB Reg.DRL_CTRL 0 true : State).rdB Reg.DRL_CTRL 0 = true) ∧ ((23 : BitVec 8).toNat ≤ 23)) ∧
    (((.sup : Initiator).resident = true) ∧ (((wm .drill).wrB Reg.DRL_CTRL 0 true : State).mode.mode = .drill) ∧ (((wm .drill).wrB Reg.DRL_CTRL 0 true : State).rdB Reg.DRL_CTRL 0 = true) ∧ ((1 : BitVec 8).toNat ≤ 1) ∧ (((.injectTwoBitEcc, true)) ∈ [(Instr.injectOneBitEcc, false), (.injectTwoBitEcc, true)])) ∧
    (((.sup : Initiator).resident = true) ∧ (((wm .drill).wrB Reg.DRL_CTRL 0 true : State).mode.mode = .drill) ∧ (((wm .drill).wrB Reg.DRL_CTRL 0 true : State).rdB Reg.DRL_CTRL 0 = true) ∧ ((0 : BitVec 8).toNat = 0)) ∧
    (((.sup : Initiator).resident = true) ∧ (((wm .drill).wrB Reg.DRL_CTRL 0 true : State).mode.mode = .drill) ∧ (((wm .drill).wrB Reg.DRL_CTRL 0 true : State).rdB Reg.DRL_CTRL 0 = true) ∧ ((0 : BitVec 8).toNat = 0) ∧ (((wm .drill).wrB Reg.DRL_CTRL 0 true : State).ctl.sample = none)) ∧
    (((.sup : Initiator).resident = true) ∧ (((wm .drill).wrB Reg.DRL_CTRL 0 true : State).mode.mode = .drill) ∧ (((wm .drill).wrB Reg.DRL_CTRL 0 true : State).rdB Reg.DRL_CTRL 0 = true) ∧ (bit (0x80000121 : Word) 31 = true) ∧ (fld (0x80000121 : Word) 5 0 ≤ 33) ∧ (1 ≤ fld (0x80000121 : Word) 23 8) ∧ (fld (0x80000121 : Word) 5 0 < ((wm .drill).wrB Reg.DRL_CTRL 0 true : State).sys.queues.length) ∧ (((wm .drill).wrB Reg.DRL_CTRL 0 true : State).rdB Reg.DRL_QSTALL 31 = false)) ∧
    (((wb.wrB Reg.DRL_QSTALL 31 true : State).rdB Reg.DRL_QSTALL 31 = true) ∧ (((wb.wrB Reg.DRL_QSTALL 31 true : State).ctl_ 0).held = []) ∧ (((wb.wrB Reg.DRL_QSTALL 31 true : State).ctl_ 1).held = [])) ∧
    (((.sup : Initiator).resident = true) ∧ ((((wm .drill).wrB Reg.DRL_CTRL 0 true).wr Reg.SYS_CLKMON 0 : State).mode.mode = .drill) ∧ ((((wm .drill).wrB Reg.DRL_CTRL 0 true).wr Reg.SYS_CLKMON 0 : State).rdB Reg.DRL_CTRL 0 = true) ∧ ((((wm .drill).wrB Reg.DRL_CTRL 0 true).wr Reg.SYS_CLKMON 0 : State).rdB Reg.SYS_CLKMON 18 = false)) ∧
    (((.sup : Initiator).resident = true) ∧ (((wm .drill).wrB Reg.DRL_CTRL 0 true : State).mode.mode = .drill) ∧ (((wm .drill).wrB Reg.DRL_CTRL 0 true : State).rdB Reg.DRL_CTRL 0 = true) ∧ (((wm .drill).wrB Reg.DRL_CTRL 0 true : State).rdB Reg.SYS_CLKMON 18 = true)) ∧
    (((wb.wrB Reg.DRL_AON_TEST 0 true : State).rdB Reg.DRL_AON_TEST 0 = true) ∧ ((wb.wrB Reg.DRL_AON_TEST 0 true : State).aonTakes = true)) ∧
    (((.sup : Initiator).resident = true) ∧ (((wm .drill).wrB Reg.DRL_CTRL 0 true : State).rdB Reg.DRL_QSTALL 31 = false)) ∧
    ((({ wm .drill with fault := { wb.fault with proof := some { step := 12, passed := 12, firstFailed := none, began := 5 } } } : State).mode.mode = .drill) ∧ (({ wm .drill with fault := { wb.fault with proof := some { step := 12, passed := 12, firstFailed := none, began := 5 } } } : State).fault.proof = some ({ step := 12, passed := 12, firstFailed := none, began := 5 } : Proof)) ∧ (({ step := 12, passed := 12, firstFailed := none, began := 5 } : Proof).step < 13)) ∧
    ((({ wm .drill with fault := { wb.fault with proof := some { step := 0, passed := 0, firstFailed := none, began := 5 } } } : State).mode.mode = .drill) ∧ (({ wm .drill with fault := { wb.fault with proof := some { step := 0, passed := 0, firstFailed := none, began := 5 } } } : State).fault.proof = some ({ step := 0, passed := 0, firstFailed := none, began := 5 } : Proof)) ∧ (({ step := 0, passed := 0, firstFailed := none, began := 5 } : Proof).step = 0)) ∧
    ((({ wm .drill with fault := { wb.fault with proof := some { step := 13, passed := 13, firstFailed := none, began := 5 } } } : State).mode.mode = .drill) ∧ (({ wm .drill with fault := { wb.fault with proof := some { step := 13, passed := 13, firstFailed := none, began := 5 } } } : State).fault.proof = some ({ step := 13, passed := 13, firstFailed := none, began := 5 } : Proof)) ∧ (({ step := 13, passed := 13, firstFailed := none, began := 5 } : Proof).step = 13) ∧ (({ step := 13, passed := 13, firstFailed := none, began := 5 } : Proof).firstFailed = none)) :=
  by
  refine ⟨⟨by simp, by decide +kernel, by decide +kernel⟩, ⟨by decide +kernel, by decide +kernel, by decide +kernel, by simp, by decide +kernel⟩, ?_, ?_, ⟨by decide +kernel, by decide +kernel, by decide +kernel, by decide +kernel, by simp⟩, ?_, ?_, ?_, ?_, ?_, ?_, ?_, ?_, ?_, ?_, ?_⟩ <;> decide +kernel

/-! ## The spec's worked examples -/

theorem test_reset_canonical : State.reset.canonical := by
  unfold State.canonical; decide

/-- Chapter 1, a cabinet-peripheral partition: the table core 3 gets at its start. -/
theorem test_core3_run_applies_permissions :
    (match execCore3Run (wb.setObjN 0x2000 0x10 8 0x400000CF00000010) with
     | .next t => decide (t.rd Reg.SYS_PERM_LO = 0x00000010 ∧ t.rd Reg.SYS_PERM_HI = 0x000000CF ∧ t.rd Reg.SYS_PERM_DMA = 0x00004000)
     | _ => false) = true := by decide +kernel

/-- The same with 0b11 for MTR, which Table 1.8 caps at READ. -/
theorem test_core3_run_caps_mtr :
    (match execCore3Run (wb.setObjN 0x2000 0x10 8 0x400000CF00300010) with
     | .next t => decide (t.rd Reg.SYS_PERM_LO = 0x00100010)
     | _ => false) = true := by decide +kernel

/-- Chapter 4, a capture extended across a wrap. -/
theorem test_stamp_extended_across_wrap :
    { wb with time := { wb.time with now := 1749999998406615296 } }.extend 0xFFD0B2A0 = 1749999998303515296 := by decide +kernel

/-- Table 4.5, its first row: unit 2 after a forward step of 3,400,000 ns. -/
def wt2 : State :=
  { ((wb.wrB (Reg.TIME_TRIG_CTRL 2) 0 true).wrN (Reg.TIME_TRIG_PERIOD 2) 1000000).wrN (Reg.TIME_TRIG_WIDTH 2) 100000 with
    time := { wb.time with now := 1749999999499800000, trig := setAt wb.time.trig 2 { next := 4 * 1749999999500000000 } } }

theorem test_step_clock_fires_once_and_counts_missed :
    (match execStepClock .sup (wt2.wrN Reg.TIME_STEP_NS 3400000) with
     | .next t => decide ((t.trigger 2).pin = true ∧ t.rdB (Reg.TIME_TRIG_STAT 2) 1 = true ∧ t.rdF (Reg.TIME_TRIG_STAT 2) 31 16 = 3 ∧
         (t.trigger 2).next = 4 * 1749999999504000000 ∧ t.time.epoch = 1 ∧ t.time.now = 1749999999503200000)
     | _ => false) = true := by decide +kernel

/-- Chapter 7, one report, two windows: the car's event falls on the boundary at 1,750,000,020 s and counts in the later window. -/
def wcr : State :=
  let s := (((wb.setCard 1203 3 1 4).setCard 1203 5 1 2).setCard 1203 0x20 1 5).setCard 1203 0x28 1 0x2B
  { (s.setCard 1203 0x22 1 1).setMac 2 { s.mac 2 with marks := [(175000001800, 1750000018000000000), (175000002420, 1750000024200000000)] } with
    time := { s.time with now := 1750000024205360000 }
    traffic := { s.traffic with wins := [{ start := 1749999960000000000, stop := 1750000020000000000, length := 60 },
                                         { start := 1750000020000000000, stop := 1750000080000000000, length := 60 }] } }

theorem test_count_report_windows :
    (match execCountReport 1203 [0x2C, 0x02, 0x08, 0x1D, 0xD0, 0xBE, 0x28, 0, 0, 0, 0xF8, 0xE1, 0x16, 0x11, 0x18, 0x83, 0x1E, 0x74] 0x0781B4C0 0 175000002420 wcr with
     | .next t => decide ((t.traffic.wins.map (fun w => (w.start, w.stop, w.counts.length))) =
         [(1749999960000000000, 1750000020000000000, 1), (1750000020000000000, 1750000080000000000, 1)])
     | _ => false) = true := by decide +kernel

/-- Chapter 8, a swap at the output limit: the z vector takes E = −2, and −0.05 is stored as −1,677,722. -/
theorem test_bfp_shared_exponent :
    (BVec.norm [(0, ⟨7046431, -25⟩), (1, ⟨-54975581389, -40⟩)]).1 = { exp := -2, man := [(0, 7046431), (1, -1677722)] } := by decide +kernel

/-- Chapter 10, an envelope split across two windows: a Bell lasts 374 µs and a 64-byte fragment 235.75 µs, in counts of 12.5 ns. -/
theorem test_can_durations :
    wb.canDuration 0 { id := 0, brs := false, data := List.replicate 12 0 } = 374 * 80 ∧
    (wb.wrF (Reg.CAN_DATA_TIMING 0) 7 0 20).canDuration 0 { id := 0x200, data := List.replicate 64 0 } = 18860 := by decide +kernel

/-- R447: a flush stores ordinary records below index 262,080 and counts the rest. -/
theorem test_flush_of_two :
    (match execEvrFlush { wb with evr := { wb.evr with flushDue := true, buffer := [{ time := 5, source := 4, flags := 0, code := 1, seq := 9, p0 := 0, p1 := 0, p2 := 0 },
        { time := 6, source := 4, flags := 0, code := 1, seq := 10, p0 := 0, p1 := 0, p2 := 0 }] } } with
     | .next t => decide (t.evr.log.map Rec.seq = [9, 10] ∧ t.evr.buffer = [] ∧ t.evr.lastSeq = 10)
     | _ => false) = true := by decide +kernel

/-- A step runs the command at the front of the queue and keeps the rest. -/
theorem test_step_runs_the_front_command :
    (match step { wb with pending := [.core3Run, .core3Hold] } with
     | .next t => decide (t.rdB Reg.SYS_CORE3_CTRL 0 = true ∧ t.pending = [.core3Hold])
     | _ => false) = true := by decide +kernel

end Sys2Proof.Tests
end

section
/-! PROOFS. Statements about the bus errors (R39) and the permission registers (R20). -/

namespace Sys2Proof.Machine

/-! ## Fields of words -/

/-- The two bits of a slot's code, as a digit of the word in base 4. -/
theorem fld_two_bits (w : Word) (k : Nat) : fld w (2 * k + 1) (2 * k) = w.toNat / 4 ^ k % 4 := by
  have hwidth : 2 * k + 1 + 1 - 2 * k = 2 := by omega
  have hpow : 2 ^ (2 * k) = 4 ^ k := Nat.pow_mul 2 2 k
  simp only [fld, hwidth, Nat.shiftRight_eq_div_pow, hpow, Nat.reducePow]

theorem fld_two_bits_lt (w : Word) (k : Nat) : fld w (2 * k + 1) (2 * k) < 4 := by
  rw [fld_two_bits]
  exact Nat.mod_lt _ (by decide)

/-! ## The bus errors (R39) -/

/-- Table 1.1: every initiator's number fits SYS_BUS_ERR.INITIATOR. -/
theorem initiator_number_lt (ini : Initiator) : ini.number < 32 := by
  cases ini <;> decide

/-- The word SYS_BUS_ERR holds when a bus error sets its flag: with the initiator captured where no flag was set. -/
def State.busErrCapture (s : State) (ini : Initiator) : Word :=
  if s.rdF Reg.SYS_BUS_ERR 3 0 = 0 then setFld (s.rd Reg.SYS_BUS_ERR) 12 8 ini.number else s.rd Reg.SYS_BUS_ERR

theorem State.rd_busError_flags (s : State) (f : Nat) (ini : Initiator) (a : Nat) :
    (s.busError f ini a).rd Reg.SYS_BUS_ERR = putBit (s.busErrCapture ini) f true := by
  have hne : Reg.SYS_BUS_ERR ≠ Reg.SYS_BUS_ERR_ADDR := by decide
  unfold State.busError State.busErrCapture State.rdF
  dsimp only
  split
  · rw [State.rd_wrN_ne _ _ hne, State.rd_wr_same]
  · rw [State.rd_wr_same]

theorem State.rd_busError_addr (s : State) (f : Nat) (ini : Initiator) (a : Nat) :
    (s.busError f ini a).rd Reg.SYS_BUS_ERR_ADDR =
      if s.rdF Reg.SYS_BUS_ERR 3 0 = 0 then BitVec.ofNat 32 a else s.rd Reg.SYS_BUS_ERR_ADDR := by
  have hne : Reg.SYS_BUS_ERR_ADDR ≠ Reg.SYS_BUS_ERR := by decide
  unfold State.busError State.rdF
  dsimp only
  split
  · rw [State.rd_wrN_same]
    exact BitVec.eq_of_toNat_eq (by simp)
  · rw [State.rd_wr_ne _ _ hne]

/-- A capture leaves every flag as it was. -/
theorem State.bit_busErrCapture (s : State) (ini : Initiator) {g : Nat} (hg : g < 4) :
    bit (s.busErrCapture ini) g = s.rdB Reg.SYS_BUS_ERR g := by
  unfold State.busErrCapture
  split
  · exact bit_setFld_ne _ _ _ _ _ (by decide) (.inl (by omega))
  · rfl

theorem State.rdB_busError (s : State) (ini : Initiator) (a : Nat) {f g : Nat} (hf : f < 4) (hg : g < 4) :
    (s.busError f ini a).rdB Reg.SYS_BUS_ERR g = if f = g then true else s.rdB Reg.SYS_BUS_ERR g := by
  rw [State.rdB, State.rd_busError_flags, bit_putBit _ _ _ _ (by omega), State.bit_busErrCapture s ini hg]

theorem State.rdF_busError_initiator (s : State) (ini : Initiator) (a : Nat) {f : Nat} (hf : f < 4) :
    (s.busError f ini a).rdF Reg.SYS_BUS_ERR 12 8 =
      if s.rdF Reg.SYS_BUS_ERR 3 0 = 0 then ini.number else s.rdF Reg.SYS_BUS_ERR 12 8 := by
  rw [State.rdF, State.rd_busError_flags, fld_putBit_ne _ _ _ _ _ (by omega) (.inr (by omega)), State.busErrCapture]
  split
  · rw [fld_setFld_same _ _ _ _ (by decide) (by decide)]
    exact Nat.mod_eq_of_lt (initiator_number_lt ini)
  · rfl

/-- Settles O7: SYS_BUS_ERR's flags, its INITIATOR and SYS_BUS_ERR_ADDR after a bus error, each by its own equation. -/
theorem firstBusErrorIsCaptured : Obligations.FirstBusErrorIsCaptured := by
  intro f ini a s hf
  refine ⟨?_, fun g hg hset => ?_, fun hclear => ⟨?_, ?_⟩, fun hset => ⟨?_, ?_⟩⟩
  · rw [State.rdB_busError s ini a hf hf, if_pos rfl]
  · rw [State.rdB_busError s ini a hf hg, hset, ite_self]
  · rw [State.rdF_busError_initiator s ini a hf, if_pos hclear]
  · rw [State.rd_busError_addr, if_pos hclear]
  · rw [State.rdF_busError_initiator s ini a hf, if_neg hset]
  · rw [State.rd_busError_addr, if_neg hset]

/-! ## The permission registers (R20) -/

theorem permStore_lt {slot c : Nat} (hc : c < 4) : permStore slot c < 4 := by
  unfold permStore
  split
  · decide
  · exact Nat.lt_of_le_of_lt (Nat.min_le_left _ _) hc

theorem permStoreAll_lt (n : Nat) : ∀ v slot : Nat, permStoreAll v slot n < 4 ^ n := by
  induction n with
  | zero => intro v slot; exact Nat.one_pos
  | succ n ih =>
    intro v slot
    have hdigit := permStore_lt (slot := slot) (Nat.mod_lt v (by decide : 4 > 0))
    have hrest := ih (v / 4) (slot + 1)
    rw [permStoreAll, Nat.pow_succ]
    omega

/-- The k-th code stored is the k-th code written under the cap of its own slot: the codes do not run into each other. -/
theorem permStoreAll_digit (n : Nat) : ∀ v slot k : Nat, k < n →
    permStoreAll v slot n / 4 ^ k % 4 = permStore (slot + k) (v / 4 ^ k % 4) := by
  induction n with
  | zero => intro v slot k hk; omega
  | succ n ih =>
    intro v slot k hk
    have hdigit := permStore_lt (slot := slot) (Nat.mod_lt v (by decide : 4 > 0))
    rw [permStoreAll]
    cases k with
    | zero => simp only [Nat.pow_zero, Nat.div_one, Nat.add_zero]; omega
    | succ k =>
      have hdrop : (permStore slot (v % 4) + 4 * permStoreAll (v / 4) (slot + 1) n) / 4 = permStoreAll (v / 4) (slot + 1) n := by omega
      rw [Nat.pow_succ', ← Nat.div_div_eq_div_mul, hdrop, ih _ _ k (by omega), Nat.div_div_eq_div_mul, Nat.add_right_comm, Nat.add_assoc]

/-- What a slot's field reads once the codes of `v`, n of them from slot `slot` on, are stored in a register. -/
theorem fld_permStoreAll (v : Word) (slot n k : Nat) (hn : n ≤ 16) (hk : k < n) :
    fld (BitVec.ofNat 32 (permStoreAll v.toNat slot n)) (2 * k + 1) (2 * k) = permStore (slot + k) (fld v (2 * k + 1) (2 * k)) := by
  have hlt : permStoreAll v.toNat slot n < 2 ^ 32 :=
    calc permStoreAll v.toNat slot n < 4 ^ n := permStoreAll_lt n _ _
      _ ≤ 4 ^ 16 := Nat.pow_le_pow_right (by decide) hn
      _ = 2 ^ 32 := by decide
  rw [fld_two_bits, fld_two_bits, BitVec.toNat_ofNat, Nat.mod_eq_of_lt hlt, permStoreAll_digit n _ _ _ hk]

/-- Neither core 3's table (R23) nor the writer's identity (R38) stops the supervisor's write. -/
theorem exec_sysPermWrite_sup (which : Fin 3) (v : Word) (s : State) :
    exec (.sysPermWrite .sup which v) s = .next ((s.permWrite which.val v.toNat).answer 0) := by
  change execSysPermWrite .sup which v s = _
  simp [execSysPermWrite, State.regWrite, State.permGate, State.reservedTo]

theorem State.rd_permWrite_answer (s : State) (which v : Nat) :
    ((s.permWrite which v).answer 0).rd (permReg which) = BitVec.ofNat 32 (permValue which v) := by
  rw [State.rd_answer, State.permWrite, State.rd_wrN_same]

theorem State.regsKept_permWrite (s : State) (which v : Nat) :
    State.regsKept [permReg which] s ((s.permWrite which v).answer 0) := by
  intro a ha
  rw [State.rd_answer, State.permWrite, State.rd_wrN_ne _ _ (by simpa using ha)]

theorem State.permWrite_frame (s : State) (which v : Nat) :
    (s.permWrite which v).answer 0 =
      { s with regs := ((s.permWrite which v).answer 0).regs, bus := ((s.permWrite which v).answer 0).bus } := rfl

theorem State.permLevel_permWrite_lo (s : State) (v : Word) {slot : Nat} (h : slot < 16) :
    ((s.permWrite 0 v.toNat).answer 0).permLevel slot = permStore slot (fld v (2 * slot + 1) (2 * slot)) := by
  have hrd := State.rd_permWrite_answer s 0 v.toNat
  simp only [permReg, permValue] at hrd
  rw [State.permLevel, if_pos h, State.rdF, hrd, fld_permStoreAll v 0 16 slot (by decide) h, Nat.zero_add]

theorem State.permLevel_permWrite_hi (s : State) (v : Word) {slot : Nat} (h : 16 ≤ slot) (h' : slot < 24) :
    ((s.permWrite 1 v.toNat).answer 0).permLevel slot = permStore slot (fld v (2 * (slot - 16) + 1) (2 * (slot - 16))) := by
  have hrd := State.rd_permWrite_answer s 1 v.toNat
  simp only [permReg, permValue] at hrd
  rw [State.permLevel, if_neg (by omega), State.rdF, hrd, fld_permStoreAll v 16 8 (slot - 16) (by decide) (by omega),
    Nat.add_sub_cancel' h]

/-- Table 1.8 for the slots of SYS_PERM_LO. -/
theorem permStore_lo {slot c : Nat} (h : slot < 16) (hc : c < 4) :
    permStore slot c = if c = 2 ∨ slot = 3 then 0
      else if slot = 0 ∨ slot = 1 ∨ slot = 4 ∨ slot = 5 ∨ slot = 6 ∨ slot = 7 ∨ slot = 8 ∨ slot = 10 then min c 1 else c := by
  unfold permStore permCap
  repeat' split
  all_goals omega

/-- Table 1.8 for the slots of SYS_PERM_HI. -/
theorem permStore_hi {slot c : Nat} (h : 16 ≤ slot) (hc : c < 4) :
    permStore slot c = if c = 2 ∨ slot = 0x12 ∨ slot = 0x15 ∨ slot = 0x16 ∨ slot = 0x17 then 0
      else if slot = 0x14 then min c 1 else c := by
  unfold permStore permCap
  repeat' split
  all_goals omega

/-- R20: the grants of channels 12 to 15 as written. -/
theorem fld_permValue_dma_grants (v : Word) : fld (BitVec.ofNat 32 (permValue 2 v.toNat)) 15 12 = fld v 15 12 := by
  simp only [permValue, fld, BitVec.toNat_ofNat, Nat.shiftRight_eq_div_pow]
  omega

/-- R20: channels 0 to 11 are never grantable. -/
theorem fld_permValue_dma_ungrantable (v : Word) : fld (BitVec.ofNat 32 (permValue 2 v.toNat)) 11 0 = 0 := by
  simp only [permValue, fld, BitVec.toNat_ofNat, Nat.shiftRight_eq_div_pow]
  omega

/-- Settles O8: each register's codes, slot by slot as digits in base 4, under the caps of Table 1.8. -/
theorem permissionWritesStoreCappedLevels : Obligations.PermissionWritesStoreCappedLevels := by
  intro v s
  refine ⟨⟨_, exec_sysPermWrite_sup 0 v s, fun slot h => ?_, State.regsKept_permWrite s 0 _, State.permWrite_frame s 0 _⟩,
    ⟨_, exec_sysPermWrite_sup 1 v s, fun slot h h' => ?_, State.regsKept_permWrite s 1 _, State.permWrite_frame s 1 _⟩,
    ⟨_, exec_sysPermWrite_sup 2 v s, ?_, ?_, State.regsKept_permWrite s 2 _, State.permWrite_frame s 2 _⟩⟩
  · exact (State.permLevel_permWrite_lo s v h).trans (permStore_lo h (fld_two_bits_lt v _))
  · exact (State.permLevel_permWrite_hi s v h h').trans (permStore_hi h (fld_two_bits_lt v _))
  · exact (congrArg (fld · 15 12) (State.rd_permWrite_answer s 2 v.toNat)).trans (fld_permValue_dma_grants v)
  · exact (congrArg (fld · 11 0) (State.rd_permWrite_answer s 2 v.toNat)).trans (fld_permValue_dma_ungrantable v)

end Sys2Proof.Machine
end

section
/-! PROOFS. The supplies: the mains and battery comparators and the AON source (R60, R62, R66, R482). -/

namespace Sys2Proof.Machine

/-! ## What leaves the always-on domain alone -/

/-- The always-on domain's own state and every register of its page are as they were. An update of other fields of the state keeps this by
unfolding: there a proof below is the hypothesis itself, `by exact h`. -/
def State.aonKept (s t : State) : Prop := t.aon = s.aon ∧ ∀ a, 0x40010000 ≤ a → a < 0x40020000 → t.rd a = s.rd a

theorem State.aonKept.refl (s : State) : State.aonKept s s := ⟨rfl, fun _ _ _ => rfl⟩

theorem State.aonKept.wr {s t : State} (h : State.aonKept s t) {a : Nat} (v : Word) (ha : a < 0x40010000 ∨ 0x40020000 ≤ a) :
    State.aonKept s (t.wr a v) := by
  obtain ⟨haon, hregs⟩ := h
  exact ⟨haon, fun b hlo hhi => (State.rd_wr_ne t v (by omega)).trans (hregs b hlo hhi)⟩

theorem State.aonKept.wrF {s t : State} (h : State.aonKept s t) {a : Nat} (hi lo v : Nat) (ha : a < 0x40010000 ∨ 0x40020000 ≤ a) :
    State.aonKept s (t.wrF a hi lo v) := h.wr _ ha

theorem State.aonKept.wrB {s t : State} (h : State.aonKept s t) {a : Nat} (i : Nat) (b : Bool) (ha : a < 0x40010000 ∨ 0x40020000 ≤ a) :
    State.aonKept s (t.wrB a i b) := h.wr _ ha

theorem State.aonKept.bump {s t : State} (h : State.aonKept s t) {a : Nat} (n : Nat) (ha : a < 0x40010000 ∨ 0x40020000 ≤ a) :
    State.aonKept s (t.bump a n) := h.wr _ ha

theorem State.aonKept.ite {s t u : State} {c : Prop} [Decidable c] (ht : State.aonKept s t) (hu : State.aonKept s u) :
    State.aonKept s (if c then t else u) := by
  split
  · exact ht
  · exact hu

/-- A register of a channel or an engine, at an offset from a register above the always-on domain's page. -/
theorem register_off_aon {base : Nat} (offset : Nat) (hbase : 0x40020000 ≤ base) :
    base + offset < 0x40010000 ∨ 0x40020000 ≤ base + offset := .inr (Nat.le_add_right_of_le hbase)

/-! ### The event record (R444 to R449) -/

theorem State.aonKept.bufDrop {s t : State} (h : State.aonKept s t) : State.aonKept s t.bufDrop :=
  State.aonKept.wrB (by exact h) 4 true (.inr (by decide))

/-- A flag of the recorder's interrupt status, set where its condition holds. -/
theorem State.aonKept.evrFlag {s t : State} (h : State.aonKept s t) (c : Prop) [Decidable c] (i : Nat) :
    State.aonKept s (if c then t.wrB Reg.EVR_INT_STAT i true else t) := (h.wrB i true (.inr (by decide))).ite h

theorem State.aonKept.logAppend {s t : State} (h : State.aonKept s t) (r : Rec) : State.aonKept s (t.logAppend r) :=
  State.aonKept.evrFlag (State.aonKept.evrFlag (by exact h) _ 1) _ 2

theorem State.aonKept.logStore {s t : State} (h : State.aonKept s t) (r : Rec) : State.aonKept s (t.logStore r) :=
  (h.logAppend r).ite (State.aonKept.wrB (by exact h) 3 true (.inr (by decide)))

/-- A record dropped, written to the log after those buffered, or buffered. -/
theorem State.aonKept.recPlace {s t : State} (h : State.aonKept s t) (r : Rec) : State.aonKept s (t.recPlace r) :=
  have hstored := (List.foldlRecOn t.evr.buffer State.logStore (by exact h) fun _ hu e _ => hu.logStore e :
    State.aonKept s (t.evr.buffer.foldl State.logStore { t with evr := { t.evr with buffer := [] } }))
  h.bufDrop.ite ((hstored.logStore r).ite (h.bufDrop.ite (by exact h)))

theorem State.aonKept.record {s t : State} (h : State.aonKept s t) (src code p0 p1 p2 : Nat) :
    State.aonKept s (t.record src code p0 p1 p2) := State.aonKept.recPlace (by exact h) _

/-! ### The DMA engine -/

theorem State.aonKept.busError {s t : State} (h : State.aonKept s t) (f : Nat) (ini : Initiator) (a : Nat) :
    State.aonKept s (t.busError f ini a) :=
  ((h.wr _ (.inl (by decide))).wr _ (.inl (by decide))).ite (h.wr _ (.inl (by decide)))

/-- The DMA engine writes memory alone; a refused write shows in SYS_BUS_ERR (R39). -/
theorem State.aonKept.busWrite_dma {s t : State} (h : State.aonKept s t) (g : Bool) (a : Nat) (bs : List Byte) :
    State.aonKept s (t.busWrite .dma g a bs) := (h.busError _ _ _).ite (by exact h)

theorem State.aonKept.copyPairs {s t : State} (h : State.aonKept s t) (g : Bool) (l : List (Nat × Nat × Nat)) :
    State.aonKept s (t.copyPairs g l) := List.foldlRecOn l _ h fun _ hu _ _ => hu.busWrite_dma g _ _

theorem State.aonKept.dmaFlags {s t : State} (h : State.aonKept s t) (c : Nat) (halted : Bool) :
    State.aonKept s (t.dmaFlags c halted) :=
  have hstat := register_off_aon (base := 0x400F0108) (64 * c) (by decide)
  (((h.wrB 0 _ hstat).wrB 1 _ hstat).wrB c _ (.inr (by decide))).wrB (16 + c) _ (.inr (by decide))

theorem State.aonKept.setDma {s t : State} (h : State.aonKept s t) (c : Nat) (d : DmaCh) : State.aonKept s (t.setDma c d) := h

theorem State.aonKept.dmaReturn {s t : State} (h : State.aonKept s t) (c : Nat) (d : List Byte) (w : WriteBack) :
    State.aonKept s (t.dmaReturn c d w) := by
  have hoff := fun base => register_off_aon (base := base) (64 * c)
  have hwritten := h.busWrite_dma (t.dmaGranted c) (t.descAddr c (t.dmaTail c)) (descBack d w)
  have hcounted := ((hwritten.bump (a := Reg.DMA_CH_TAIL c) 1 (hoff _ (by decide))).bump (a := Reg.DMA_CH_DESCS c) 1
    (hoff _ (by decide))).bump (a := Reg.DMA_CH_BYTES c) w.count (hoff _ (by decide))
  have hstatus := fun e => (hcounted.setDma c e).wrF (a := Reg.DMA_CH_STAT c) 15 8 w.status (hoff _ (by decide))
  have hflagged := fun e => ((hstatus e).wrB (a := Reg.DMA_INT_STAT) c true (.inr (by decide))).ite (c := descFlag d 1) (hstatus e)
  exact (hflagged _).ite (((hflagged _).dmaFlags c true).wrB (16 + c) true (.inr (by decide)))

theorem State.aonKept.dmaStop {s t : State} (h : State.aonKept s t) (c : Nat) : State.aonKept s (t.dmaStop c) := by
  unfold State.dmaStop
  split
  · exact h
  · exact State.aonKept.dmaReturn (State.aonKept.ite (State.aonKept.copyPairs (by exact h) _ _) (by exact h)) c _ _

/-! ### The transmitters, the halyards and the probation's count -/

/-- A write of MACn_CTRL without FLUSH. -/
theorem State.aonKept.macCtrlWrite {s t : State} (h : State.aonKept s t) (n : Nat) (v : Word) (hflush : bit v 4 = false) :
    State.aonKept s (t.macCtrlWrite n v) := by
  have hoff := fun base => register_off_aon (base := base) (0x10000 * n)
  simp only [State.macCtrlWrite, hflush, Bool.false_eq_true, if_false]
  exact State.aonKept.wrB (State.aonKept.wrF (by exact h) _ _ _ (hoff 0x40040000 (by decide))) _ _ (hoff 0x40040004 (by decide))

theorem State.aonKept.canTail {s t : State} (h : State.aonKept s t) (b : Nat) (on : Bool) : State.aonKept s (t.canTail b on) := h

theorem State.aonKept.halStop {s t : State} (h : State.aonKept s t) (x : Nat) : State.aonKept s (t.halStop x) := by
  unfold State.halStop
  dsimp only
  split <;> exact h

theorem State.aonKept.probRun {s t : State} (h : State.aonKept s t) (on : Bool) : State.aonKept s (t.probRun on) :=
  State.aonKept.wrF (a := Reg.UPD_PROB_ELAPSED) (by exact h) 15 0 t.probElapsed (.inr (by decide))

/-! ## The supplies -/

/-- R62: a loss of power begins the flush, and else leaves the always-on domain as it was. -/
theorem State.aonKept_powerLoss (s : State) (hrun : s.aon.supRunning = true) (hflush : s.aon.flushing = false) :
    State.aonKept { s with aon := { s.aon with flushing := true, flushStart := s.eventTime } } s.powerLoss := by
  have hbegun : (s.aon.supRunning && !s.aon.flushing) = true := by simp [hrun, hflush]
  rw [State.powerLoss, if_pos hbegun]
  dsimp only
  refine State.aonKept.probRun (State.aonKept.halStop (State.aonKept.halStop ?_ 0) 1) false
  refine State.aonKept.canTail (State.aonKept.canTail ?_ 0 true) 1 true
  refine List.foldlRecOn _ _ ?_ fun _ hu n _ => hu.macCtrlWrite n 0 rfl
  refine List.foldlRecOn _ _ ?_ fun _ hu c _ => hu.dmaStop c
  exact State.aonKept.record (by exact State.aonKept.refl _) 0x16 3 0 _ 0

/-! ### Reads of a register after a write of another part of it -/

theorem State.rdB_wrF_ne (s : State) (a hi lo v i : Nat) (h : hi < 32) (hd : i < lo ∨ hi < i) :
    (s.wrF a hi lo v).rdB a i = s.rdB a i := by
  rw [State.rdB, State.rd_wrF_same, bit_setFld_ne _ _ _ _ _ h hd, State.rdB]

theorem State.regsKept_wr {l : List Nat} {s t : State} (h : State.regsKept l s t) {a : Nat} (v : Word) (ha : a ∈ l) :
    State.regsKept l s (t.wr a v) := fun b hb =>
  (State.rd_wr_ne t v fun hba => hb (by rw [hba]; exact ha)).trans (h b hb)

/-! ### The battery comparator (R66) -/

theorem aonSupply_eq (vin vbat : Nat) : aonSupply vin vbat = if 9000 ≤ vin then 0 else if 9000 ≤ vbat then 1 else 2 := by
  simp [aonSupply]

theorem aonSupply_lt (vin vbat : Nat) : aonSupply vin vbat < 2 ^ (9 + 1 - 8) := by
  rw [aonSupply_eq]
  split
  · decide
  · split <;> decide

/-- AON_STATUS with BAT_LOW and then SOURCE replaced. -/
theorem State.rdB_batLow (s : State) (low : Bool) (src : Nat) :
    ((s.wrB Reg.AON_STATUS 1 low).wrF Reg.AON_STATUS 9 8 src).rdB Reg.AON_STATUS 1 = low := by
  rw [State.rdB_wrF_ne _ _ _ _ _ _ (by decide) (.inl (by decide)), State.rdB_wrB_same _ _ _ _ (by decide)]

theorem State.regsKept_batLow (s : State) (low : Bool) (src : Nat) :
    State.regsKept [Reg.AON_STATUS] s ((s.wrB Reg.AON_STATUS 1 low).wrF Reg.AON_STATUS 9 8 src) :=
  State.regsKept_wr (State.regsKept_wr (fun _ _ => rfl) _ (by simp)) _ (by simp)

/-! ### The mains comparator and the source (R60, R482) -/

/-- R60: the comparator's output once VIN is `vin`. -/
def State.comparatorAt (s : State) (vin : Nat) : Bool := Nat.ble 17000 vin || (s.aon.comparator && Nat.ble 16000 vin)

theorem State.comparatorAt_eq (s : State) (vin : Nat) :
    s.comparatorAt vin = if 17000 ≤ vin then true else if 16000 ≤ vin then s.aon.comparator else false := by
  unfold State.comparatorAt
  have hclear : ∀ level, ¬ level ≤ vin → Nat.ble level vin = false := fun level h => by simpa [← Bool.not_eq_true] using h
  split
  case isTrue hset => rw [Nat.ble_eq.mpr hset, Bool.true_or]
  case isFalse hset =>
    rw [hclear _ hset, Bool.false_or]
    split
    case isTrue hkept => rw [Nat.ble_eq.mpr hkept, Bool.and_true]
    case isFalse hkept => rw [hclear _ hkept, Bool.and_false]

/-- What a change of the supplies leaves before a loss of mains begins the flush. -/
def State.supplied (s : State) (vin vbat : Nat) : State :=
  (({ s with aon := { s.aon with vin := vin, vbat := vbat, comparator := s.comparatorAt vin } }.wrB Reg.AON_STATUS 0
    (s.rdB Reg.AON_STATUS 0 && s.comparatorAt vin)).wrF Reg.AON_STATUS 9 8 (aonSupply vin vbat)).contRefresh

theorem State.supplies_eq (s : State) (vin vbat : Nat) :
    s.supplies vin vbat =
      if s.rdB Reg.AON_STATUS 0 && !s.comparatorAt vin then (s.supplied vin vbat).ratingOut.powerLoss else s.supplied vin vbat := rfl

/-- R48: the contactors' outputs show in AON_CONT_STAT alone. -/
theorem State.rd_contRefresh_status (s : State) : s.contRefresh.rd Reg.AON_STATUS = s.rd Reg.AON_STATUS :=
  State.rd_wrF_ne s 3 0 s.contOut (by decide)

/-- R48: no output without MAINS. -/
theorem State.rdF_contRefresh_out_of_no_mains (s : State) (h : s.rdB Reg.AON_STATUS 0 = false) :
    s.contRefresh.rdF Reg.AON_CONT_STAT 3 0 = 0 := by
  have hout : s.contOut = 0 := by simp [State.contOut, h]
  rw [State.contRefresh, hout, State.rdF_wrF_same _ _ _ _ _ (by decide) (by decide), Nat.zero_mod]

theorem State.rdB_supplied_mains (s : State) (vin vbat : Nat) :
    (s.supplied vin vbat).rdB Reg.AON_STATUS 0 = (s.rdB Reg.AON_STATUS 0 && s.comparatorAt vin) := by
  rw [State.supplied, State.rdB, State.rd_contRefresh_status, ← State.rdB, State.rdB_wrF_ne _ _ _ _ _ _ (by decide) (.inl (by decide)),
    State.rdB_wrB_same _ _ _ _ (by decide)]

theorem State.rdF_supplied_source (s : State) (vin vbat : Nat) :
    (s.supplied vin vbat).rdF Reg.AON_STATUS 9 8 = aonSupply vin vbat := by
  rw [State.supplied, State.rdF, State.rd_contRefresh_status, ← State.rdF, State.rdF_wrF_same _ _ _ _ _ (by decide) (by decide),
    Nat.mod_eq_of_lt (aonSupply_lt vin vbat)]

theorem State.rdF_supplied_out (s : State) (vin vbat : Nat) (h : s.comparatorAt vin = false) :
    (s.supplied vin vbat).rdF Reg.AON_CONT_STAT 3 0 = 0 := by
  refine State.rdF_contRefresh_out_of_no_mains _ ?_
  rw [State.rdB_wrF_ne _ _ _ _ _ _ (by decide) (.inl (by decide)), State.rdB_wrB_same _ _ _ _ (by decide), h, Bool.and_false]

theorem State.regsKept_supplied (s : State) (vin vbat : Nat) :
    State.regsKept [Reg.AON_STATUS, Reg.AON_CONT_STAT] s (s.supplied vin vbat) :=
  State.regsKept_wr (State.regsKept_wr (State.regsKept_wr (fun _ _ => rfl) _ (by simp)) _ (by simp)) _ (by simp)

/-- R60: the supplies change with no loss of mains. -/
theorem State.supplies_of_mains_kept (s : State) (vin vbat : Nat) (h : s.rdB Reg.AON_STATUS 0 = true → s.comparatorAt vin = true) :
    s.supplies vin vbat = s.supplied vin vbat := by
  rw [State.supplies_eq, if_neg]
  cases hmains : s.rdB Reg.AON_STATUS 0
  · simp
  · simp [h hmains]

/-- R60, R62: VIN falls below 16.0 V with MAINS 1: the comparator, MAINS and the outputs clear, and the flush begins. -/
theorem State.supplies_of_mains_lost (s : State) (vin vbat : Nat) (hmains : s.rdB Reg.AON_STATUS 0 = true) (hlow : vin < 16000)
    (hrun : s.aon.supRunning = true) (hflush : s.aon.flushing = false) :
    (s.supplies vin vbat).rdB Reg.AON_STATUS 0 = false ∧ (s.supplies vin vbat).aon.comparator = false ∧
      (s.supplies vin vbat).aon.flushing = true ∧ (s.supplies vin vbat).rdF Reg.AON_CONT_STAT 3 0 = 0 := by
  have hcomp : s.comparatorAt vin = false := by
    rw [State.comparatorAt_eq, if_neg (by omega), if_neg (by omega)]
  obtain ⟨haon, hregs⟩ := State.aonKept_powerLoss (s.supplied vin vbat).ratingOut hrun hflush
  have hstatus := hregs Reg.AON_STATUS (by decide) (by decide)
  have hcont := hregs Reg.AON_CONT_STAT (by decide) (by decide)
  rw [State.supplies_eq, if_pos (by simp [hmains, hcomp])]
  refine ⟨?_, ?_, ?_, ?_⟩
  · calc _ = (s.supplied vin vbat).rdB Reg.AON_STATUS 0 := congrArg (bit · 0) hstatus
      _ = false := by rw [State.rdB_supplied_mains, hcomp, Bool.and_false]
  · exact (congrArg AonState.comparator haon).trans hcomp
  · exact congrArg AonState.flushing haon
  · exact (congrArg (fld · 3 0) hcont).trans (State.rdF_supplied_out s vin vbat hcomp)

/-- Settles O14: the events of each comparator by their guards, and a change of the source by whether mains is kept or lost. -/
theorem suppliesSetTheComparators : Obligations.SuppliesSetTheComparators := by
  refine ⟨fun vin s h => ?_, fun vbat s h => ?_, fun vbat s h => ?_, fun vbat s h => ?_, fun vbat s h => ?_, fun vin vbat s hlevel hset => ?_,
    fun vin vbat s hmains hlow hrun hflush => ?_⟩
  · have hsource : aonSupply vin s.aon.vbat = 0 := by rw [aonSupply_eq, if_pos (by omega)]
    refine ⟨_, congrArg Host.Outcome.next (if_pos (Nat.ble_eq.mpr h)), rfl, rfl, ?_, ?_, ?_, rfl⟩
    · rw [State.rdF_wrF_same _ _ _ _ _ (by decide) (by decide), hsource, Nat.zero_mod]
    · exact State.rdB_wrF_ne _ _ _ _ _ _ (by decide) (.inl (by decide))
    · exact State.regsKept_wr (fun _ _ => rfl) _ (by simp)
  · exact ⟨_, congrArg Host.Outcome.next (if_pos h), State.rdB_batLow _ _ _, rfl, State.regsKept_batLow _ _ _⟩
  · exact ⟨_, congrArg Host.Outcome.next (if_pos h), State.rdB_batLow _ _ _, rfl, State.regsKept_batLow _ _ _⟩
  · exact congrArg Host.Outcome.next (if_neg (by omega))
  · exact congrArg Host.Outcome.next (if_neg (by omega))
  · have hkept : s.rdB Reg.AON_STATUS 0 = true → s.comparatorAt vin = true := fun hmains => by
      simp [State.comparatorAt, hset hmains, hlevel.resolve_left (by simp [hmains])]
    refine ⟨_, congrArg Host.Outcome.next (State.supplies_of_mains_kept s vin vbat hkept), ?_, State.comparatorAt_eq s vin, ?_,
      State.regsKept_supplied s vin vbat, rfl⟩
    · exact (State.rdF_supplied_source s vin vbat).trans (aonSupply_eq vin vbat)
    · rw [State.rdB_supplied_mains, Bool.and_eq_left_iff_imp]
      exact hkept
  · exact ⟨_, rfl, State.supplies_of_mains_lost s vin vbat hmains hlow hrun hflush⟩

end Sys2Proof.Machine
end
